-- ==== Sys2Proof/Word.lean ====
section
/-!
DEFINITION. The widths of the machine's words and the two size attributes (00_scope.md R8, R10; 30_encoding.md R142).
-/
namespace Sys2Proof

/-- 8 bits (R10). -/
abbrev Byte := BitVec 8
/-- 16 bits (R10). -/
abbrev Word := BitVec 16
/-- 32 bits (R10). -/
abbrev DWord := BitVec 32

/-- A size attribute: OperandSize, AddressSize or StackAddrSize, each 16 or 32 (R142, R143). -/
inductive Width where
  | w16
  | w32
deriving DecidableEq, Repr

/-- The size of a data operand: byte, word or doubleword (R8). -/
inductive Size where
  | byte
  | word
  | dword
deriving DecidableEq, Repr

/-- How many bytes a size attribute stands for. -/
def Width.bytes : Width → Nat
  | .w16 => 2
  | .w32 => 4

/-- The operand size that a size attribute names. -/
def Width.size : Width → Size
  | .w16 => .word
  | .w32 => .dword

/-- The other of the two attributes: what a 66 or 67 prefix selects (R142). -/
def Width.other : Width → Width
  | .w16 => .w32
  | .w32 => .w16

/-- How many bytes an operand of a size has. -/
def Size.bytes : Size → Nat
  | .byte => 1
  | .word => 2
  | .dword => 4

/-- How many bits an operand of a size has. -/
def Size.bits : Size → Nat
  | .byte => 8
  | .word => 16
  | .dword => 32

end Sys2Proof
end

