-- ==== Sys2Proof/Syntax.lean ====
section
/-!
DEFINITION. The abstract syntax: registers, addressing forms, and `Instr`, whose constructors are the rows of
spec/opcode_table.json (30_encoding.md R180 to R185). The rows of the prefix bytes are constructors too: an instruction is
a list of prefix constructors followed by one of the others.

Immediates and offsets of operand or address size are held in 32 bits, zero-extended (`imm`, `off`) or, for a relative
code offset (`rel` of 32 bits), sign-extended; `WellFormed.lean` says which values a size admits.
-/
namespace Sys2Proof

/-- The eight general registers, in the order of their codes (R20, R150). With a 16-bit operand size the same name stands
for the low half (R21). -/
inductive Reg where
  | eax | ecx | edx | ebx | esp | ebp | esi | edi
deriving DecidableEq, Repr

/-- The eight byte registers, in the order of their codes (R22, R150). -/
inductive Reg8 where
  | al | cl | dl | bl | ah | ch | dh | bh
deriving DecidableEq, Repr

/-- The six segment registers, in the order of their codes (R38). -/
inductive SReg where
  | es | cs | ss | ds | fs | gs
deriving DecidableEq, Repr

/-- The control registers a MOV can name (R177). -/
inductive CReg where
  | cr0 | cr2 | cr3
deriving DecidableEq, Repr

/-- The debug registers a MOV can name (R177). -/
inductive DReg where
  | dr0 | dr1 | dr2 | dr3 | dr6 | dr7
deriving DecidableEq, Repr

/-- The test registers a MOV can name (R177). -/
inductive TReg where
  | tr6 | tr7
deriving DecidableEq, Repr

/-- The scale of a SIB index: 1, 2, 4 or 8 (R154). -/
inductive Scale where
  | x1 | x2 | x4 | x8
deriving DecidableEq, Repr

/-- The register part of a 16-bit effective address, in the order of the rm codes (R152). -/
inductive Base16 where
  | bxSi | bxDi | bpSi | bpDi | si | di | bp | bx
deriving DecidableEq, Repr

/-- An effective address: the 16-bit forms of R152 and the 32-bit forms of R153 and R154. `none` as a base is the form
that has a displacement alone; a displacement byte is held sign-extended. -/
inductive EA where
  | a16 (base : Option Base16) (disp : Word)
  | a32 (base : Option Reg) (index : Option (Reg × Scale)) (disp : DWord)
deriving DecidableEq, Repr

/-- An r/m operand over registers of type `ρ`: mod = 11 names a register, any other mod a memory operand (R151). -/
inductive RM (ρ : Type) where
  | reg (r : ρ)
  | mem (m : EA)
deriving DecidableEq, Repr

/-- The OperandSize and AddressSize an instruction is read under (R142). -/
structure Attrs where
  osz : Width
  asz : Width
deriving DecidableEq, Repr

/-- The count operand of a shift or rotate: the D0 and D1 rows, the D2 and D3 rows, the C0 and C1 rows (R184, R256). -/
inductive Count where
  | one
  | cl
  | imm (v : Byte)
deriving DecidableEq, Repr

/-- The immediate of `op r/m16/32, imm`: a byte that is sign-extended (opcode 83), or one of operand size (opcode 81)
(R160). -/
inductive Imm where
  | short (v : Byte)
  | full (v : DWord)
deriving DecidableEq, Repr

/-- The instructions. Every row of spec/opcode_table.json is a constructor, but that the rows of one shift that differ in
the count (by 1, by CL, by imm8) are one constructor with a `Count` operand, and the two immediate rows 81 and 83 of one
arithmetic instruction are one with an `Imm` operand: compiled Lean has room for 245 constructors with operands in one
type. For the same reason the constructors with operands come first; otherwise the order is the table's. A name says the
operands: `Rm8` and `Rmv` an r/m operand of byte and of operand size, `R8` and `Rv` a register, `Imm8` and `Immv` an
immediate. -/
inductive Instr where
  /-- ADD: 00 /r, r/m8,r8 (R202). -/
  | addRm8R8 (rm : RM Reg8) (r : Reg8)
  /-- ADD: 01 /r, r/m16/32,r16/32 (R202). -/
  | addRmvRv (rm : RM Reg) (r : Reg)
  /-- ADD: 02 /r, r8,r/m8 (R202). -/
  | addR8Rm8 (r : Reg8) (rm : RM Reg8)
  /-- ADD: 03 /r, r16/32,r/m16/32 (R202). -/
  | addRvRmv (r : Reg) (rm : RM Reg)
  /-- ADD: 04 ib, AL,imm8 (R202). -/
  | addAlImm8 (imm : Byte)
  /-- ADD: 05 iw/id, AX/EAX,imm16/32 (R202). -/
  | addEaxImmv (imm : DWord)
  /-- ADD: 80 /0 ib, r/m8,imm8 (R202). -/
  | addRm8Imm8 (rm : RM Reg8) (imm : Byte)
  /-- ADD: 81 /0 iw/id, 83 /0 ib, r/m16/32,imm16/32 or imm8 sign-extended (R202). -/
  | addRmvImm (rm : RM Reg) (imm : Imm)
  /-- OR: 08 /r, r/m8,r8 (R211). -/
  | orRm8R8 (rm : RM Reg8) (r : Reg8)
  /-- OR: 09 /r, r/m16/32,r16/32 (R211). -/
  | orRmvRv (rm : RM Reg) (r : Reg)
  /-- OR: 0A /r, r8,r/m8 (R211). -/
  | orR8Rm8 (r : Reg8) (rm : RM Reg8)
  /-- OR: 0B /r, r16/32,r/m16/32 (R211). -/
  | orRvRmv (r : Reg) (rm : RM Reg)
  /-- OR: 0C ib, AL,imm8 (R211). -/
  | orAlImm8 (imm : Byte)
  /-- OR: 0D iw/id, AX/EAX,imm16/32 (R211). -/
  | orEaxImmv (imm : DWord)
  /-- OR: 80 /1 ib, r/m8,imm8 (R211). -/
  | orRm8Imm8 (rm : RM Reg8) (imm : Byte)
  /-- OR: 81 /1 iw/id, 83 /1 ib, r/m16/32,imm16/32 or imm8 sign-extended (R211). -/
  | orRmvImm (rm : RM Reg) (imm : Imm)
  /-- ADC: 10 /r, r/m8,r8 (R203). -/
  | adcRm8R8 (rm : RM Reg8) (r : Reg8)
  /-- ADC: 11 /r, r/m16/32,r16/32 (R203). -/
  | adcRmvRv (rm : RM Reg) (r : Reg)
  /-- ADC: 12 /r, r8,r/m8 (R203). -/
  | adcR8Rm8 (r : Reg8) (rm : RM Reg8)
  /-- ADC: 13 /r, r16/32,r/m16/32 (R203). -/
  | adcRvRmv (r : Reg) (rm : RM Reg)
  /-- ADC: 14 ib, AL,imm8 (R203). -/
  | adcAlImm8 (imm : Byte)
  /-- ADC: 15 iw/id, AX/EAX,imm16/32 (R203). -/
  | adcEaxImmv (imm : DWord)
  /-- ADC: 80 /2 ib, r/m8,imm8 (R203). -/
  | adcRm8Imm8 (rm : RM Reg8) (imm : Byte)
  /-- ADC: 81 /2 iw/id, 83 /2 ib, r/m16/32,imm16/32 or imm8 sign-extended (R203). -/
  | adcRmvImm (rm : RM Reg) (imm : Imm)
  /-- SBB: 18 /r, r/m8,r8 (R205). -/
  | sbbRm8R8 (rm : RM Reg8) (r : Reg8)
  /-- SBB: 19 /r, r/m16/32,r16/32 (R205). -/
  | sbbRmvRv (rm : RM Reg) (r : Reg)
  /-- SBB: 1A /r, r8,r/m8 (R205). -/
  | sbbR8Rm8 (r : Reg8) (rm : RM Reg8)
  /-- SBB: 1B /r, r16/32,r/m16/32 (R205). -/
  | sbbRvRmv (r : Reg) (rm : RM Reg)
  /-- SBB: 1C ib, AL,imm8 (R205). -/
  | sbbAlImm8 (imm : Byte)
  /-- SBB: 1D iw/id, AX/EAX,imm16/32 (R205). -/
  | sbbEaxImmv (imm : DWord)
  /-- SBB: 80 /3 ib, r/m8,imm8 (R205). -/
  | sbbRm8Imm8 (rm : RM Reg8) (imm : Byte)
  /-- SBB: 81 /3 iw/id, 83 /3 ib, r/m16/32,imm16/32 or imm8 sign-extended (R205). -/
  | sbbRmvImm (rm : RM Reg) (imm : Imm)
  /-- AND: 20 /r, r/m8,r8 (R210). -/
  | andRm8R8 (rm : RM Reg8) (r : Reg8)
  /-- AND: 21 /r, r/m16/32,r16/32 (R210). -/
  | andRmvRv (rm : RM Reg) (r : Reg)
  /-- AND: 22 /r, r8,r/m8 (R210). -/
  | andR8Rm8 (r : Reg8) (rm : RM Reg8)
  /-- AND: 23 /r, r16/32,r/m16/32 (R210). -/
  | andRvRmv (r : Reg) (rm : RM Reg)
  /-- AND: 24 ib, AL,imm8 (R210). -/
  | andAlImm8 (imm : Byte)
  /-- AND: 25 iw/id, AX/EAX,imm16/32 (R210). -/
  | andEaxImmv (imm : DWord)
  /-- AND: 80 /4 ib, r/m8,imm8 (R210). -/
  | andRm8Imm8 (rm : RM Reg8) (imm : Byte)
  /-- AND: 81 /4 iw/id, 83 /4 ib, r/m16/32,imm16/32 or imm8 sign-extended (R210). -/
  | andRmvImm (rm : RM Reg) (imm : Imm)
  /-- SUB: 28 /r, r/m8,r8 (R204). -/
  | subRm8R8 (rm : RM Reg8) (r : Reg8)
  /-- SUB: 29 /r, r/m16/32,r16/32 (R204). -/
  | subRmvRv (rm : RM Reg) (r : Reg)
  /-- SUB: 2A /r, r8,r/m8 (R204). -/
  | subR8Rm8 (r : Reg8) (rm : RM Reg8)
  /-- SUB: 2B /r, r16/32,r/m16/32 (R204). -/
  | subRvRmv (r : Reg) (rm : RM Reg)
  /-- SUB: 2C ib, AL,imm8 (R204). -/
  | subAlImm8 (imm : Byte)
  /-- SUB: 2D iw/id, AX/EAX,imm16/32 (R204). -/
  | subEaxImmv (imm : DWord)
  /-- SUB: 80 /5 ib, r/m8,imm8 (R204). -/
  | subRm8Imm8 (rm : RM Reg8) (imm : Byte)
  /-- SUB: 81 /5 iw/id, 83 /5 ib, r/m16/32,imm16/32 or imm8 sign-extended (R204). -/
  | subRmvImm (rm : RM Reg) (imm : Imm)
  /-- XOR: 30 /r, r/m8,r8 (R212). -/
  | xorRm8R8 (rm : RM Reg8) (r : Reg8)
  /-- XOR: 31 /r, r/m16/32,r16/32 (R212). -/
  | xorRmvRv (rm : RM Reg) (r : Reg)
  /-- XOR: 32 /r, r8,r/m8 (R212). -/
  | xorR8Rm8 (r : Reg8) (rm : RM Reg8)
  /-- XOR: 33 /r, r16/32,r/m16/32 (R212). -/
  | xorRvRmv (r : Reg) (rm : RM Reg)
  /-- XOR: 34 ib, AL,imm8 (R212). -/
  | xorAlImm8 (imm : Byte)
  /-- XOR: 35 iw/id, AX/EAX,imm16/32 (R212). -/
  | xorEaxImmv (imm : DWord)
  /-- XOR: 80 /6 ib, r/m8,imm8 (R212). -/
  | xorRm8Imm8 (rm : RM Reg8) (imm : Byte)
  /-- XOR: 81 /6 iw/id, 83 /6 ib, r/m16/32,imm16/32 or imm8 sign-extended (R212). -/
  | xorRmvImm (rm : RM Reg) (imm : Imm)
  /-- CMP: 38 /r, r/m8,r8 (R206). -/
  | cmpRm8R8 (rm : RM Reg8) (r : Reg8)
  /-- CMP: 39 /r, r/m16/32,r16/32 (R206). -/
  | cmpRmvRv (rm : RM Reg) (r : Reg)
  /-- CMP: 3A /r, r8,r/m8 (R206). -/
  | cmpR8Rm8 (r : Reg8) (rm : RM Reg8)
  /-- CMP: 3B /r, r16/32,r/m16/32 (R206). -/
  | cmpRvRmv (r : Reg) (rm : RM Reg)
  /-- CMP: 3C ib, AL,imm8 (R206). -/
  | cmpAlImm8 (imm : Byte)
  /-- CMP: 3D iw/id, AX/EAX,imm16/32 (R206). -/
  | cmpEaxImmv (imm : DWord)
  /-- CMP: 80 /7 ib, r/m8,imm8 (R206). -/
  | cmpRm8Imm8 (rm : RM Reg8) (imm : Byte)
  /-- CMP: 81 /7 iw/id, 83 /7 ib, r/m16/32,imm16/32 or imm8 sign-extended (R206). -/
  | cmpRmvImm (rm : RM Reg) (imm : Imm)
  /-- INC: 40+rw/rd, r16/32 (R207). -/
  | incRv (r : Reg)
  /-- DEC: 48+rw/rd, r16/32 (R208). -/
  | decRv (r : Reg)
  /-- PUSH: 50+rw/rd, r16/32 (R320). -/
  | pushRv (r : Reg)
  /-- POP: 58+rw/rd, r16/32 (R322). -/
  | popRv (r : Reg)
  /-- BOUND: 62 /r, r16/32,m16&16/m32&32 (R332). -/
  | bound (r : Reg) (m : EA)
  /-- ARPL: 63 /r, r/m16,r16 (R452). -/
  | arpl (rm : RM Reg) (r : Reg)
  /-- PUSH: 68 iw/id, imm16/32 (R320). -/
  | pushImmv (imm : DWord)
  /-- IMUL: 69 /r iw/id, r16/32,r/m16/32,imm16/32 (R253). -/
  | imulRvRmvImmv (r : Reg) (rm : RM Reg) (imm : DWord)
  /-- PUSH: 6A ib, imm8 (sign-extended) (R320). -/
  | pushImm8 (imm : Byte)
  /-- IMUL: 6B /r ib, r16/32,r/m16/32,imm8 (sign-extended) (R253). -/
  | imulRvRmvImm8 (r : Reg) (rm : RM Reg) (imm : Byte)
  /-- JO: 70 cb, rel8 (R391). -/
  | jo8 (rel : Byte)
  /-- JNO: 71 cb, rel8 (R391). -/
  | jno8 (rel : Byte)
  /-- JB: 72 cb, rel8 (R391). -/
  | jb8 (rel : Byte)
  /-- JAE: 73 cb, rel8 (R391). -/
  | jae8 (rel : Byte)
  /-- JE: 74 cb, rel8 (R391). -/
  | je8 (rel : Byte)
  /-- JNE: 75 cb, rel8 (R391). -/
  | jne8 (rel : Byte)
  /-- JBE: 76 cb, rel8 (R391). -/
  | jbe8 (rel : Byte)
  /-- JA: 77 cb, rel8 (R391). -/
  | ja8 (rel : Byte)
  /-- JS: 78 cb, rel8 (R391). -/
  | js8 (rel : Byte)
  /-- JNS: 79 cb, rel8 (R391). -/
  | jns8 (rel : Byte)
  /-- JP: 7A cb, rel8 (R391). -/
  | jp8 (rel : Byte)
  /-- JNP: 7B cb, rel8 (R391). -/
  | jnp8 (rel : Byte)
  /-- JL: 7C cb, rel8 (R391). -/
  | jl8 (rel : Byte)
  /-- JGE: 7D cb, rel8 (R391). -/
  | jge8 (rel : Byte)
  /-- JLE: 7E cb, rel8 (R391). -/
  | jle8 (rel : Byte)
  /-- JG: 7F cb, rel8 (R391). -/
  | jg8 (rel : Byte)
  /-- TEST: 84 /r, r/m8,r8 (R213). -/
  | testRm8R8 (rm : RM Reg8) (r : Reg8)
  /-- TEST: 85 /r, r/m16/32,r16/32 (R213). -/
  | testRmvRv (rm : RM Reg) (r : Reg)
  /-- XCHG: 86 /r, r/m8,r8 (R307). -/
  | xchgRm8R8 (rm : RM Reg8) (r : Reg8)
  /-- XCHG: 87 /r, r/m16/32,r16/32 (R307). -/
  | xchgRmvRv (rm : RM Reg) (r : Reg)
  /-- MOV: 88 /r, r/m8,r8 (R302). -/
  | movRm8R8 (rm : RM Reg8) (r : Reg8)
  /-- MOV: 89 /r, r/m16/32,r16/32 (R302). -/
  | movRmvRv (rm : RM Reg) (r : Reg)
  /-- MOV: 8A /r, r8,r/m8 (R302). -/
  | movR8Rm8 (r : Reg8) (rm : RM Reg8)
  /-- MOV: 8B /r, r16/32,r/m16/32 (R302). -/
  | movRvRmv (r : Reg) (rm : RM Reg)
  /-- MOV: 8C /r, r/m16,Sreg (R303). -/
  | movRmvSreg (rm : RM Reg) (sr : SReg)
  /-- LEA: 8D /r, r16/32,m (R309). -/
  | lea (r : Reg) (m : EA)
  /-- MOV: 8E /r, Sreg,r/m16 (R304). -/
  | movSregRm16 (sr : SReg) (rm : RM Reg)
  /-- POP: 8F /0, m16/32 (R322). -/
  | popRmv (rm : RM Reg)
  /-- XCHG: 90+rw/rd, AX/EAX,r16/32 (R307). -/
  | xchgEaxRv (r : Reg)
  /-- CALL: 9A cd/cp, ptr16:16/ptr16:32 (R404). -/
  | callFarPtr (off : DWord) (sel : Word)
  /-- MOV: A0 moffs, AL,moffs8 (R302). -/
  | movAlMoffs (off : DWord)
  /-- MOV: A1 moffs, AX/EAX,moffs16/32 (R302). -/
  | movEaxMoffs (off : DWord)
  /-- MOV: A2 moffs, moffs8,AL (R302). -/
  | movMoffsAl (off : DWord)
  /-- MOV: A3 moffs, moffs16/32,AX/EAX (R302). -/
  | movMoffsEax (off : DWord)
  /-- TEST: A8 ib, AL,imm8 (R213). -/
  | testAlImm8 (imm : Byte)
  /-- TEST: A9 iw/id, AX/EAX,imm16/32 (R213). -/
  | testEaxImmv (imm : DWord)
  /-- MOV: B0+rb ib, r8,imm8 (R302). -/
  | movR8Imm8 (r : Reg8) (imm : Byte)
  /-- MOV: B8+rw/rd iw/id, r16/32,imm16/32 (R302). -/
  | movRvImmv (r : Reg) (imm : DWord)
  /-- ROL: D0 /0, D2 /0, C0 /0 ib, r/m8 by 1, CL or imm8 (R257). -/
  | rolRm8 (rm : RM Reg8) (count : Count)
  /-- ROL: D1 /0, D3 /0, C1 /0 ib, r/m16/32 by 1, CL or imm8 (R257). -/
  | rolRmv (rm : RM Reg) (count : Count)
  /-- ROR: D0 /1, D2 /1, C0 /1 ib, r/m8 by 1, CL or imm8 (R258). -/
  | rorRm8 (rm : RM Reg8) (count : Count)
  /-- ROR: D1 /1, D3 /1, C1 /1 ib, r/m16/32 by 1, CL or imm8 (R258). -/
  | rorRmv (rm : RM Reg) (count : Count)
  /-- RCL: D0 /2, D2 /2, C0 /2 ib, r/m8 by 1, CL or imm8 (R259). -/
  | rclRm8 (rm : RM Reg8) (count : Count)
  /-- RCL: D1 /2, D3 /2, C1 /2 ib, r/m16/32 by 1, CL or imm8 (R259). -/
  | rclRmv (rm : RM Reg) (count : Count)
  /-- RCR: D0 /3, D2 /3, C0 /3 ib, r/m8 by 1, CL or imm8 (R260). -/
  | rcrRm8 (rm : RM Reg8) (count : Count)
  /-- RCR: D1 /3, D3 /3, C1 /3 ib, r/m16/32 by 1, CL or imm8 (R260). -/
  | rcrRmv (rm : RM Reg) (count : Count)
  /-- SAL_SHL: D0 /4, D2 /4, C0 /4 ib, r/m8 by 1, CL or imm8 (R261). -/
  | salRm8 (rm : RM Reg8) (count : Count)
  /-- SAL_SHL: D1 /4, D3 /4, C1 /4 ib, r/m16/32 by 1, CL or imm8 (R261). -/
  | salRmv (rm : RM Reg) (count : Count)
  /-- SHR: D0 /5, D2 /5, C0 /5 ib, r/m8 by 1, CL or imm8 (R262). -/
  | shrRm8 (rm : RM Reg8) (count : Count)
  /-- SHR: D1 /5, D3 /5, C1 /5 ib, r/m16/32 by 1, CL or imm8 (R262). -/
  | shrRmv (rm : RM Reg) (count : Count)
  /-- SAR: D0 /7, D2 /7, C0 /7 ib, r/m8 by 1, CL or imm8 (R263). -/
  | sarRm8 (rm : RM Reg8) (count : Count)
  /-- SAR: D1 /7, D3 /7, C1 /7 ib, r/m16/32 by 1, CL or imm8 (R263). -/
  | sarRmv (rm : RM Reg) (count : Count)
  /-- RET: C2 iw, near, imm16 (R401). -/
  | retNearImm (n : Word)
  /-- LES: C4 /r, r16/32,m16:16/m16:32 (R312). -/
  | les (r : Reg) (m : EA)
  /-- LDS: C5 /r, r16/32,m16:16/m16:32 (R311). -/
  | lds (r : Reg) (m : EA)
  /-- MOV: C6 /0 ib, r/m8,imm8 (R302). -/
  | movRm8Imm8 (rm : RM Reg8) (imm : Byte)
  /-- MOV: C7 /0 iw/id, r/m16/32,imm16/32 (R302). -/
  | movRmvImmv (rm : RM Reg) (imm : DWord)
  /-- ENTER: C8 iw ib, imm16,imm8 (R330). -/
  | enter (n : Word) (level : Byte)
  /-- RET: CA iw, far, imm16 (R405). -/
  | retFarImm (n : Word)
  /-- INT: CD ib, imm8 (R430). -/
  | int (n : Byte)
  /-- ESC: D8-DF /r (R176). -/
  | esc (op : BitVec 3) (ext : BitVec 3) (rm : RM Reg)
  /-- LOOPNE_LOOPNZ: E0 cb, rel8 (R396). -/
  | loopne (rel : Byte)
  /-- LOOPE_LOOPZ: E1 cb, rel8 (R395). -/
  | loope (rel : Byte)
  /-- LOOP: E2 cb, rel8 (R394). -/
  | loop (rel : Byte)
  /-- JCXZ_JECXZ: E3 cb, rel8 (R393). -/
  | jcxz (rel : Byte)
  /-- IN: E4 ib, AL,imm8 (R340). -/
  | inAlImm8 (port : Byte)
  /-- IN: E5 ib, AX/EAX,imm8 (R340). -/
  | inEaxImm8 (port : Byte)
  /-- OUT: E6 ib, imm8,AL (R341). -/
  | outImm8Al (port : Byte)
  /-- OUT: E7 ib, imm8,AX/EAX (R341). -/
  | outImm8Eax (port : Byte)
  /-- CALL: E8 cw/cd, rel16/32 (R399). -/
  | callRelv (rel : DWord)
  /-- JMP: E9 cw/cd, rel16/32 (R397). -/
  | jmpRelv (rel : DWord)
  /-- JMP: EA cd/cp, ptr16:16/ptr16:32 (R403). -/
  | jmpFarPtr (off : DWord) (sel : Word)
  /-- JMP: EB cb, rel8 (R397). -/
  | jmpRel8 (rel : Byte)
  /-- TEST: F6 /0 ib, r/m8,imm8 (R213). -/
  | testRm8Imm8 (rm : RM Reg8) (imm : Byte)
  /-- TEST: F7 /0 iw/id, r/m16/32,imm16/32 (R213). -/
  | testRmvImmv (rm : RM Reg) (imm : DWord)
  /-- NOT: F6 /2, r/m8 (R214). -/
  | notRm8 (rm : RM Reg8)
  /-- NOT: F7 /2, r/m16/32 (R214). -/
  | notRmv (rm : RM Reg)
  /-- NEG: F6 /3, r/m8 (R209). -/
  | negRm8 (rm : RM Reg8)
  /-- NEG: F7 /3, r/m16/32 (R209). -/
  | negRmv (rm : RM Reg)
  /-- MUL: F6 /4, r/m8 (R251). -/
  | mulRm8 (rm : RM Reg8)
  /-- MUL: F7 /4, r/m16/32 (R251). -/
  | mulRmv (rm : RM Reg)
  /-- IMUL: F6 /5, r/m8 (R252). -/
  | imulRm8 (rm : RM Reg8)
  /-- IMUL: F7 /5, r/m16/32 (R252). -/
  | imulRmv (rm : RM Reg)
  /-- DIV: F6 /6, r/m8 (R254). -/
  | divRm8 (rm : RM Reg8)
  /-- DIV: F7 /6, r/m16/32 (R254). -/
  | divRmv (rm : RM Reg)
  /-- IDIV: F6 /7, r/m8 (R255). -/
  | idivRm8 (rm : RM Reg8)
  /-- IDIV: F7 /7, r/m16/32 (R255). -/
  | idivRmv (rm : RM Reg)
  /-- INC: FE /0, r/m8 (R207). -/
  | incRm8 (rm : RM Reg8)
  /-- DEC: FE /1, r/m8 (R208). -/
  | decRm8 (rm : RM Reg8)
  /-- INC: FF /0, r/m16/32 (R207). -/
  | incRmv (rm : RM Reg)
  /-- DEC: FF /1, r/m16/32 (R208). -/
  | decRmv (rm : RM Reg)
  /-- CALL: FF /2, r/m16/32 (near indirect) (R400). -/
  | callRmv (rm : RM Reg)
  /-- CALL: FF /3, m16:16/m16:32 (far indirect) (R404). -/
  | callFarMem (m : EA)
  /-- JMP: FF /4, r/m16/32 (near indirect) (R398). -/
  | jmpRmv (rm : RM Reg)
  /-- JMP: FF /5, m16:16/m16:32 (far indirect) (R403). -/
  | jmpFarMem (m : EA)
  /-- PUSH: FF /6, m16/32 (R320). -/
  | pushRmv (rm : RM Reg)
  /-- SLDT: 0F 00 /0, r/m16 (R459). -/
  | sldt (rm : RM Reg)
  /-- STR: 0F 00 /1, r/m16 (R463). -/
  | str (rm : RM Reg)
  /-- LLDT: 0F 00 /2, r/m16 (R458). -/
  | lldt (rm : RM Reg)
  /-- LTR: 0F 00 /3, r/m16 (R462). -/
  | ltr (rm : RM Reg)
  /-- VERR: 0F 00 /4, r/m16 (R460). -/
  | verr (rm : RM Reg)
  /-- VERW: 0F 00 /5, r/m16 (R461). -/
  | verw (rm : RM Reg)
  /-- SGDT: 0F 01 /0, m (R457). -/
  | sgdt (m : EA)
  /-- SIDT: 0F 01 /1, m (R457). -/
  | sidt (m : EA)
  /-- LGDT: 0F 01 /2, m16&32 (R456). -/
  | lgdt (m : EA)
  /-- LIDT: 0F 01 /3, m16&32 (R456). -/
  | lidt (m : EA)
  /-- SMSW: 0F 01 /4, r/m16 (R465). -/
  | smsw (rm : RM Reg)
  /-- LMSW: 0F 01 /6, r/m16 (R464). -/
  | lmsw (rm : RM Reg)
  /-- LAR: 0F 02 /r, r16/32,r/m16/32 (R453). -/
  | lar (r : Reg) (rm : RM Reg)
  /-- LSL: 0F 03 /r, r16/32,r/m16/32 (R454). -/
  | lsl (r : Reg) (rm : RM Reg)
  /-- MOV: 0F 20 /r, r32,CR0/CR2/CR3 (R466). -/
  | movRdCr (r : Reg) (c : CReg)
  /-- MOV: 0F 21 /r, r32,DR0-3/DR6/DR7 (R467). -/
  | movRdDr (r : Reg) (d : DReg)
  /-- MOV: 0F 22 /r, CR0/CR2/CR3,r32 (R466). -/
  | movCrRd (c : CReg) (r : Reg)
  /-- MOV: 0F 23 /r, DR0-3/DR6/DR7,r32 (R467). -/
  | movDrRd (d : DReg) (r : Reg)
  /-- MOV: 0F 24 /r, r32,TR6/TR7 (R468). -/
  | movRdTr (r : Reg) (t : TReg)
  /-- MOV: 0F 26 /r, TR6/TR7,r32 (R468). -/
  | movTrRd (t : TReg) (r : Reg)
  /-- JO: 0F 80 cw/cd, rel16/32 (R392). -/
  | joNear (rel : DWord)
  /-- JNO: 0F 81 cw/cd, rel16/32 (R392). -/
  | jnoNear (rel : DWord)
  /-- JB: 0F 82 cw/cd, rel16/32 (R392). -/
  | jbNear (rel : DWord)
  /-- JAE: 0F 83 cw/cd, rel16/32 (R392). -/
  | jaeNear (rel : DWord)
  /-- JE: 0F 84 cw/cd, rel16/32 (R392). -/
  | jeNear (rel : DWord)
  /-- JNE: 0F 85 cw/cd, rel16/32 (R392). -/
  | jneNear (rel : DWord)
  /-- JBE: 0F 86 cw/cd, rel16/32 (R392). -/
  | jbeNear (rel : DWord)
  /-- JA: 0F 87 cw/cd, rel16/32 (R392). -/
  | jaNear (rel : DWord)
  /-- JS: 0F 88 cw/cd, rel16/32 (R392). -/
  | jsNear (rel : DWord)
  /-- JNS: 0F 89 cw/cd, rel16/32 (R392). -/
  | jnsNear (rel : DWord)
  /-- JP: 0F 8A cw/cd, rel16/32 (R392). -/
  | jpNear (rel : DWord)
  /-- JNP: 0F 8B cw/cd, rel16/32 (R392). -/
  | jnpNear (rel : DWord)
  /-- JL: 0F 8C cw/cd, rel16/32 (R392). -/
  | jlNear (rel : DWord)
  /-- JGE: 0F 8D cw/cd, rel16/32 (R392). -/
  | jgeNear (rel : DWord)
  /-- JLE: 0F 8E cw/cd, rel16/32 (R392). -/
  | jleNear (rel : DWord)
  /-- JG: 0F 8F cw/cd, rel16/32 (R392). -/
  | jgNear (rel : DWord)
  /-- SETO: 0F 90 /r, r/m8 (R273). -/
  | seto (rm : RM Reg8)
  /-- SETNO: 0F 91 /r, r/m8 (R273). -/
  | setno (rm : RM Reg8)
  /-- SETB: 0F 92 /r, r/m8 (R273). -/
  | setb (rm : RM Reg8)
  /-- SETAE: 0F 93 /r, r/m8 (R273). -/
  | setae (rm : RM Reg8)
  /-- SETE: 0F 94 /r, r/m8 (R273). -/
  | sete (rm : RM Reg8)
  /-- SETNE: 0F 95 /r, r/m8 (R273). -/
  | setne (rm : RM Reg8)
  /-- SETBE: 0F 96 /r, r/m8 (R273). -/
  | setbe (rm : RM Reg8)
  /-- SETA: 0F 97 /r, r/m8 (R273). -/
  | seta (rm : RM Reg8)
  /-- SETS: 0F 98 /r, r/m8 (R273). -/
  | sets (rm : RM Reg8)
  /-- SETNS: 0F 99 /r, r/m8 (R273). -/
  | setns (rm : RM Reg8)
  /-- SETP: 0F 9A /r, r/m8 (R273). -/
  | setp (rm : RM Reg8)
  /-- SETNP: 0F 9B /r, r/m8 (R273). -/
  | setnp (rm : RM Reg8)
  /-- SETL: 0F 9C /r, r/m8 (R273). -/
  | setl (rm : RM Reg8)
  /-- SETGE: 0F 9D /r, r/m8 (R273). -/
  | setge (rm : RM Reg8)
  /-- SETLE: 0F 9E /r, r/m8 (R273). -/
  | setle (rm : RM Reg8)
  /-- SETG: 0F 9F /r, r/m8 (R273). -/
  | setg (rm : RM Reg8)
  /-- BT: 0F A3 /r, r/m16/32,r16/32 (R267). -/
  | btRmvRv (rm : RM Reg) (r : Reg)
  /-- SHLD: 0F A4 /r ib, r/m16/32,r16/32,imm8 (R264). -/
  | shldImm8 (rm : RM Reg) (r : Reg) (imm : Byte)
  /-- SHLD: 0F A5 /r, r/m16/32,r16/32,CL (R264). -/
  | shldCl (rm : RM Reg) (r : Reg)
  /-- BTS: 0F AB /r, r/m16/32,r16/32 (R268). -/
  | btsRmvRv (rm : RM Reg) (r : Reg)
  /-- SHRD: 0F AC /r ib, r/m16/32,r16/32,imm8 (R265). -/
  | shrdImm8 (rm : RM Reg) (r : Reg) (imm : Byte)
  /-- SHRD: 0F AD /r, r/m16/32,r16/32,CL (R265). -/
  | shrdCl (rm : RM Reg) (r : Reg)
  /-- IMUL: 0F AF /r, r16/32,r/m16/32 (R253). -/
  | imulRvRmv (r : Reg) (rm : RM Reg)
  /-- LSS: 0F B2 /r, r16/32,m16:16/m16:32 (R315). -/
  | lss (r : Reg) (m : EA)
  /-- BTR: 0F B3 /r, r/m16/32,r16/32 (R269). -/
  | btrRmvRv (rm : RM Reg) (r : Reg)
  /-- LFS: 0F B4 /r, r16/32,m16:16/m16:32 (R313). -/
  | lfs (r : Reg) (m : EA)
  /-- LGS: 0F B5 /r, r16/32,m16:16/m16:32 (R314). -/
  | lgs (r : Reg) (m : EA)
  /-- MOVZX: 0F B6 /r, r16/32,r/m8 (R306). -/
  | movzxRvRm8 (r : Reg) (rm : RM Reg8)
  /-- MOVZX: 0F B7 /r, r32,r/m16 (R306). -/
  | movzxRdRm16 (r : Reg) (rm : RM Reg)
  /-- BT: 0F BA /4 ib, r/m16/32,imm8 (R267). -/
  | btRmvImm8 (rm : RM Reg) (imm : Byte)
  /-- BTS: 0F BA /5 ib, r/m16/32,imm8 (R268). -/
  | btsRmvImm8 (rm : RM Reg) (imm : Byte)
  /-- BTR: 0F BA /6 ib, r/m16/32,imm8 (R269). -/
  | btrRmvImm8 (rm : RM Reg) (imm : Byte)
  /-- BTC: 0F BA /7 ib, r/m16/32,imm8 (R270). -/
  | btcRmvImm8 (rm : RM Reg) (imm : Byte)
  /-- BTC: 0F BB /r, r/m16/32,r16/32 (R270). -/
  | btcRmvRv (rm : RM Reg) (r : Reg)
  /-- BSF: 0F BC /r, r16/32,r/m16/32 (R271). -/
  | bsf (r : Reg) (rm : RM Reg)
  /-- BSR: 0F BD /r, r16/32,r/m16/32 (R272). -/
  | bsr (r : Reg) (rm : RM Reg)
  /-- MOVSX: 0F BE /r, r16/32,r/m8 (R305). -/
  | movsxRvRm8 (r : Reg) (rm : RM Reg8)
  /-- MOVSX: 0F BF /r, r32,r/m16 (R305). -/
  | movsxRdRm16 (r : Reg) (rm : RM Reg)
  /-- PUSH: 06, ES (R321). -/
  | pushEs
  /-- POP: 07, ES (R323). -/
  | popEs
  /-- PUSH: 0E, CS (R321). -/
  | pushCs
  /-- PUSH: 16, SS (R321). -/
  | pushSs
  /-- POP: 17, SS (R323). -/
  | popSs
  /-- PUSH: 1E, DS (R321). -/
  | pushDs
  /-- POP: 1F, DS (R323). -/
  | popDs
  /-- PUSH: 0F A0, FS (R321). -/
  | pushFs
  /-- POP: 0F A1, FS (R323). -/
  | popFs
  /-- PUSH: 0F A8, GS (R321). -/
  | pushGs
  /-- POP: 0F A9, GS (R323). -/
  | popGs
  /-- DAA: 27 (R221). -/
  | daa
  /-- DAS: 2F (R222). -/
  | das
  /-- AAA: 37 (R217). -/
  | aaa
  /-- AAS: 3F (R218). -/
  | aas
  /-- ES: 26 (prefix) (R141). -/
  | esOverride
  /-- CS: 2E (prefix) (R141). -/
  | csOverride
  /-- SS: 36 (prefix) (R141). -/
  | ssOverride
  /-- DS: 3E (prefix) (R141). -/
  | dsOverride
  /-- FS: 64 (prefix) (R141). -/
  | fsOverride
  /-- GS: 65 (prefix) (R141). -/
  | gsOverride
  /-- OPSIZE: 66 (prefix) (R142). -/
  | operandSize
  /-- ADDRSIZE: 67 (prefix) (R142). -/
  | addressSize
  /-- LOCK: F0 (prefix) (R366). -/
  | lock
  /-- REPNE: F2 (prefix) (R378). -/
  | repne
  /-- REP_REPE: F3 (prefix) (R378). -/
  | rep
  /-- PUSHA_PUSHAD: 60 (R324). -/
  | pusha
  /-- POPA_POPAD: 61 (R325). -/
  | popa
  /-- INSB: 6C, ES:[(E)DI],DX; byte (R376). -/
  | insb
  /-- INSW_INSD: 6D, ES:[(E)DI],DX; word or dword by OperandSize (R376). -/
  | insv
  /-- OUTSB: 6E, DX,seg:[(E)SI]; byte (R377). -/
  | outsb
  /-- OUTSW_OUTSD: 6F, DX,seg:[(E)SI]; word or dword by OperandSize (R377). -/
  | outsv
  /-- NOP: 90 (R360). -/
  | nop
  /-- CBW_CWDE: 98 (R215). -/
  | cbw
  /-- CWD_CDQ: 99 (R216). -/
  | cwd
  /-- WAIT: 9B (R364). -/
  | wait
  /-- PUSHF_PUSHFD: 9C (R326). -/
  | pushf
  /-- POPF_POPFD: 9D (R327). -/
  | popf
  /-- SAHF: 9E (R329). -/
  | sahf
  /-- LAHF: 9F (R328). -/
  | lahf
  /-- MOVSB: A4, byte (R371). -/
  | movsb
  /-- MOVSW_MOVSD: A5, word or dword by OperandSize (R371). -/
  | movsv
  /-- CMPSB: A6, byte (R372). -/
  | cmpsb
  /-- CMPSW_CMPSD: A7, word or dword by OperandSize (R372). -/
  | cmpsv
  /-- STOSB: AA, byte (R375). -/
  | stosb
  /-- STOSW_STOSD: AB, word or dword by OperandSize (R375). -/
  | stosv
  /-- LODSB: AC, byte (R374). -/
  | lodsb
  /-- LODSW_LODSD: AD, word or dword by OperandSize (R374). -/
  | lodsv
  /-- SCASB: AE, byte (R373). -/
  | scasb
  /-- SCASW_SCASD: AF, word or dword by OperandSize (R373). -/
  | scasv
  /-- RET: C3, near (R401). -/
  | retNear
  /-- LEAVE: C9 (R331). -/
  | leave
  /-- RET: CB, far (R405). -/
  | retFar
  /-- INT_3: CC (R431). -/
  | int3
  /-- INTO: CE (R432). -/
  | into
  /-- IRET_IRETD: CF (R436). -/
  | iret
  /-- AAM: D4 0A (R220). -/
  | aam
  /-- AAD: D5 0A (R219). -/
  | aad
  /-- XLAT_XLATB: D7 (R308). -/
  | xlat
  /-- IN: EC, AL,DX (R340). -/
  | inAlDx
  /-- IN: ED, AX/EAX,DX (R340). -/
  | inEaxDx
  /-- OUT: EE, DX,AL (R341). -/
  | outDxAl
  /-- OUT: EF, DX,AX/EAX (R341). -/
  | outDxEax
  /-- HLT: F4 (R361). -/
  | hlt
  /-- CMC: F5 (R352). -/
  | cmc
  /-- CLC: F8 (R350). -/
  | clc
  /-- STC: F9 (R351). -/
  | stc
  /-- CLI: FA (R355). -/
  | cli
  /-- STI: FB (R356). -/
  | sti
  /-- CLD: FC (R353). -/
  | cld
  /-- STD: FD (R354). -/
  | std
  /-- CLTS: 0F 06 (R455). -/
  | clts
deriving DecidableEq, Repr

end Sys2Proof
end

