-- ==== Sys2Proof/WellFormed.lean ====
section
/-!
DEFINITION. Which instruction terms an encoding exists for, under given size attributes (30_encoding.md R140 to R178):
immediates, offsets and addresses must have the size the attributes give them, and an operand that the encoding shuts out
(ESP as an index, CS as the destination of a MOV, EAX in the 91-97 form) is refused.
-/
namespace Sys2Proof

/-- A zero-extended immediate or offset that fits the size (R160, R162). -/
def Width.fits (w : Width) (v : DWord) : Bool :=
  match w with
  | .w16 => v.toNat < 65536
  | .w32 => true

/-- A sign-extended code offset that fits the size (R161). -/
def Width.fitsSigned (w : Width) (v : DWord) : Bool :=
  match w with
  | .w16 => (v.setWidth 16).signExtend 32 == v
  | .w32 => true

/-- The address form must be the one AddressSize selects, and ESP is no index (R152 to R154). -/
def EA.wf (w : Width) (m : EA) : Bool :=
  match w, m with
  | .w16, .a16 _ _ => true
  | .w32, .a32 _ none _ => true
  | .w32, .a32 _ (some (i, _)) _ => i != .esp
  | _, _ => false

/-- A register is always well formed; a memory operand when its address is. -/
def RM.wf {ρ : Type} (w : Width) (rm : RM ρ) : Bool :=
  match rm with
  | .reg _ => true
  | .mem m => m.wf w

/-- A full immediate must fit the operand size. -/
def Imm.wf (w : Width) : Imm → Bool
  | .short _ => true
  | .full v => w.fits v

/-- The instruction has an encoding under the attributes. -/
def Instr.wf (a : Attrs) : Instr → Bool
  | .addRm8R8 rm _ => rm.wf a.asz
  | .addRmvRv rm _ => rm.wf a.asz
  | .addR8Rm8 _ rm => rm.wf a.asz
  | .addRvRmv _ rm => rm.wf a.asz
  | .addAlImm8 _ => true
  | .addEaxImmv imm => a.osz.fits imm
  | .addRm8Imm8 rm _ => rm.wf a.asz
  | .addRmvImm rm imm => rm.wf a.asz && imm.wf a.osz
  | .orRm8R8 rm _ => rm.wf a.asz
  | .orRmvRv rm _ => rm.wf a.asz
  | .orR8Rm8 _ rm => rm.wf a.asz
  | .orRvRmv _ rm => rm.wf a.asz
  | .orAlImm8 _ => true
  | .orEaxImmv imm => a.osz.fits imm
  | .orRm8Imm8 rm _ => rm.wf a.asz
  | .orRmvImm rm imm => rm.wf a.asz && imm.wf a.osz
  | .adcRm8R8 rm _ => rm.wf a.asz
  | .adcRmvRv rm _ => rm.wf a.asz
  | .adcR8Rm8 _ rm => rm.wf a.asz
  | .adcRvRmv _ rm => rm.wf a.asz
  | .adcAlImm8 _ => true
  | .adcEaxImmv imm => a.osz.fits imm
  | .adcRm8Imm8 rm _ => rm.wf a.asz
  | .adcRmvImm rm imm => rm.wf a.asz && imm.wf a.osz
  | .sbbRm8R8 rm _ => rm.wf a.asz
  | .sbbRmvRv rm _ => rm.wf a.asz
  | .sbbR8Rm8 _ rm => rm.wf a.asz
  | .sbbRvRmv _ rm => rm.wf a.asz
  | .sbbAlImm8 _ => true
  | .sbbEaxImmv imm => a.osz.fits imm
  | .sbbRm8Imm8 rm _ => rm.wf a.asz
  | .sbbRmvImm rm imm => rm.wf a.asz && imm.wf a.osz
  | .andRm8R8 rm _ => rm.wf a.asz
  | .andRmvRv rm _ => rm.wf a.asz
  | .andR8Rm8 _ rm => rm.wf a.asz
  | .andRvRmv _ rm => rm.wf a.asz
  | .andAlImm8 _ => true
  | .andEaxImmv imm => a.osz.fits imm
  | .andRm8Imm8 rm _ => rm.wf a.asz
  | .andRmvImm rm imm => rm.wf a.asz && imm.wf a.osz
  | .subRm8R8 rm _ => rm.wf a.asz
  | .subRmvRv rm _ => rm.wf a.asz
  | .subR8Rm8 _ rm => rm.wf a.asz
  | .subRvRmv _ rm => rm.wf a.asz
  | .subAlImm8 _ => true
  | .subEaxImmv imm => a.osz.fits imm
  | .subRm8Imm8 rm _ => rm.wf a.asz
  | .subRmvImm rm imm => rm.wf a.asz && imm.wf a.osz
  | .xorRm8R8 rm _ => rm.wf a.asz
  | .xorRmvRv rm _ => rm.wf a.asz
  | .xorR8Rm8 _ rm => rm.wf a.asz
  | .xorRvRmv _ rm => rm.wf a.asz
  | .xorAlImm8 _ => true
  | .xorEaxImmv imm => a.osz.fits imm
  | .xorRm8Imm8 rm _ => rm.wf a.asz
  | .xorRmvImm rm imm => rm.wf a.asz && imm.wf a.osz
  | .cmpRm8R8 rm _ => rm.wf a.asz
  | .cmpRmvRv rm _ => rm.wf a.asz
  | .cmpR8Rm8 _ rm => rm.wf a.asz
  | .cmpRvRmv _ rm => rm.wf a.asz
  | .cmpAlImm8 _ => true
  | .cmpEaxImmv imm => a.osz.fits imm
  | .cmpRm8Imm8 rm _ => rm.wf a.asz
  | .cmpRmvImm rm imm => rm.wf a.asz && imm.wf a.osz
  | .incRv _ => true
  | .decRv _ => true
  | .pushRv _ => true
  | .popRv _ => true
  | .bound _ m => m.wf a.asz
  | .arpl rm _ => rm.wf a.asz
  | .pushImmv imm => a.osz.fits imm
  | .imulRvRmvImmv _ rm imm => rm.wf a.asz && a.osz.fits imm
  | .pushImm8 _ => true
  | .imulRvRmvImm8 _ rm _ => rm.wf a.asz
  | .jo8 _ => true
  | .jno8 _ => true
  | .jb8 _ => true
  | .jae8 _ => true
  | .je8 _ => true
  | .jne8 _ => true
  | .jbe8 _ => true
  | .ja8 _ => true
  | .js8 _ => true
  | .jns8 _ => true
  | .jp8 _ => true
  | .jnp8 _ => true
  | .jl8 _ => true
  | .jge8 _ => true
  | .jle8 _ => true
  | .jg8 _ => true
  | .testRm8R8 rm _ => rm.wf a.asz
  | .testRmvRv rm _ => rm.wf a.asz
  | .xchgRm8R8 rm _ => rm.wf a.asz
  | .xchgRmvRv rm _ => rm.wf a.asz
  | .movRm8R8 rm _ => rm.wf a.asz
  | .movRmvRv rm _ => rm.wf a.asz
  | .movR8Rm8 _ rm => rm.wf a.asz
  | .movRvRmv _ rm => rm.wf a.asz
  | .movRmvSreg rm _ => rm.wf a.asz
  | .lea _ m => m.wf a.asz
  | .movSregRm16 sr rm => sr != .cs && rm.wf a.asz
  | .popRmv rm => rm.wf a.asz
  | .xchgEaxRv r => r != .eax
  | .callFarPtr off _ => a.osz.fits off
  | .movAlMoffs off => a.asz.fits off
  | .movEaxMoffs off => a.asz.fits off
  | .movMoffsAl off => a.asz.fits off
  | .movMoffsEax off => a.asz.fits off
  | .testAlImm8 _ => true
  | .testEaxImmv imm => a.osz.fits imm
  | .movR8Imm8 _ _ => true
  | .movRvImmv _ imm => a.osz.fits imm
  | .rolRm8 rm _ => rm.wf a.asz
  | .rolRmv rm _ => rm.wf a.asz
  | .rorRm8 rm _ => rm.wf a.asz
  | .rorRmv rm _ => rm.wf a.asz
  | .rclRm8 rm _ => rm.wf a.asz
  | .rclRmv rm _ => rm.wf a.asz
  | .rcrRm8 rm _ => rm.wf a.asz
  | .rcrRmv rm _ => rm.wf a.asz
  | .salRm8 rm _ => rm.wf a.asz
  | .salRmv rm _ => rm.wf a.asz
  | .shrRm8 rm _ => rm.wf a.asz
  | .shrRmv rm _ => rm.wf a.asz
  | .sarRm8 rm _ => rm.wf a.asz
  | .sarRmv rm _ => rm.wf a.asz
  | .retNearImm _ => true
  | .les _ m => m.wf a.asz
  | .lds _ m => m.wf a.asz
  | .movRm8Imm8 rm _ => rm.wf a.asz
  | .movRmvImmv rm imm => rm.wf a.asz && a.osz.fits imm
  | .enter _ _ => true
  | .retFarImm _ => true
  | .int _ => true
  | .esc _ _ rm => rm.wf a.asz
  | .loopne _ => true
  | .loope _ => true
  | .loop _ => true
  | .jcxz _ => true
  | .inAlImm8 _ => true
  | .inEaxImm8 _ => true
  | .outImm8Al _ => true
  | .outImm8Eax _ => true
  | .callRelv rel => a.osz.fitsSigned rel
  | .jmpRelv rel => a.osz.fitsSigned rel
  | .jmpFarPtr off _ => a.osz.fits off
  | .jmpRel8 _ => true
  | .testRm8Imm8 rm _ => rm.wf a.asz
  | .testRmvImmv rm imm => rm.wf a.asz && a.osz.fits imm
  | .notRm8 rm => rm.wf a.asz
  | .notRmv rm => rm.wf a.asz
  | .negRm8 rm => rm.wf a.asz
  | .negRmv rm => rm.wf a.asz
  | .mulRm8 rm => rm.wf a.asz
  | .mulRmv rm => rm.wf a.asz
  | .imulRm8 rm => rm.wf a.asz
  | .imulRmv rm => rm.wf a.asz
  | .divRm8 rm => rm.wf a.asz
  | .divRmv rm => rm.wf a.asz
  | .idivRm8 rm => rm.wf a.asz
  | .idivRmv rm => rm.wf a.asz
  | .incRm8 rm => rm.wf a.asz
  | .decRm8 rm => rm.wf a.asz
  | .incRmv rm => rm.wf a.asz
  | .decRmv rm => rm.wf a.asz
  | .callRmv rm => rm.wf a.asz
  | .callFarMem m => m.wf a.asz
  | .jmpRmv rm => rm.wf a.asz
  | .jmpFarMem m => m.wf a.asz
  | .pushRmv rm => rm.wf a.asz
  | .sldt rm => rm.wf a.asz
  | .str rm => rm.wf a.asz
  | .lldt rm => rm.wf a.asz
  | .ltr rm => rm.wf a.asz
  | .verr rm => rm.wf a.asz
  | .verw rm => rm.wf a.asz
  | .sgdt m => m.wf a.asz
  | .sidt m => m.wf a.asz
  | .lgdt m => m.wf a.asz
  | .lidt m => m.wf a.asz
  | .smsw rm => rm.wf a.asz
  | .lmsw rm => rm.wf a.asz
  | .lar _ rm => rm.wf a.asz
  | .lsl _ rm => rm.wf a.asz
  | .movRdCr _ _ => true
  | .movRdDr _ _ => true
  | .movCrRd _ _ => true
  | .movDrRd _ _ => true
  | .movRdTr _ _ => true
  | .movTrRd _ _ => true
  | .joNear rel => a.osz.fitsSigned rel
  | .jnoNear rel => a.osz.fitsSigned rel
  | .jbNear rel => a.osz.fitsSigned rel
  | .jaeNear rel => a.osz.fitsSigned rel
  | .jeNear rel => a.osz.fitsSigned rel
  | .jneNear rel => a.osz.fitsSigned rel
  | .jbeNear rel => a.osz.fitsSigned rel
  | .jaNear rel => a.osz.fitsSigned rel
  | .jsNear rel => a.osz.fitsSigned rel
  | .jnsNear rel => a.osz.fitsSigned rel
  | .jpNear rel => a.osz.fitsSigned rel
  | .jnpNear rel => a.osz.fitsSigned rel
  | .jlNear rel => a.osz.fitsSigned rel
  | .jgeNear rel => a.osz.fitsSigned rel
  | .jleNear rel => a.osz.fitsSigned rel
  | .jgNear rel => a.osz.fitsSigned rel
  | .seto rm => rm.wf a.asz
  | .setno rm => rm.wf a.asz
  | .setb rm => rm.wf a.asz
  | .setae rm => rm.wf a.asz
  | .sete rm => rm.wf a.asz
  | .setne rm => rm.wf a.asz
  | .setbe rm => rm.wf a.asz
  | .seta rm => rm.wf a.asz
  | .sets rm => rm.wf a.asz
  | .setns rm => rm.wf a.asz
  | .setp rm => rm.wf a.asz
  | .setnp rm => rm.wf a.asz
  | .setl rm => rm.wf a.asz
  | .setge rm => rm.wf a.asz
  | .setle rm => rm.wf a.asz
  | .setg rm => rm.wf a.asz
  | .btRmvRv rm _ => rm.wf a.asz
  | .shldImm8 rm _ _ => rm.wf a.asz
  | .shldCl rm _ => rm.wf a.asz
  | .btsRmvRv rm _ => rm.wf a.asz
  | .shrdImm8 rm _ _ => rm.wf a.asz
  | .shrdCl rm _ => rm.wf a.asz
  | .imulRvRmv _ rm => rm.wf a.asz
  | .lss _ m => m.wf a.asz
  | .btrRmvRv rm _ => rm.wf a.asz
  | .lfs _ m => m.wf a.asz
  | .lgs _ m => m.wf a.asz
  | .movzxRvRm8 _ rm => rm.wf a.asz
  | .movzxRdRm16 _ rm => rm.wf a.asz
  | .btRmvImm8 rm _ => rm.wf a.asz
  | .btsRmvImm8 rm _ => rm.wf a.asz
  | .btrRmvImm8 rm _ => rm.wf a.asz
  | .btcRmvImm8 rm _ => rm.wf a.asz
  | .btcRmvRv rm _ => rm.wf a.asz
  | .bsf _ rm => rm.wf a.asz
  | .bsr _ rm => rm.wf a.asz
  | .movsxRvRm8 _ rm => rm.wf a.asz
  | .movsxRdRm16 _ rm => rm.wf a.asz
  | .pushEs => true
  | .popEs => true
  | .pushCs => true
  | .pushSs => true
  | .popSs => true
  | .pushDs => true
  | .popDs => true
  | .pushFs => true
  | .popFs => true
  | .pushGs => true
  | .popGs => true
  | .daa => true
  | .das => true
  | .aaa => true
  | .aas => true
  | .esOverride => true
  | .csOverride => true
  | .ssOverride => true
  | .dsOverride => true
  | .fsOverride => true
  | .gsOverride => true
  | .operandSize => true
  | .addressSize => true
  | .lock => true
  | .repne => true
  | .rep => true
  | .pusha => true
  | .popa => true
  | .insb => true
  | .insv => true
  | .outsb => true
  | .outsv => true
  | .nop => true
  | .cbw => true
  | .cwd => true
  | .wait => true
  | .pushf => true
  | .popf => true
  | .sahf => true
  | .lahf => true
  | .movsb => true
  | .movsv => true
  | .cmpsb => true
  | .cmpsv => true
  | .stosb => true
  | .stosv => true
  | .lodsb => true
  | .lodsv => true
  | .scasb => true
  | .scasv => true
  | .retNear => true
  | .leave => true
  | .retFar => true
  | .int3 => true
  | .into => true
  | .iret => true
  | .aam => true
  | .aad => true
  | .xlat => true
  | .inAlDx => true
  | .inEaxDx => true
  | .outDxAl => true
  | .outDxEax => true
  | .hlt => true
  | .cmc => true
  | .clc => true
  | .stc => true
  | .cli => true
  | .sti => true
  | .cld => true
  | .std => true
  | .clts => true

/-- The constructors that stand for a prefix byte (R140). -/
def Instr.isPrefix : Instr → Bool
  | .esOverride => true
  | .csOverride => true
  | .ssOverride => true
  | .dsOverride => true
  | .fsOverride => true
  | .gsOverride => true
  | .operandSize => true
  | .addressSize => true
  | .lock => true
  | .repne => true
  | .rep => true
  | _ => false

end Sys2Proof
end

