-- ==== Sys2Proof/Decode.lean ====
section
/-!
DEFINITION. The decoder (30_encoding.md R140 to R186) and, after it, the encoder. The decoder reads a list of bytes; it is
total and rejects by name. Where the list ends before the instruction does, it answers `more`, so that the machine fetches
exactly the bytes the decoder needs (60_exceptions.md R505).
-/
namespace Sys2Proof

/-- Why a byte string is no instruction (R170 to R177). The machine raises #UD for each. -/
inductive Reject where
  /-- The opcode is in no row of the map (R170). -/
  | unknownOpcode
  /-- The reg field of a group opcode selects nothing (R171). -/
  | unassignedDigit
  /-- A register where only memory is allowed (R172). -/
  | registerForm
  /-- The reg field names no segment register, or CS as a destination (R175). -/
  | segmentRegister
  /-- The reg field names no control, debug or test register (R177). -/
  | specialRegister
  /-- AAM or AAD with a second byte other than 0AH (R219, R220). -/
  | adjustBase
deriving DecidableEq, Repr

/-- What reading from a list of bytes gives: a value and the bytes after it, a list that ends too early, or a rejection. -/
inductive Parse (α : Type) where
  | ok (v : α) (rest : List Byte)
  | more
  | undefined (why : Reject)
deriving DecidableEq, Repr

/-- Read one thing, then another. -/
def Parse.andThen {α β : Type} (p : Parse α) (f : α → List Byte → Parse β) : Parse β :=
  match p with
  | .ok v rest => f v rest
  | .more => .more
  | .undefined why => .undefined why

/-! ### Fields of an instruction -/

/-- One byte. -/
def readByte : List Byte → Parse Byte
  | b :: rest => .ok b rest
  | [] => .more

/-- A word, low byte first (R81). -/
def readWord : List Byte → Parse Word
  | b0 :: b1 :: rest => .ok (b1 ++ b0) rest
  | _ => .more

/-- A doubleword, low byte first (R81). -/
def readDWord : List Byte → Parse DWord
  | b0 :: b1 :: b2 :: b3 :: rest => .ok (b3 ++ b2 ++ b1 ++ b0) rest
  | _ => .more

/-- An immediate or offset of the size, zero-extended (R160, R162). -/
def readSized (w : Width) (bs : List Byte) : Parse DWord :=
  match w with
  | .w16 => (readWord bs).andThen fun v rest => .ok (v.setWidth 32) rest
  | .w32 => readDWord bs

/-- A relative code offset of the size, sign-extended (R161). -/
def readRelative (w : Width) (bs : List Byte) : Parse DWord :=
  match w with
  | .w16 => (readWord bs).andThen fun v rest => .ok (v.signExtend 32) rest
  | .w32 => readDWord bs

/-! ### Register codes (R20, R22, R38, R150, R154) -/

/-- The general register with a code. -/
def Reg.ofCode (c : BitVec 3) : Reg :=
  match c.toNat with
  | 0 => .eax | 1 => .ecx | 2 => .edx | 3 => .ebx | 4 => .esp | 5 => .ebp | 6 => .esi | _ => .edi

/-- The code of a general register. -/
def Reg.code : Reg → BitVec 3
  | .eax => 0 | .ecx => 1 | .edx => 2 | .ebx => 3 | .esp => 4 | .ebp => 5 | .esi => 6 | .edi => 7

/-- The byte register with a code. -/
def Reg8.ofCode (c : BitVec 3) : Reg8 :=
  match c.toNat with
  | 0 => .al | 1 => .cl | 2 => .dl | 3 => .bl | 4 => .ah | 5 => .ch | 6 => .dh | _ => .bh

/-- The code of a byte register. -/
def Reg8.code : Reg8 → BitVec 3
  | .al => 0 | .cl => 1 | .dl => 2 | .bl => 3 | .ah => 4 | .ch => 5 | .dh => 6 | .bh => 7

/-- The segment register with a code; 6 and 7 name none (R175). -/
def SReg.ofCode (c : BitVec 3) : Option SReg :=
  match c.toNat with
  | 0 => some .es | 1 => some .cs | 2 => some .ss | 3 => some .ds | 4 => some .fs | 5 => some .gs | _ => none

/-- The code of a segment register. -/
def SReg.code : SReg → BitVec 3
  | .es => 0 | .cs => 1 | .ss => 2 | .ds => 3 | .fs => 4 | .gs => 5

/-- The segment register that a MOV with the code loads; CS cannot be one (R175). -/
def SReg.ofLoadCode (c : BitVec 3) : Option SReg :=
  match c.toNat with
  | 0 => some .es | 2 => some .ss | 3 => some .ds | 4 => some .fs | 5 => some .gs | _ => none

/-- The control register with a number (R177). -/
def CReg.ofCode (c : BitVec 3) : Option CReg :=
  match c.toNat with
  | 0 => some .cr0 | 2 => some .cr2 | 3 => some .cr3 | _ => none

/-- The number of a control register. -/
def CReg.code : CReg → BitVec 3
  | .cr0 => 0 | .cr2 => 2 | .cr3 => 3

/-- The debug register with a number (R177). -/
def DReg.ofCode (c : BitVec 3) : Option DReg :=
  match c.toNat with
  | 0 => some .dr0 | 1 => some .dr1 | 2 => some .dr2 | 3 => some .dr3 | 6 => some .dr6 | 7 => some .dr7 | _ => none

/-- The number of a debug register. -/
def DReg.code : DReg → BitVec 3
  | .dr0 => 0 | .dr1 => 1 | .dr2 => 2 | .dr3 => 3 | .dr6 => 6 | .dr7 => 7

/-- The test register with a number (R177). -/
def TReg.ofCode (c : BitVec 3) : Option TReg :=
  match c.toNat with
  | 6 => some .tr6 | 7 => some .tr7 | _ => none

/-- The number of a test register. -/
def TReg.code : TReg → BitVec 3
  | .tr6 => 6 | .tr7 => 7

/-- The scale of an ss field (R154). -/
def Scale.ofCode (c : BitVec 2) : Scale :=
  match c.toNat with
  | 0 => .x1 | 1 => .x2 | 2 => .x4 | _ => .x8

/-- The ss field of a scale. -/
def Scale.code : Scale → BitVec 2
  | .x1 => 0 | .x2 => 1 | .x4 => 2 | .x8 => 3

/-- The 16-bit address form of an rm code with mod 01 or 10 (R152). -/
def Base16.ofCode (c : BitVec 3) : Base16 :=
  match c.toNat with
  | 0 => .bxSi | 1 => .bxDi | 2 => .bpSi | 3 => .bpDi | 4 => .si | 5 => .di | 6 => .bp | _ => .bx

/-- The rm code of a 16-bit address form. -/
def Base16.code : Base16 → BitVec 3
  | .bxSi => 0 | .bxDi => 1 | .bpSi => 2 | .bpDi => 3 | .si => 4 | .di => 5 | .bp => 6 | .bx => 7

/-! ### ModR/M and SIB (R151 to R154) -/

/-- Bits 7:6 of a ModR/M or SIB byte: mod or ss. -/
def modField (b : Byte) : BitVec 2 := b.extractLsb' 6 2

/-- Bits 5:3 of a ModR/M or SIB byte: reg or index. -/
def regField (b : Byte) : BitVec 3 := b.extractLsb' 3 3

/-- Bits 2:0 of a ModR/M or SIB byte: rm or base. -/
def rmField (b : Byte) : BitVec 3 := b.extractLsb' 0 3

/-- The address of a 16-bit memory form (R152). -/
def readEA16 (mod : BitVec 2) (rm : BitVec 3) (bs : List Byte) : Parse EA :=
  match mod.toNat with
  | 0 =>
    if rm = 6 then (readWord bs).andThen fun d rest => .ok (.a16 none d) rest
    else .ok (.a16 (some (Base16.ofCode rm)) 0) bs
  | 1 => (readByte bs).andThen fun d rest => .ok (.a16 (some (Base16.ofCode rm)) (d.signExtend 16)) rest
  | _ => (readWord bs).andThen fun d rest => .ok (.a16 (some (Base16.ofCode rm)) d) rest

/-- The index of a SIB byte; code 100 is none whatever the scale (R154). -/
def sibIndex (sib : Byte) : Option (Reg × Scale) :=
  if regField sib = 4 then none else some (Reg.ofCode (regField sib), Scale.ofCode (modField sib))

/-- The displacement and the address after the base and index are known (R153, R154); `noBase` is the code 101 with mod
00, which has a disp32 and no base register. -/
def readDisp32 (mod : BitVec 2) (noBase : Bool) (base : Reg) (index : Option (Reg × Scale)) (bs : List Byte) : Parse EA :=
  match mod.toNat with
  | 0 =>
    if noBase then (readDWord bs).andThen fun d rest => .ok (.a32 none index d) rest
    else .ok (.a32 (some base) index 0) bs
  | 1 => (readByte bs).andThen fun d rest => .ok (.a32 (some base) index (d.signExtend 32)) rest
  | _ => (readDWord bs).andThen fun d rest => .ok (.a32 (some base) index d) rest

/-- The address of a 32-bit memory form, its SIB byte included (R153, R154). -/
def readEA32 (mod : BitVec 2) (rm : BitVec 3) (bs : List Byte) : Parse EA :=
  if rm = 4 then
    (readByte bs).andThen fun sib rest =>
      readDisp32 mod (rmField sib == 5) (Reg.ofCode (rmField sib)) (sibIndex sib) rest
  else readDisp32 mod (rm == 5) (Reg.ofCode rm) none bs

/-- The address of a memory form under an AddressSize. -/
def readEA (w : Width) (mod : BitVec 2) (rm : BitVec 3) (bs : List Byte) : Parse EA :=
  match w with
  | .w16 => readEA16 mod rm bs
  | .w32 => readEA32 mod rm bs

/-- A ModR/M byte and what follows it: the reg field and the r/m operand (R151). -/
def readModRM {ρ : Type} (w : Width) (ofCode : BitVec 3 → ρ) (bs : List Byte) : Parse (BitVec 3 × RM ρ) :=
  (readByte bs).andThen fun b rest =>
    if modField b = 3 then .ok (regField b, .reg (ofCode (rmField b))) rest
    else (readEA w (modField b) (rmField b) rest).andThen fun m rest => .ok (regField b, .mem m) rest

/-! ### The opcode map -/

/-- What follows the opcode in one row of a group, its r/m operand already read (R184). -/
inductive Group (ρ : Type) where
  | unassigned
  /-- A digit that names no instruction, under an opcode whose entry has a byte immediate (R171, R183, R185). -/
  | unassignedIb
  /-- A digit that names no instruction, under an opcode whose entry has an immediate of OperandSize (R171, R183). -/
  | unassignedIv
  | rm (f : RM ρ → Instr)
  | rmib (f : RM ρ → Byte → Instr)
  | rmiv (f : RM ρ → DWord → Instr)
  | mem (f : EA → Instr)

/-- What follows an opcode, with the instruction that the fields make (R140, R160 to R163). -/
inductive Form where
  /-- Not an opcode (R170). -/
  | unlisted
  /-- Nothing follows. -/
  | plain (i : Instr)
  /-- A byte. -/
  | ib (f : Byte → Instr)
  /-- A word. -/
  | iw (f : Word → Instr)
  /-- An immediate of OperandSize. -/
  | iv (f : DWord → Instr)
  /-- A word, then a byte (ENTER). -/
  | iwib (f : Word → Byte → Instr)
  /-- A code offset of OperandSize. -/
  | cv (f : DWord → Instr)
  /-- An offset of AddressSize. -/
  | moffs (f : DWord → Instr)
  /-- A far pointer: an offset of OperandSize, then a selector. -/
  | far (f : DWord → Word → Instr)
  /-- ModR/M, byte registers. -/
  | rm8 (f : Reg8 → RM Reg8 → Instr)
  /-- ModR/M, registers of OperandSize. -/
  | rmv (f : Reg → RM Reg → Instr)
  /-- ModR/M, a register of OperandSize and a byte r/m operand. -/
  | rm8v (f : Reg → RM Reg8 → Instr)
  /-- ModR/M, memory only. -/
  | mv (f : Reg → EA → Instr)
  /-- ModR/M, a segment register in the reg field. -/
  | sreg (ofCode : BitVec 3 → Option SReg) (f : SReg → RM Reg → Instr)
  /-- ModR/M, then a byte. -/
  | rmvib (f : Reg → RM Reg → Byte → Instr)
  /-- ModR/M, then an immediate of OperandSize. -/
  | rmviv (f : Reg → RM Reg → DWord → Instr)
  /-- The reg field selects the instruction; byte r/m operand. -/
  | grp8 (g : BitVec 3 → Group Reg8)
  /-- The reg field selects the instruction; r/m operand of OperandSize. -/
  | grpv (g : BitVec 3 → Group Reg)
  /-- A control, debug or test register in the reg field and a general register; mod is not looked at (R177). -/
  | special (f : BitVec 3 → Reg → Option Instr)
  /-- A second byte that must be 0AH (R160). -/
  | adjust (i : Instr)

/-- Finish a row of a group. The immediate that the opcode's entry requires is fetched before an unassigned digit is rejected
(R186). -/
def Group.read {ρ : Type} (a : Attrs) (g : Group ρ) (rm : RM ρ) (bs : List Byte) : Parse Instr :=
  match g with
  | .unassigned => .undefined .unassignedDigit
  | .unassignedIb => (readByte bs).andThen fun _ _ => .undefined .unassignedDigit
  | .unassignedIv => (readSized a.osz bs).andThen fun _ _ => .undefined .unassignedDigit
  | .rm f => .ok (f rm) bs
  | .rmib f => (readByte bs).andThen fun v rest => .ok (f rm v) rest
  | .rmiv f => (readSized a.osz bs).andThen fun v rest => .ok (f rm v) rest
  | .mem f =>
    match rm with
    | .mem m => .ok (f m) bs
    | .reg _ => .undefined .registerForm

/-- Read what a form asks for. -/
def Form.read (a : Attrs) (form : Form) (bs : List Byte) : Parse Instr :=
  match form with
  | .unlisted => .undefined .unknownOpcode
  | .plain i => .ok i bs
  | .ib f => (readByte bs).andThen fun v rest => .ok (f v) rest
  | .iw f => (readWord bs).andThen fun v rest => .ok (f v) rest
  | .iv f => (readSized a.osz bs).andThen fun v rest => .ok (f v) rest
  | .iwib f => (readWord bs).andThen fun v rest => (readByte rest).andThen fun b rest => .ok (f v b) rest
  | .cv f => (readRelative a.osz bs).andThen fun v rest => .ok (f v) rest
  | .moffs f => (readSized a.asz bs).andThen fun v rest => .ok (f v) rest
  | .far f => (readSized a.osz bs).andThen fun v rest => (readWord rest).andThen fun s rest => .ok (f v s) rest
  | .rm8 f => (readModRM a.asz Reg8.ofCode bs).andThen fun p rest => .ok (f (Reg8.ofCode p.1) p.2) rest
  | .rmv f => (readModRM a.asz Reg.ofCode bs).andThen fun p rest => .ok (f (Reg.ofCode p.1) p.2) rest
  | .rm8v f => (readModRM a.asz Reg8.ofCode bs).andThen fun p rest => .ok (f (Reg.ofCode p.1) p.2) rest
  | .mv f =>
    (readModRM a.asz Reg.ofCode bs).andThen fun p rest =>
      match p.2 with
      | .mem m => .ok (f (Reg.ofCode p.1) m) rest
      | .reg _ => .undefined .registerForm
  | .sreg ofCode f =>
    (readModRM a.asz Reg.ofCode bs).andThen fun p rest =>
      match ofCode p.1 with
      | some sr => .ok (f sr p.2) rest
      | none => .undefined .segmentRegister
  | .rmvib f =>
    (readModRM a.asz Reg.ofCode bs).andThen fun p rest =>
      (readByte rest).andThen fun v rest => .ok (f (Reg.ofCode p.1) p.2 v) rest
  | .rmviv f =>
    (readModRM a.asz Reg.ofCode bs).andThen fun p rest =>
      (readSized a.osz rest).andThen fun v rest => .ok (f (Reg.ofCode p.1) p.2 v) rest
  | .grp8 g => (readModRM a.asz Reg8.ofCode bs).andThen fun p rest => (g p.1).read a p.2 rest
  | .grpv g => (readModRM a.asz Reg.ofCode bs).andThen fun p rest => (g p.1).read a p.2 rest
  | .special f =>
    (readByte bs).andThen fun b rest =>
      match f (regField b) (Reg.ofCode (rmField b)) with
      | some i => .ok i rest
      | none => .undefined .specialRegister
  | .adjust i => (readByte bs).andThen fun b rest => if b = 0x0A then .ok i rest else .undefined .adjustBase


/-- The instructions that the reg field selects under opcode 0F 00 (R171, R184). -/
def group0F00 (d : BitVec 3) : Group Reg :=
  match d.toNat with
  | 0 => .rm .sldt
  | 1 => .rm .str
  | 2 => .rm .lldt
  | 3 => .rm .ltr
  | 4 => .rm .verr
  | 5 => .rm .verw
  | 6 => .unassigned
  | _ => .unassigned

/-- The instructions that the reg field selects under opcode 0F 01 (R171, R184). -/
def group0F01 (d : BitVec 3) : Group Reg :=
  match d.toNat with
  | 0 => .mem .sgdt
  | 1 => .mem .sidt
  | 2 => .mem .lgdt
  | 3 => .mem .lidt
  | 4 => .rm .smsw
  | 5 => .unassigned
  | 6 => .rm .lmsw
  | _ => .unassigned

/-- The instructions that the reg field selects under opcode 0F BA (R171, R184). -/
def group0FBA (d : BitVec 3) : Group Reg :=
  match d.toNat with
  | 0 => .unassignedIb
  | 1 => .unassignedIb
  | 2 => .unassignedIb
  | 3 => .unassignedIb
  | 4 => .rmib .btRmvImm8
  | 5 => .rmib .btsRmvImm8
  | 6 => .rmib .btrRmvImm8
  | _ => .rmib .btcRmvImm8

/-- The instructions that the reg field selects under opcode 80 (R171, R184). -/
def group80 (d : BitVec 3) : Group Reg8 :=
  match d.toNat with
  | 0 => .rmib .addRm8Imm8
  | 1 => .rmib .orRm8Imm8
  | 2 => .rmib .adcRm8Imm8
  | 3 => .rmib .sbbRm8Imm8
  | 4 => .rmib .andRm8Imm8
  | 5 => .rmib .subRm8Imm8
  | 6 => .rmib .xorRm8Imm8
  | _ => .rmib .cmpRm8Imm8

/-- The instructions that the reg field selects under opcode 81 (R171, R184). -/
def group81 (d : BitVec 3) : Group Reg :=
  match d.toNat with
  | 0 => .rmiv (fun rm v => .addRmvImm rm (.full v))
  | 1 => .rmiv (fun rm v => .orRmvImm rm (.full v))
  | 2 => .rmiv (fun rm v => .adcRmvImm rm (.full v))
  | 3 => .rmiv (fun rm v => .sbbRmvImm rm (.full v))
  | 4 => .rmiv (fun rm v => .andRmvImm rm (.full v))
  | 5 => .rmiv (fun rm v => .subRmvImm rm (.full v))
  | 6 => .rmiv (fun rm v => .xorRmvImm rm (.full v))
  | _ => .rmiv (fun rm v => .cmpRmvImm rm (.full v))

/-- The instructions that the reg field selects under opcode 83 (R171, R184). -/
def group83 (d : BitVec 3) : Group Reg :=
  match d.toNat with
  | 0 => .rmib (fun rm v => .addRmvImm rm (.short v))
  | 1 => .rmib (fun rm v => .orRmvImm rm (.short v))
  | 2 => .rmib (fun rm v => .adcRmvImm rm (.short v))
  | 3 => .rmib (fun rm v => .sbbRmvImm rm (.short v))
  | 4 => .rmib (fun rm v => .andRmvImm rm (.short v))
  | 5 => .rmib (fun rm v => .subRmvImm rm (.short v))
  | 6 => .rmib (fun rm v => .xorRmvImm rm (.short v))
  | _ => .rmib (fun rm v => .cmpRmvImm rm (.short v))

/-- The instructions that the reg field selects under opcode 8F (R171, R184). -/
def group8F (d : BitVec 3) : Group Reg :=
  match d.toNat with
  | 0 => .rm .popRmv
  | 1 => .unassigned
  | 2 => .unassigned
  | 3 => .unassigned
  | 4 => .unassigned
  | 5 => .unassigned
  | 6 => .unassigned
  | _ => .unassigned

/-- The instructions that the reg field selects under opcode C0 (R171, R184). -/
def groupC0 (d : BitVec 3) : Group Reg8 :=
  match d.toNat with
  | 0 => .rmib (fun rm v => .rolRm8 rm (.imm v))
  | 1 => .rmib (fun rm v => .rorRm8 rm (.imm v))
  | 2 => .rmib (fun rm v => .rclRm8 rm (.imm v))
  | 3 => .rmib (fun rm v => .rcrRm8 rm (.imm v))
  | 4 => .rmib (fun rm v => .salRm8 rm (.imm v))
  | 5 => .rmib (fun rm v => .shrRm8 rm (.imm v))
  | 6 => .unassignedIb
  | _ => .rmib (fun rm v => .sarRm8 rm (.imm v))

/-- The instructions that the reg field selects under opcode C1 (R171, R184). -/
def groupC1 (d : BitVec 3) : Group Reg :=
  match d.toNat with
  | 0 => .rmib (fun rm v => .rolRmv rm (.imm v))
  | 1 => .rmib (fun rm v => .rorRmv rm (.imm v))
  | 2 => .rmib (fun rm v => .rclRmv rm (.imm v))
  | 3 => .rmib (fun rm v => .rcrRmv rm (.imm v))
  | 4 => .rmib (fun rm v => .salRmv rm (.imm v))
  | 5 => .rmib (fun rm v => .shrRmv rm (.imm v))
  | 6 => .unassignedIb
  | _ => .rmib (fun rm v => .sarRmv rm (.imm v))

/-- The instructions that the reg field selects under opcode C6 (R171, R184). -/
def groupC6 (d : BitVec 3) : Group Reg8 :=
  match d.toNat with
  | 0 => .rmib .movRm8Imm8
  | 1 => .unassignedIb
  | 2 => .unassignedIb
  | 3 => .unassignedIb
  | 4 => .unassignedIb
  | 5 => .unassignedIb
  | 6 => .unassignedIb
  | _ => .unassignedIb

/-- The instructions that the reg field selects under opcode C7 (R171, R184). -/
def groupC7 (d : BitVec 3) : Group Reg :=
  match d.toNat with
  | 0 => .rmiv .movRmvImmv
  | 1 => .unassignedIv
  | 2 => .unassignedIv
  | 3 => .unassignedIv
  | 4 => .unassignedIv
  | 5 => .unassignedIv
  | 6 => .unassignedIv
  | _ => .unassignedIv

/-- The instructions that the reg field selects under opcode D0 (R171, R184). -/
def groupD0 (d : BitVec 3) : Group Reg8 :=
  match d.toNat with
  | 0 => .rm (fun rm => .rolRm8 rm .one)
  | 1 => .rm (fun rm => .rorRm8 rm .one)
  | 2 => .rm (fun rm => .rclRm8 rm .one)
  | 3 => .rm (fun rm => .rcrRm8 rm .one)
  | 4 => .rm (fun rm => .salRm8 rm .one)
  | 5 => .rm (fun rm => .shrRm8 rm .one)
  | 6 => .unassigned
  | _ => .rm (fun rm => .sarRm8 rm .one)

/-- The instructions that the reg field selects under opcode D1 (R171, R184). -/
def groupD1 (d : BitVec 3) : Group Reg :=
  match d.toNat with
  | 0 => .rm (fun rm => .rolRmv rm .one)
  | 1 => .rm (fun rm => .rorRmv rm .one)
  | 2 => .rm (fun rm => .rclRmv rm .one)
  | 3 => .rm (fun rm => .rcrRmv rm .one)
  | 4 => .rm (fun rm => .salRmv rm .one)
  | 5 => .rm (fun rm => .shrRmv rm .one)
  | 6 => .unassigned
  | _ => .rm (fun rm => .sarRmv rm .one)

/-- The instructions that the reg field selects under opcode D2 (R171, R184). -/
def groupD2 (d : BitVec 3) : Group Reg8 :=
  match d.toNat with
  | 0 => .rm (fun rm => .rolRm8 rm .cl)
  | 1 => .rm (fun rm => .rorRm8 rm .cl)
  | 2 => .rm (fun rm => .rclRm8 rm .cl)
  | 3 => .rm (fun rm => .rcrRm8 rm .cl)
  | 4 => .rm (fun rm => .salRm8 rm .cl)
  | 5 => .rm (fun rm => .shrRm8 rm .cl)
  | 6 => .unassigned
  | _ => .rm (fun rm => .sarRm8 rm .cl)

/-- The instructions that the reg field selects under opcode D3 (R171, R184). -/
def groupD3 (d : BitVec 3) : Group Reg :=
  match d.toNat with
  | 0 => .rm (fun rm => .rolRmv rm .cl)
  | 1 => .rm (fun rm => .rorRmv rm .cl)
  | 2 => .rm (fun rm => .rclRmv rm .cl)
  | 3 => .rm (fun rm => .rcrRmv rm .cl)
  | 4 => .rm (fun rm => .salRmv rm .cl)
  | 5 => .rm (fun rm => .shrRmv rm .cl)
  | 6 => .unassigned
  | _ => .rm (fun rm => .sarRmv rm .cl)

/-- The instructions that the reg field selects under opcode F6 (R171, R184). -/
def groupF6 (d : BitVec 3) : Group Reg8 :=
  match d.toNat with
  | 0 => .rmib .testRm8Imm8
  | 1 => .unassigned
  | 2 => .rm .notRm8
  | 3 => .rm .negRm8
  | 4 => .rm .mulRm8
  | 5 => .rm .imulRm8
  | 6 => .rm .divRm8
  | _ => .rm .idivRm8

/-- The instructions that the reg field selects under opcode F7 (R171, R184). -/
def groupF7 (d : BitVec 3) : Group Reg :=
  match d.toNat with
  | 0 => .rmiv .testRmvImmv
  | 1 => .unassigned
  | 2 => .rm .notRmv
  | 3 => .rm .negRmv
  | 4 => .rm .mulRmv
  | 5 => .rm .imulRmv
  | 6 => .rm .divRmv
  | _ => .rm .idivRmv

/-- The instructions that the reg field selects under opcode FE (R171, R184). -/
def groupFE (d : BitVec 3) : Group Reg8 :=
  match d.toNat with
  | 0 => .rm .incRm8
  | 1 => .rm .decRm8
  | 2 => .unassigned
  | 3 => .unassigned
  | 4 => .unassigned
  | 5 => .unassigned
  | 6 => .unassigned
  | _ => .unassigned

/-- The instructions that the reg field selects under opcode FF (R171, R184). -/
def groupFF (d : BitVec 3) : Group Reg :=
  match d.toNat with
  | 0 => .rm .incRmv
  | 1 => .rm .decRmv
  | 2 => .rm .callRmv
  | 3 => .mem .callFarMem
  | 4 => .rm .jmpRmv
  | 5 => .mem .jmpFarMem
  | 6 => .rm .pushRmv
  | _ => .unassigned

/-- The two-byte opcode 0F 00 to 0F. -/
def twoByteRow0 (lo : Nat) : Form :=
  match lo with
  | 0 => .grpv group0F00
  | 1 => .grpv group0F01
  | 2 => .rmv .lar
  | 3 => .rmv .lsl
  | 6 => .plain .clts
  | _ => .unlisted

/-- The two-byte opcode 0F 20 to 2F. -/
def twoByteRow2 (lo : Nat) : Form :=
  match lo with
  | 0 => .special (fun n r => (CReg.ofCode n).map (fun c => .movRdCr r c))
  | 1 => .special (fun n r => (DReg.ofCode n).map (fun d => .movRdDr r d))
  | 2 => .special (fun n r => (CReg.ofCode n).map (fun c => .movCrRd c r))
  | 3 => .special (fun n r => (DReg.ofCode n).map (fun d => .movDrRd d r))
  | 4 => .special (fun n r => (TReg.ofCode n).map (fun t => .movRdTr r t))
  | 6 => .special (fun n r => (TReg.ofCode n).map (fun t => .movTrRd t r))
  | _ => .unlisted

/-- The two-byte opcode 0F 80 to 8F. -/
def twoByteRow8 (lo : Nat) : Form :=
  match lo with
  | 0 => .cv .joNear
  | 1 => .cv .jnoNear
  | 2 => .cv .jbNear
  | 3 => .cv .jaeNear
  | 4 => .cv .jeNear
  | 5 => .cv .jneNear
  | 6 => .cv .jbeNear
  | 7 => .cv .jaNear
  | 8 => .cv .jsNear
  | 9 => .cv .jnsNear
  | 10 => .cv .jpNear
  | 11 => .cv .jnpNear
  | 12 => .cv .jlNear
  | 13 => .cv .jgeNear
  | 14 => .cv .jleNear
  | _ => .cv .jgNear

/-- The two-byte opcode 0F 90 to 9F. -/
def twoByteRow9 (lo : Nat) : Form :=
  match lo with
  | 0 => .grp8 (fun _ => .rm .seto)
  | 1 => .grp8 (fun _ => .rm .setno)
  | 2 => .grp8 (fun _ => .rm .setb)
  | 3 => .grp8 (fun _ => .rm .setae)
  | 4 => .grp8 (fun _ => .rm .sete)
  | 5 => .grp8 (fun _ => .rm .setne)
  | 6 => .grp8 (fun _ => .rm .setbe)
  | 7 => .grp8 (fun _ => .rm .seta)
  | 8 => .grp8 (fun _ => .rm .sets)
  | 9 => .grp8 (fun _ => .rm .setns)
  | 10 => .grp8 (fun _ => .rm .setp)
  | 11 => .grp8 (fun _ => .rm .setnp)
  | 12 => .grp8 (fun _ => .rm .setl)
  | 13 => .grp8 (fun _ => .rm .setge)
  | 14 => .grp8 (fun _ => .rm .setle)
  | _ => .grp8 (fun _ => .rm .setg)

/-- The two-byte opcode 0F A0 to AF. -/
def twoByteRowA (lo : Nat) : Form :=
  match lo with
  | 0 => .plain .pushFs
  | 1 => .plain .popFs
  | 2 => .unlisted
  | 3 => .rmv (fun r rm => .btRmvRv rm r)
  | 4 => .rmvib (fun r rm imm => .shldImm8 rm r imm)
  | 5 => .rmv (fun r rm => .shldCl rm r)
  | 6 => .unlisted
  | 7 => .unlisted
  | 8 => .plain .pushGs
  | 9 => .plain .popGs
  | 10 => .unlisted
  | 11 => .rmv (fun r rm => .btsRmvRv rm r)
  | 12 => .rmvib (fun r rm imm => .shrdImm8 rm r imm)
  | 13 => .rmv (fun r rm => .shrdCl rm r)
  | 14 => .unlisted
  | _ => .rmv .imulRvRmv

/-- The two-byte opcode 0F B0 to BF. -/
def twoByteRowB (lo : Nat) : Form :=
  match lo with
  | 0 => .unlisted
  | 1 => .unlisted
  | 2 => .mv .lss
  | 3 => .rmv (fun r rm => .btrRmvRv rm r)
  | 4 => .mv .lfs
  | 5 => .mv .lgs
  | 6 => .rm8v .movzxRvRm8
  | 7 => .rmv .movzxRdRm16
  | 8 => .unlisted
  | 9 => .unlisted
  | 10 => .grpv group0FBA
  | 11 => .rmv (fun r rm => .btcRmvRv rm r)
  | 12 => .rmv .bsf
  | 13 => .rmv .bsr
  | 14 => .rm8v .movsxRvRm8
  | _ => .rmv .movsxRdRm16

/-- The opcodes of the two-byte map by their high hexadecimal digit. -/
def twoByte (b : Byte) : Form :=
  match b.toNat / 16 with
  | 0 => twoByteRow0 (b.toNat % 16)
  | 1 => .unlisted
  | 2 => twoByteRow2 (b.toNat % 16)
  | 3 => .unlisted
  | 4 => .unlisted
  | 5 => .unlisted
  | 6 => .unlisted
  | 7 => .unlisted
  | 8 => twoByteRow8 (b.toNat % 16)
  | 9 => twoByteRow9 (b.toNat % 16)
  | 10 => twoByteRowA (b.toNat % 16)
  | 11 => twoByteRowB (b.toNat % 16)
  | 12 => .unlisted
  | 13 => .unlisted
  | 14 => .unlisted
  | _ => .unlisted

/-- The one-byte opcode 00 to 0F. -/
def oneByteRow0 (lo : Nat) : Form :=
  match lo with
  | 0 => .rm8 (fun r rm => .addRm8R8 rm r)
  | 1 => .rmv (fun r rm => .addRmvRv rm r)
  | 2 => .rm8 .addR8Rm8
  | 3 => .rmv .addRvRmv
  | 4 => .ib .addAlImm8
  | 5 => .iv .addEaxImmv
  | 6 => .plain .pushEs
  | 7 => .plain .popEs
  | 8 => .rm8 (fun r rm => .orRm8R8 rm r)
  | 9 => .rmv (fun r rm => .orRmvRv rm r)
  | 10 => .rm8 .orR8Rm8
  | 11 => .rmv .orRvRmv
  | 12 => .ib .orAlImm8
  | 13 => .iv .orEaxImmv
  | 14 => .plain .pushCs
  | _ => .unlisted

/-- The one-byte opcode 10 to 1F. -/
def oneByteRow1 (lo : Nat) : Form :=
  match lo with
  | 0 => .rm8 (fun r rm => .adcRm8R8 rm r)
  | 1 => .rmv (fun r rm => .adcRmvRv rm r)
  | 2 => .rm8 .adcR8Rm8
  | 3 => .rmv .adcRvRmv
  | 4 => .ib .adcAlImm8
  | 5 => .iv .adcEaxImmv
  | 6 => .plain .pushSs
  | 7 => .plain .popSs
  | 8 => .rm8 (fun r rm => .sbbRm8R8 rm r)
  | 9 => .rmv (fun r rm => .sbbRmvRv rm r)
  | 10 => .rm8 .sbbR8Rm8
  | 11 => .rmv .sbbRvRmv
  | 12 => .ib .sbbAlImm8
  | 13 => .iv .sbbEaxImmv
  | 14 => .plain .pushDs
  | _ => .plain .popDs

/-- The one-byte opcode 20 to 2F. -/
def oneByteRow2 (lo : Nat) : Form :=
  match lo with
  | 0 => .rm8 (fun r rm => .andRm8R8 rm r)
  | 1 => .rmv (fun r rm => .andRmvRv rm r)
  | 2 => .rm8 .andR8Rm8
  | 3 => .rmv .andRvRmv
  | 4 => .ib .andAlImm8
  | 5 => .iv .andEaxImmv
  | 6 => .unlisted
  | 7 => .plain .daa
  | 8 => .rm8 (fun r rm => .subRm8R8 rm r)
  | 9 => .rmv (fun r rm => .subRmvRv rm r)
  | 10 => .rm8 .subR8Rm8
  | 11 => .rmv .subRvRmv
  | 12 => .ib .subAlImm8
  | 13 => .iv .subEaxImmv
  | 14 => .unlisted
  | _ => .plain .das

/-- The one-byte opcode 30 to 3F. -/
def oneByteRow3 (lo : Nat) : Form :=
  match lo with
  | 0 => .rm8 (fun r rm => .xorRm8R8 rm r)
  | 1 => .rmv (fun r rm => .xorRmvRv rm r)
  | 2 => .rm8 .xorR8Rm8
  | 3 => .rmv .xorRvRmv
  | 4 => .ib .xorAlImm8
  | 5 => .iv .xorEaxImmv
  | 6 => .unlisted
  | 7 => .plain .aaa
  | 8 => .rm8 (fun r rm => .cmpRm8R8 rm r)
  | 9 => .rmv (fun r rm => .cmpRmvRv rm r)
  | 10 => .rm8 .cmpR8Rm8
  | 11 => .rmv .cmpRvRmv
  | 12 => .ib .cmpAlImm8
  | 13 => .iv .cmpEaxImmv
  | 14 => .unlisted
  | _ => .plain .aas

/-- The one-byte opcode 40 to 4F. -/
def oneByteRow4 (lo : Nat) : Form :=
  match lo with
  | 0 => .plain (.incRv .eax)
  | 1 => .plain (.incRv .ecx)
  | 2 => .plain (.incRv .edx)
  | 3 => .plain (.incRv .ebx)
  | 4 => .plain (.incRv .esp)
  | 5 => .plain (.incRv .ebp)
  | 6 => .plain (.incRv .esi)
  | 7 => .plain (.incRv .edi)
  | 8 => .plain (.decRv .eax)
  | 9 => .plain (.decRv .ecx)
  | 10 => .plain (.decRv .edx)
  | 11 => .plain (.decRv .ebx)
  | 12 => .plain (.decRv .esp)
  | 13 => .plain (.decRv .ebp)
  | 14 => .plain (.decRv .esi)
  | _ => .plain (.decRv .edi)

/-- The one-byte opcode 50 to 5F. -/
def oneByteRow5 (lo : Nat) : Form :=
  match lo with
  | 0 => .plain (.pushRv .eax)
  | 1 => .plain (.pushRv .ecx)
  | 2 => .plain (.pushRv .edx)
  | 3 => .plain (.pushRv .ebx)
  | 4 => .plain (.pushRv .esp)
  | 5 => .plain (.pushRv .ebp)
  | 6 => .plain (.pushRv .esi)
  | 7 => .plain (.pushRv .edi)
  | 8 => .plain (.popRv .eax)
  | 9 => .plain (.popRv .ecx)
  | 10 => .plain (.popRv .edx)
  | 11 => .plain (.popRv .ebx)
  | 12 => .plain (.popRv .esp)
  | 13 => .plain (.popRv .ebp)
  | 14 => .plain (.popRv .esi)
  | _ => .plain (.popRv .edi)

/-- The one-byte opcode 60 to 6F. -/
def oneByteRow6 (lo : Nat) : Form :=
  match lo with
  | 0 => .plain .pusha
  | 1 => .plain .popa
  | 2 => .mv .bound
  | 3 => .rmv (fun r rm => .arpl rm r)
  | 4 => .unlisted
  | 5 => .unlisted
  | 6 => .unlisted
  | 7 => .unlisted
  | 8 => .iv .pushImmv
  | 9 => .rmviv .imulRvRmvImmv
  | 10 => .ib .pushImm8
  | 11 => .rmvib .imulRvRmvImm8
  | 12 => .plain .insb
  | 13 => .plain .insv
  | 14 => .plain .outsb
  | _ => .plain .outsv

/-- The one-byte opcode 70 to 7F. -/
def oneByteRow7 (lo : Nat) : Form :=
  match lo with
  | 0 => .ib .jo8
  | 1 => .ib .jno8
  | 2 => .ib .jb8
  | 3 => .ib .jae8
  | 4 => .ib .je8
  | 5 => .ib .jne8
  | 6 => .ib .jbe8
  | 7 => .ib .ja8
  | 8 => .ib .js8
  | 9 => .ib .jns8
  | 10 => .ib .jp8
  | 11 => .ib .jnp8
  | 12 => .ib .jl8
  | 13 => .ib .jge8
  | 14 => .ib .jle8
  | _ => .ib .jg8

/-- The one-byte opcode 80 to 8F. -/
def oneByteRow8 (lo : Nat) : Form :=
  match lo with
  | 0 => .grp8 group80
  | 1 => .grpv group81
  | 2 => .unlisted
  | 3 => .grpv group83
  | 4 => .rm8 (fun r rm => .testRm8R8 rm r)
  | 5 => .rmv (fun r rm => .testRmvRv rm r)
  | 6 => .rm8 (fun r rm => .xchgRm8R8 rm r)
  | 7 => .rmv (fun r rm => .xchgRmvRv rm r)
  | 8 => .rm8 (fun r rm => .movRm8R8 rm r)
  | 9 => .rmv (fun r rm => .movRmvRv rm r)
  | 10 => .rm8 .movR8Rm8
  | 11 => .rmv .movRvRmv
  | 12 => .sreg SReg.ofCode (fun sr rm => .movRmvSreg rm sr)
  | 13 => .mv .lea
  | 14 => .sreg SReg.ofLoadCode .movSregRm16
  | _ => .grpv group8F

/-- The one-byte opcode 90 to 9F. -/
def oneByteRow9 (lo : Nat) : Form :=
  match lo with
  | 0 => .plain .nop
  | 1 => .plain (.xchgEaxRv .ecx)
  | 2 => .plain (.xchgEaxRv .edx)
  | 3 => .plain (.xchgEaxRv .ebx)
  | 4 => .plain (.xchgEaxRv .esp)
  | 5 => .plain (.xchgEaxRv .ebp)
  | 6 => .plain (.xchgEaxRv .esi)
  | 7 => .plain (.xchgEaxRv .edi)
  | 8 => .plain .cbw
  | 9 => .plain .cwd
  | 10 => .far .callFarPtr
  | 11 => .plain .wait
  | 12 => .plain .pushf
  | 13 => .plain .popf
  | 14 => .plain .sahf
  | _ => .plain .lahf

/-- The one-byte opcode A0 to AF. -/
def oneByteRowA (lo : Nat) : Form :=
  match lo with
  | 0 => .moffs .movAlMoffs
  | 1 => .moffs .movEaxMoffs
  | 2 => .moffs .movMoffsAl
  | 3 => .moffs .movMoffsEax
  | 4 => .plain .movsb
  | 5 => .plain .movsv
  | 6 => .plain .cmpsb
  | 7 => .plain .cmpsv
  | 8 => .ib .testAlImm8
  | 9 => .iv .testEaxImmv
  | 10 => .plain .stosb
  | 11 => .plain .stosv
  | 12 => .plain .lodsb
  | 13 => .plain .lodsv
  | 14 => .plain .scasb
  | _ => .plain .scasv

/-- The one-byte opcode B0 to BF. -/
def oneByteRowB (lo : Nat) : Form :=
  match lo with
  | 0 => .ib (.movR8Imm8 .al)
  | 1 => .ib (.movR8Imm8 .cl)
  | 2 => .ib (.movR8Imm8 .dl)
  | 3 => .ib (.movR8Imm8 .bl)
  | 4 => .ib (.movR8Imm8 .ah)
  | 5 => .ib (.movR8Imm8 .ch)
  | 6 => .ib (.movR8Imm8 .dh)
  | 7 => .ib (.movR8Imm8 .bh)
  | 8 => .iv (.movRvImmv .eax)
  | 9 => .iv (.movRvImmv .ecx)
  | 10 => .iv (.movRvImmv .edx)
  | 11 => .iv (.movRvImmv .ebx)
  | 12 => .iv (.movRvImmv .esp)
  | 13 => .iv (.movRvImmv .ebp)
  | 14 => .iv (.movRvImmv .esi)
  | _ => .iv (.movRvImmv .edi)

/-- The one-byte opcode C0 to CF. -/
def oneByteRowC (lo : Nat) : Form :=
  match lo with
  | 0 => .grp8 groupC0
  | 1 => .grpv groupC1
  | 2 => .iw .retNearImm
  | 3 => .plain .retNear
  | 4 => .mv .les
  | 5 => .mv .lds
  | 6 => .grp8 groupC6
  | 7 => .grpv groupC7
  | 8 => .iwib .enter
  | 9 => .plain .leave
  | 10 => .iw .retFarImm
  | 11 => .plain .retFar
  | 12 => .plain .int3
  | 13 => .ib .int
  | 14 => .plain .into
  | _ => .plain .iret

/-- The one-byte opcode D0 to DF. -/
def oneByteRowD (lo : Nat) : Form :=
  match lo with
  | 0 => .grp8 groupD0
  | 1 => .grpv groupD1
  | 2 => .grp8 groupD2
  | 3 => .grpv groupD3
  | 4 => .adjust .aam
  | 5 => .adjust .aad
  | 6 => .unlisted
  | 7 => .plain .xlat
  | 8 => .grpv (fun d => .rm (.esc 0 d))
  | 9 => .grpv (fun d => .rm (.esc 1 d))
  | 10 => .grpv (fun d => .rm (.esc 2 d))
  | 11 => .grpv (fun d => .rm (.esc 3 d))
  | 12 => .grpv (fun d => .rm (.esc 4 d))
  | 13 => .grpv (fun d => .rm (.esc 5 d))
  | 14 => .grpv (fun d => .rm (.esc 6 d))
  | _ => .grpv (fun d => .rm (.esc 7 d))

/-- The one-byte opcode E0 to EF. -/
def oneByteRowE (lo : Nat) : Form :=
  match lo with
  | 0 => .ib .loopne
  | 1 => .ib .loope
  | 2 => .ib .loop
  | 3 => .ib .jcxz
  | 4 => .ib .inAlImm8
  | 5 => .ib .inEaxImm8
  | 6 => .ib .outImm8Al
  | 7 => .ib .outImm8Eax
  | 8 => .cv .callRelv
  | 9 => .cv .jmpRelv
  | 10 => .far .jmpFarPtr
  | 11 => .ib .jmpRel8
  | 12 => .plain .inAlDx
  | 13 => .plain .inEaxDx
  | 14 => .plain .outDxAl
  | _ => .plain .outDxEax

/-- The one-byte opcode F0 to FF. -/
def oneByteRowF (lo : Nat) : Form :=
  match lo with
  | 0 => .unlisted
  | 1 => .unlisted
  | 2 => .unlisted
  | 3 => .unlisted
  | 4 => .plain .hlt
  | 5 => .plain .cmc
  | 6 => .grp8 groupF6
  | 7 => .grpv groupF7
  | 8 => .plain .clc
  | 9 => .plain .stc
  | 10 => .plain .cli
  | 11 => .plain .sti
  | 12 => .plain .cld
  | 13 => .plain .std
  | 14 => .grp8 groupFE
  | _ => .grpv groupFF

/-- The one-byte opcodes by their high hexadecimal digit. -/
def oneByte (b : Byte) : Form :=
  match b.toNat / 16 with
  | 0 => oneByteRow0 (b.toNat % 16)
  | 1 => oneByteRow1 (b.toNat % 16)
  | 2 => oneByteRow2 (b.toNat % 16)
  | 3 => oneByteRow3 (b.toNat % 16)
  | 4 => oneByteRow4 (b.toNat % 16)
  | 5 => oneByteRow5 (b.toNat % 16)
  | 6 => oneByteRow6 (b.toNat % 16)
  | 7 => oneByteRow7 (b.toNat % 16)
  | 8 => oneByteRow8 (b.toNat % 16)
  | 9 => oneByteRow9 (b.toNat % 16)
  | 10 => oneByteRowA (b.toNat % 16)
  | 11 => oneByteRowB (b.toNat % 16)
  | 12 => oneByteRowC (b.toNat % 16)
  | 13 => oneByteRowD (b.toNat % 16)
  | 14 => oneByteRowE (b.toNat % 16)
  | _ => oneByteRowF (b.toNat % 16)

/-- The instruction after its prefixes: 0F escapes to the two-byte map (R180, R185). -/
def decodeOpcode (a : Attrs) (bs : List Byte) : Parse Instr :=
  (readByte bs).andThen fun b rest =>
    if b = 0x0F then (readByte rest).andThen fun b2 rest => (twoByte b2).read a rest
    else (oneByte b).read a rest

/-- The prefix that a byte stands for, if it stands for one (R140). -/
def prefixOf (b : Byte) : Option Instr :=
  match b.toNat with
  | 0x26 => some .esOverride
  | 0x2E => some .csOverride
  | 0x36 => some .ssOverride
  | 0x3E => some .dsOverride
  | 0x64 => some .fsOverride
  | 0x65 => some .gsOverride
  | 0x66 => some .operandSize
  | 0x67 => some .addressSize
  | 0xF0 => some .lock
  | 0xF2 => some .repne
  | 0xF3 => some .rep
  | _ => none

/-- The attributes once a prefix has been seen: 66 and 67 give the size that is not the default, however often they
stand (R141, R142). -/
def Attrs.after (default : Width) (a : Attrs) : Instr → Attrs
  | .operandSize => { a with osz := default.other }
  | .addressSize => { a with asz := default.other }
  | _ => a

/-- A decoded instruction: its prefixes in order, and the instruction. -/
structure Decoded where
  prefixes : List Instr
  instr : Instr
deriving DecidableEq, Repr

/-- Read prefixes as long as there are any, then the instruction under the attributes they leave (R141, R186). -/
def decodeFrom (default : Width) (a : Attrs) (seen : List Instr) : List Byte → Parse Decoded
  | [] => .more
  | b :: rest =>
    match prefixOf b with
    | some p => decodeFrom default (a.after default p) (seen ++ [p]) rest
    | none => (decodeOpcode a (b :: rest)).andThen fun i rest => .ok ⟨seen, i⟩ rest

/-- The instruction that a list of bytes begins with, in code whose default size is `default` (R186). -/
def decode (default : Width) (bs : List Byte) : Parse Decoded :=
  decodeFrom default ⟨default, default⟩ [] bs

/-! ### The encoder -/

/-- The two bytes of a word, low byte first (R81). -/
def wordBytes (v : Word) : List Byte := [v.extractLsb' 0 8, v.extractLsb' 8 8]

/-- The four bytes of a doubleword, low byte first (R81). -/
def dwordBytes (v : DWord) : List Byte :=
  [v.extractLsb' 0 8, v.extractLsb' 8 8, v.extractLsb' 16 8, v.extractLsb' 24 8]

/-- The bytes of an immediate or offset of the size. -/
def Width.bytesOf (w : Width) (v : DWord) : List Byte :=
  match w with
  | .w16 => wordBytes (v.setWidth 16)
  | .w32 => dwordBytes v

/-- A ModR/M or SIB byte from its three fields (R151). -/
def modRM (mod : BitVec 2) (reg rm : BitVec 3) : Byte := mod ++ reg ++ rm

/-- An opcode with a register code added: `+rb`, `+rw`, `+rd` (R13). -/
def plusCode (opcode : Byte) (code : BitVec 3) : Byte := opcode + code.setWidth 8

/-- The opcode byte of an ESC: D8 plus its low three bits (R176). -/
def escapeByte (op : BitVec 3) : Byte := plusCode 0xD8 op

/-- The ModR/M byte, SIB byte and displacement of an address, the displacement written in full (R152 to R154). -/
def EA.bytes (m : EA) (reg : BitVec 3) : List Byte :=
  match m with
  | .a16 none d => modRM 0 reg 6 :: wordBytes d
  | .a16 (some b) d => modRM 2 reg b.code :: wordBytes d
  | .a32 none none d => modRM 0 reg 5 :: dwordBytes d
  | .a32 none (some (i, k)) d => modRM 0 reg 4 :: modRM k.code i.code 5 :: dwordBytes d
  | .a32 (some b) none d =>
    if b = .esp then modRM 2 reg 4 :: modRM 0 4 4 :: dwordBytes d else modRM 2 reg b.code :: dwordBytes d
  | .a32 (some b) (some (i, k)) d => modRM 2 reg 4 :: modRM k.code i.code b.code :: dwordBytes d

/-- The ModR/M byte and what follows it of an r/m operand. -/
def RM.bytes {ρ : Type} (rm : RM ρ) (code : ρ → BitVec 3) (reg : BitVec 3) : List Byte :=
  match rm with
  | .reg r => [modRM 3 reg (code r)]
  | .mem m => m.bytes reg

/-- The opcode of a shift by its count operand: the row by 1, by CL and by imm8 (R184). -/
def Count.opcode (one cl imm : Byte) : Count → Byte
  | .one => one
  | .cl => cl
  | .imm _ => imm

/-- The immediate byte of a count operand, if it has one. -/
def Count.bytes : Count → List Byte
  | .imm v => [v]
  | _ => []

/-- 83 for a sign-extended byte, 81 for a full immediate (R182). -/
def Imm.opcode : Imm → Byte
  | .short _ => 0x83
  | .full _ => 0x81

/-- The bytes of the immediate. -/
def Imm.bytes (w : Width) : Imm → List Byte
  | .short v => [v]
  | .full v => w.bytesOf v

/-- The bytes of a well-formed instruction (R180 to R185). A prefix constructor gives its one byte. -/
def encode (a : Attrs) : Instr → List Byte
  | .addRm8R8 rm r => 0x00 :: rm.bytes Reg8.code r.code
  | .addRmvRv rm r => 0x01 :: rm.bytes Reg.code r.code
  | .addR8Rm8 r rm => 0x02 :: rm.bytes Reg8.code r.code
  | .addRvRmv r rm => 0x03 :: rm.bytes Reg.code r.code
  | .addAlImm8 imm => [0x04, imm]
  | .addEaxImmv imm => 0x05 :: a.osz.bytesOf imm
  | .addRm8Imm8 rm imm => 0x80 :: rm.bytes Reg8.code 0 ++ [imm]
  | .addRmvImm rm imm => imm.opcode :: rm.bytes Reg.code 0 ++ imm.bytes a.osz
  | .orRm8R8 rm r => 0x08 :: rm.bytes Reg8.code r.code
  | .orRmvRv rm r => 0x09 :: rm.bytes Reg.code r.code
  | .orR8Rm8 r rm => 0x0A :: rm.bytes Reg8.code r.code
  | .orRvRmv r rm => 0x0B :: rm.bytes Reg.code r.code
  | .orAlImm8 imm => [0x0C, imm]
  | .orEaxImmv imm => 0x0D :: a.osz.bytesOf imm
  | .orRm8Imm8 rm imm => 0x80 :: rm.bytes Reg8.code 1 ++ [imm]
  | .orRmvImm rm imm => imm.opcode :: rm.bytes Reg.code 1 ++ imm.bytes a.osz
  | .adcRm8R8 rm r => 0x10 :: rm.bytes Reg8.code r.code
  | .adcRmvRv rm r => 0x11 :: rm.bytes Reg.code r.code
  | .adcR8Rm8 r rm => 0x12 :: rm.bytes Reg8.code r.code
  | .adcRvRmv r rm => 0x13 :: rm.bytes Reg.code r.code
  | .adcAlImm8 imm => [0x14, imm]
  | .adcEaxImmv imm => 0x15 :: a.osz.bytesOf imm
  | .adcRm8Imm8 rm imm => 0x80 :: rm.bytes Reg8.code 2 ++ [imm]
  | .adcRmvImm rm imm => imm.opcode :: rm.bytes Reg.code 2 ++ imm.bytes a.osz
  | .sbbRm8R8 rm r => 0x18 :: rm.bytes Reg8.code r.code
  | .sbbRmvRv rm r => 0x19 :: rm.bytes Reg.code r.code
  | .sbbR8Rm8 r rm => 0x1A :: rm.bytes Reg8.code r.code
  | .sbbRvRmv r rm => 0x1B :: rm.bytes Reg.code r.code
  | .sbbAlImm8 imm => [0x1C, imm]
  | .sbbEaxImmv imm => 0x1D :: a.osz.bytesOf imm
  | .sbbRm8Imm8 rm imm => 0x80 :: rm.bytes Reg8.code 3 ++ [imm]
  | .sbbRmvImm rm imm => imm.opcode :: rm.bytes Reg.code 3 ++ imm.bytes a.osz
  | .andRm8R8 rm r => 0x20 :: rm.bytes Reg8.code r.code
  | .andRmvRv rm r => 0x21 :: rm.bytes Reg.code r.code
  | .andR8Rm8 r rm => 0x22 :: rm.bytes Reg8.code r.code
  | .andRvRmv r rm => 0x23 :: rm.bytes Reg.code r.code
  | .andAlImm8 imm => [0x24, imm]
  | .andEaxImmv imm => 0x25 :: a.osz.bytesOf imm
  | .andRm8Imm8 rm imm => 0x80 :: rm.bytes Reg8.code 4 ++ [imm]
  | .andRmvImm rm imm => imm.opcode :: rm.bytes Reg.code 4 ++ imm.bytes a.osz
  | .subRm8R8 rm r => 0x28 :: rm.bytes Reg8.code r.code
  | .subRmvRv rm r => 0x29 :: rm.bytes Reg.code r.code
  | .subR8Rm8 r rm => 0x2A :: rm.bytes Reg8.code r.code
  | .subRvRmv r rm => 0x2B :: rm.bytes Reg.code r.code
  | .subAlImm8 imm => [0x2C, imm]
  | .subEaxImmv imm => 0x2D :: a.osz.bytesOf imm
  | .subRm8Imm8 rm imm => 0x80 :: rm.bytes Reg8.code 5 ++ [imm]
  | .subRmvImm rm imm => imm.opcode :: rm.bytes Reg.code 5 ++ imm.bytes a.osz
  | .xorRm8R8 rm r => 0x30 :: rm.bytes Reg8.code r.code
  | .xorRmvRv rm r => 0x31 :: rm.bytes Reg.code r.code
  | .xorR8Rm8 r rm => 0x32 :: rm.bytes Reg8.code r.code
  | .xorRvRmv r rm => 0x33 :: rm.bytes Reg.code r.code
  | .xorAlImm8 imm => [0x34, imm]
  | .xorEaxImmv imm => 0x35 :: a.osz.bytesOf imm
  | .xorRm8Imm8 rm imm => 0x80 :: rm.bytes Reg8.code 6 ++ [imm]
  | .xorRmvImm rm imm => imm.opcode :: rm.bytes Reg.code 6 ++ imm.bytes a.osz
  | .cmpRm8R8 rm r => 0x38 :: rm.bytes Reg8.code r.code
  | .cmpRmvRv rm r => 0x39 :: rm.bytes Reg.code r.code
  | .cmpR8Rm8 r rm => 0x3A :: rm.bytes Reg8.code r.code
  | .cmpRvRmv r rm => 0x3B :: rm.bytes Reg.code r.code
  | .cmpAlImm8 imm => [0x3C, imm]
  | .cmpEaxImmv imm => 0x3D :: a.osz.bytesOf imm
  | .cmpRm8Imm8 rm imm => 0x80 :: rm.bytes Reg8.code 7 ++ [imm]
  | .cmpRmvImm rm imm => imm.opcode :: rm.bytes Reg.code 7 ++ imm.bytes a.osz
  | .incRv r => [plusCode 0x40 r.code]
  | .decRv r => [plusCode 0x48 r.code]
  | .pushRv r => [plusCode 0x50 r.code]
  | .popRv r => [plusCode 0x58 r.code]
  | .bound r m => 0x62 :: m.bytes r.code
  | .arpl rm r => 0x63 :: rm.bytes Reg.code r.code
  | .pushImmv imm => 0x68 :: a.osz.bytesOf imm
  | .imulRvRmvImmv r rm imm => 0x69 :: rm.bytes Reg.code r.code ++ a.osz.bytesOf imm
  | .pushImm8 imm => [0x6A, imm]
  | .imulRvRmvImm8 r rm imm => 0x6B :: rm.bytes Reg.code r.code ++ [imm]
  | .jo8 rel => [0x70, rel]
  | .jno8 rel => [0x71, rel]
  | .jb8 rel => [0x72, rel]
  | .jae8 rel => [0x73, rel]
  | .je8 rel => [0x74, rel]
  | .jne8 rel => [0x75, rel]
  | .jbe8 rel => [0x76, rel]
  | .ja8 rel => [0x77, rel]
  | .js8 rel => [0x78, rel]
  | .jns8 rel => [0x79, rel]
  | .jp8 rel => [0x7A, rel]
  | .jnp8 rel => [0x7B, rel]
  | .jl8 rel => [0x7C, rel]
  | .jge8 rel => [0x7D, rel]
  | .jle8 rel => [0x7E, rel]
  | .jg8 rel => [0x7F, rel]
  | .testRm8R8 rm r => 0x84 :: rm.bytes Reg8.code r.code
  | .testRmvRv rm r => 0x85 :: rm.bytes Reg.code r.code
  | .xchgRm8R8 rm r => 0x86 :: rm.bytes Reg8.code r.code
  | .xchgRmvRv rm r => 0x87 :: rm.bytes Reg.code r.code
  | .movRm8R8 rm r => 0x88 :: rm.bytes Reg8.code r.code
  | .movRmvRv rm r => 0x89 :: rm.bytes Reg.code r.code
  | .movR8Rm8 r rm => 0x8A :: rm.bytes Reg8.code r.code
  | .movRvRmv r rm => 0x8B :: rm.bytes Reg.code r.code
  | .movRmvSreg rm sr => 0x8C :: rm.bytes Reg.code sr.code
  | .lea r m => 0x8D :: m.bytes r.code
  | .movSregRm16 sr rm => 0x8E :: rm.bytes Reg.code sr.code
  | .popRmv rm => 0x8F :: rm.bytes Reg.code 0
  | .xchgEaxRv r => [plusCode 0x90 r.code]
  | .callFarPtr off sel => 0x9A :: a.osz.bytesOf off ++ wordBytes sel
  | .movAlMoffs off => 0xA0 :: a.asz.bytesOf off
  | .movEaxMoffs off => 0xA1 :: a.asz.bytesOf off
  | .movMoffsAl off => 0xA2 :: a.asz.bytesOf off
  | .movMoffsEax off => 0xA3 :: a.asz.bytesOf off
  | .testAlImm8 imm => [0xA8, imm]
  | .testEaxImmv imm => 0xA9 :: a.osz.bytesOf imm
  | .movR8Imm8 r imm => [plusCode 0xB0 r.code, imm]
  | .movRvImmv r imm => plusCode 0xB8 r.code :: a.osz.bytesOf imm
  | .rolRm8 rm count => count.opcode 0xD0 0xD2 0xC0 :: rm.bytes Reg8.code 0 ++ count.bytes
  | .rolRmv rm count => count.opcode 0xD1 0xD3 0xC1 :: rm.bytes Reg.code 0 ++ count.bytes
  | .rorRm8 rm count => count.opcode 0xD0 0xD2 0xC0 :: rm.bytes Reg8.code 1 ++ count.bytes
  | .rorRmv rm count => count.opcode 0xD1 0xD3 0xC1 :: rm.bytes Reg.code 1 ++ count.bytes
  | .rclRm8 rm count => count.opcode 0xD0 0xD2 0xC0 :: rm.bytes Reg8.code 2 ++ count.bytes
  | .rclRmv rm count => count.opcode 0xD1 0xD3 0xC1 :: rm.bytes Reg.code 2 ++ count.bytes
  | .rcrRm8 rm count => count.opcode 0xD0 0xD2 0xC0 :: rm.bytes Reg8.code 3 ++ count.bytes
  | .rcrRmv rm count => count.opcode 0xD1 0xD3 0xC1 :: rm.bytes Reg.code 3 ++ count.bytes
  | .salRm8 rm count => count.opcode 0xD0 0xD2 0xC0 :: rm.bytes Reg8.code 4 ++ count.bytes
  | .salRmv rm count => count.opcode 0xD1 0xD3 0xC1 :: rm.bytes Reg.code 4 ++ count.bytes
  | .shrRm8 rm count => count.opcode 0xD0 0xD2 0xC0 :: rm.bytes Reg8.code 5 ++ count.bytes
  | .shrRmv rm count => count.opcode 0xD1 0xD3 0xC1 :: rm.bytes Reg.code 5 ++ count.bytes
  | .sarRm8 rm count => count.opcode 0xD0 0xD2 0xC0 :: rm.bytes Reg8.code 7 ++ count.bytes
  | .sarRmv rm count => count.opcode 0xD1 0xD3 0xC1 :: rm.bytes Reg.code 7 ++ count.bytes
  | .retNearImm n => 0xC2 :: wordBytes n
  | .les r m => 0xC4 :: m.bytes r.code
  | .lds r m => 0xC5 :: m.bytes r.code
  | .movRm8Imm8 rm imm => 0xC6 :: rm.bytes Reg8.code 0 ++ [imm]
  | .movRmvImmv rm imm => 0xC7 :: rm.bytes Reg.code 0 ++ a.osz.bytesOf imm
  | .enter n level => 0xC8 :: wordBytes n ++ [level]
  | .retFarImm n => 0xCA :: wordBytes n
  | .int n => [0xCD, n]
  | .esc op ext rm => escapeByte op :: rm.bytes Reg.code ext
  | .loopne rel => [0xE0, rel]
  | .loope rel => [0xE1, rel]
  | .loop rel => [0xE2, rel]
  | .jcxz rel => [0xE3, rel]
  | .inAlImm8 port => [0xE4, port]
  | .inEaxImm8 port => [0xE5, port]
  | .outImm8Al port => [0xE6, port]
  | .outImm8Eax port => [0xE7, port]
  | .callRelv rel => 0xE8 :: a.osz.bytesOf rel
  | .jmpRelv rel => 0xE9 :: a.osz.bytesOf rel
  | .jmpFarPtr off sel => 0xEA :: a.osz.bytesOf off ++ wordBytes sel
  | .jmpRel8 rel => [0xEB, rel]
  | .testRm8Imm8 rm imm => 0xF6 :: rm.bytes Reg8.code 0 ++ [imm]
  | .testRmvImmv rm imm => 0xF7 :: rm.bytes Reg.code 0 ++ a.osz.bytesOf imm
  | .notRm8 rm => 0xF6 :: rm.bytes Reg8.code 2
  | .notRmv rm => 0xF7 :: rm.bytes Reg.code 2
  | .negRm8 rm => 0xF6 :: rm.bytes Reg8.code 3
  | .negRmv rm => 0xF7 :: rm.bytes Reg.code 3
  | .mulRm8 rm => 0xF6 :: rm.bytes Reg8.code 4
  | .mulRmv rm => 0xF7 :: rm.bytes Reg.code 4
  | .imulRm8 rm => 0xF6 :: rm.bytes Reg8.code 5
  | .imulRmv rm => 0xF7 :: rm.bytes Reg.code 5
  | .divRm8 rm => 0xF6 :: rm.bytes Reg8.code 6
  | .divRmv rm => 0xF7 :: rm.bytes Reg.code 6
  | .idivRm8 rm => 0xF6 :: rm.bytes Reg8.code 7
  | .idivRmv rm => 0xF7 :: rm.bytes Reg.code 7
  | .incRm8 rm => 0xFE :: rm.bytes Reg8.code 0
  | .decRm8 rm => 0xFE :: rm.bytes Reg8.code 1
  | .incRmv rm => 0xFF :: rm.bytes Reg.code 0
  | .decRmv rm => 0xFF :: rm.bytes Reg.code 1
  | .callRmv rm => 0xFF :: rm.bytes Reg.code 2
  | .callFarMem m => 0xFF :: m.bytes 3
  | .jmpRmv rm => 0xFF :: rm.bytes Reg.code 4
  | .jmpFarMem m => 0xFF :: m.bytes 5
  | .pushRmv rm => 0xFF :: rm.bytes Reg.code 6
  | .sldt rm => 0x0F :: 0x00 :: rm.bytes Reg.code 0
  | .str rm => 0x0F :: 0x00 :: rm.bytes Reg.code 1
  | .lldt rm => 0x0F :: 0x00 :: rm.bytes Reg.code 2
  | .ltr rm => 0x0F :: 0x00 :: rm.bytes Reg.code 3
  | .verr rm => 0x0F :: 0x00 :: rm.bytes Reg.code 4
  | .verw rm => 0x0F :: 0x00 :: rm.bytes Reg.code 5
  | .sgdt m => 0x0F :: 0x01 :: m.bytes 0
  | .sidt m => 0x0F :: 0x01 :: m.bytes 1
  | .lgdt m => 0x0F :: 0x01 :: m.bytes 2
  | .lidt m => 0x0F :: 0x01 :: m.bytes 3
  | .smsw rm => 0x0F :: 0x01 :: rm.bytes Reg.code 4
  | .lmsw rm => 0x0F :: 0x01 :: rm.bytes Reg.code 6
  | .lar r rm => 0x0F :: 0x02 :: rm.bytes Reg.code r.code
  | .lsl r rm => 0x0F :: 0x03 :: rm.bytes Reg.code r.code
  | .movRdCr r c => [0x0F, 0x20, modRM 3 c.code r.code]
  | .movRdDr r d => [0x0F, 0x21, modRM 3 d.code r.code]
  | .movCrRd c r => [0x0F, 0x22, modRM 3 c.code r.code]
  | .movDrRd d r => [0x0F, 0x23, modRM 3 d.code r.code]
  | .movRdTr r t => [0x0F, 0x24, modRM 3 t.code r.code]
  | .movTrRd t r => [0x0F, 0x26, modRM 3 t.code r.code]
  | .joNear rel => [0x0F, 0x80] ++ a.osz.bytesOf rel
  | .jnoNear rel => [0x0F, 0x81] ++ a.osz.bytesOf rel
  | .jbNear rel => [0x0F, 0x82] ++ a.osz.bytesOf rel
  | .jaeNear rel => [0x0F, 0x83] ++ a.osz.bytesOf rel
  | .jeNear rel => [0x0F, 0x84] ++ a.osz.bytesOf rel
  | .jneNear rel => [0x0F, 0x85] ++ a.osz.bytesOf rel
  | .jbeNear rel => [0x0F, 0x86] ++ a.osz.bytesOf rel
  | .jaNear rel => [0x0F, 0x87] ++ a.osz.bytesOf rel
  | .jsNear rel => [0x0F, 0x88] ++ a.osz.bytesOf rel
  | .jnsNear rel => [0x0F, 0x89] ++ a.osz.bytesOf rel
  | .jpNear rel => [0x0F, 0x8A] ++ a.osz.bytesOf rel
  | .jnpNear rel => [0x0F, 0x8B] ++ a.osz.bytesOf rel
  | .jlNear rel => [0x0F, 0x8C] ++ a.osz.bytesOf rel
  | .jgeNear rel => [0x0F, 0x8D] ++ a.osz.bytesOf rel
  | .jleNear rel => [0x0F, 0x8E] ++ a.osz.bytesOf rel
  | .jgNear rel => [0x0F, 0x8F] ++ a.osz.bytesOf rel
  | .seto rm => 0x0F :: 0x90 :: rm.bytes Reg8.code 0
  | .setno rm => 0x0F :: 0x91 :: rm.bytes Reg8.code 0
  | .setb rm => 0x0F :: 0x92 :: rm.bytes Reg8.code 0
  | .setae rm => 0x0F :: 0x93 :: rm.bytes Reg8.code 0
  | .sete rm => 0x0F :: 0x94 :: rm.bytes Reg8.code 0
  | .setne rm => 0x0F :: 0x95 :: rm.bytes Reg8.code 0
  | .setbe rm => 0x0F :: 0x96 :: rm.bytes Reg8.code 0
  | .seta rm => 0x0F :: 0x97 :: rm.bytes Reg8.code 0
  | .sets rm => 0x0F :: 0x98 :: rm.bytes Reg8.code 0
  | .setns rm => 0x0F :: 0x99 :: rm.bytes Reg8.code 0
  | .setp rm => 0x0F :: 0x9A :: rm.bytes Reg8.code 0
  | .setnp rm => 0x0F :: 0x9B :: rm.bytes Reg8.code 0
  | .setl rm => 0x0F :: 0x9C :: rm.bytes Reg8.code 0
  | .setge rm => 0x0F :: 0x9D :: rm.bytes Reg8.code 0
  | .setle rm => 0x0F :: 0x9E :: rm.bytes Reg8.code 0
  | .setg rm => 0x0F :: 0x9F :: rm.bytes Reg8.code 0
  | .btRmvRv rm r => 0x0F :: 0xA3 :: rm.bytes Reg.code r.code
  | .shldImm8 rm r imm => 0x0F :: 0xA4 :: rm.bytes Reg.code r.code ++ [imm]
  | .shldCl rm r => 0x0F :: 0xA5 :: rm.bytes Reg.code r.code
  | .btsRmvRv rm r => 0x0F :: 0xAB :: rm.bytes Reg.code r.code
  | .shrdImm8 rm r imm => 0x0F :: 0xAC :: rm.bytes Reg.code r.code ++ [imm]
  | .shrdCl rm r => 0x0F :: 0xAD :: rm.bytes Reg.code r.code
  | .imulRvRmv r rm => 0x0F :: 0xAF :: rm.bytes Reg.code r.code
  | .lss r m => 0x0F :: 0xB2 :: m.bytes r.code
  | .btrRmvRv rm r => 0x0F :: 0xB3 :: rm.bytes Reg.code r.code
  | .lfs r m => 0x0F :: 0xB4 :: m.bytes r.code
  | .lgs r m => 0x0F :: 0xB5 :: m.bytes r.code
  | .movzxRvRm8 r rm => 0x0F :: 0xB6 :: rm.bytes Reg8.code r.code
  | .movzxRdRm16 r rm => 0x0F :: 0xB7 :: rm.bytes Reg.code r.code
  | .btRmvImm8 rm imm => 0x0F :: 0xBA :: rm.bytes Reg.code 4 ++ [imm]
  | .btsRmvImm8 rm imm => 0x0F :: 0xBA :: rm.bytes Reg.code 5 ++ [imm]
  | .btrRmvImm8 rm imm => 0x0F :: 0xBA :: rm.bytes Reg.code 6 ++ [imm]
  | .btcRmvImm8 rm imm => 0x0F :: 0xBA :: rm.bytes Reg.code 7 ++ [imm]
  | .btcRmvRv rm r => 0x0F :: 0xBB :: rm.bytes Reg.code r.code
  | .bsf r rm => 0x0F :: 0xBC :: rm.bytes Reg.code r.code
  | .bsr r rm => 0x0F :: 0xBD :: rm.bytes Reg.code r.code
  | .movsxRvRm8 r rm => 0x0F :: 0xBE :: rm.bytes Reg8.code r.code
  | .movsxRdRm16 r rm => 0x0F :: 0xBF :: rm.bytes Reg.code r.code
  | .pushEs => [0x06]
  | .popEs => [0x07]
  | .pushCs => [0x0E]
  | .pushSs => [0x16]
  | .popSs => [0x17]
  | .pushDs => [0x1E]
  | .popDs => [0x1F]
  | .pushFs => [0x0F, 0xA0]
  | .popFs => [0x0F, 0xA1]
  | .pushGs => [0x0F, 0xA8]
  | .popGs => [0x0F, 0xA9]
  | .daa => [0x27]
  | .das => [0x2F]
  | .aaa => [0x37]
  | .aas => [0x3F]
  | .esOverride => [0x26]
  | .csOverride => [0x2E]
  | .ssOverride => [0x36]
  | .dsOverride => [0x3E]
  | .fsOverride => [0x64]
  | .gsOverride => [0x65]
  | .operandSize => [0x66]
  | .addressSize => [0x67]
  | .lock => [0xF0]
  | .repne => [0xF2]
  | .rep => [0xF3]
  | .pusha => [0x60]
  | .popa => [0x61]
  | .insb => [0x6C]
  | .insv => [0x6D]
  | .outsb => [0x6E]
  | .outsv => [0x6F]
  | .nop => [0x90]
  | .cbw => [0x98]
  | .cwd => [0x99]
  | .wait => [0x9B]
  | .pushf => [0x9C]
  | .popf => [0x9D]
  | .sahf => [0x9E]
  | .lahf => [0x9F]
  | .movsb => [0xA4]
  | .movsv => [0xA5]
  | .cmpsb => [0xA6]
  | .cmpsv => [0xA7]
  | .stosb => [0xAA]
  | .stosv => [0xAB]
  | .lodsb => [0xAC]
  | .lodsv => [0xAD]
  | .scasb => [0xAE]
  | .scasv => [0xAF]
  | .retNear => [0xC3]
  | .leave => [0xC9]
  | .retFar => [0xCB]
  | .int3 => [0xCC]
  | .into => [0xCE]
  | .iret => [0xCF]
  | .aam => [0xD4, 0x0A]
  | .aad => [0xD5, 0x0A]
  | .xlat => [0xD7]
  | .inAlDx => [0xEC]
  | .inEaxDx => [0xED]
  | .outDxAl => [0xEE]
  | .outDxEax => [0xEF]
  | .hlt => [0xF4]
  | .cmc => [0xF5]
  | .clc => [0xF8]
  | .stc => [0xF9]
  | .cli => [0xFA]
  | .sti => [0xFB]
  | .cld => [0xFC]
  | .std => [0xFD]
  | .clts => [0x0F, 0x06]

/-! ### The words of the opcode table -/

/-- The `n` low bytes of a number, the least significant first. -/
def lowBytes : Nat → Nat → List Byte
  | 0, _ => []
  | n + 1, w => BitVec.ofNat 8 w :: lowBytes n (w / 256)

/-- How many bytes of a table row are fixed by it, given the bytes: the opcode bytes, the ModR/M byte of a group and the
0AH of AAM and AAD (the `bytes_matched` of spec/opcode_table.json). -/
def matchedBytes (bs : List Byte) : Nat :=
  match bs with
  | [] => 0
  | b :: rest =>
    if b = 0x0F then
      match rest with
      | [] => 2
      | b2 :: _ =>
        match twoByte b2 with
        | .grpv _ => 3
        | _ => 2
    else
      match oneByte b with
      | .grp8 _ => 2
      | .grpv _ => if b.toNat / 8 = 27 then 1 else 2
      | .adjust _ => 2
      | _ => 1

/-- The bytes of a table word, in the order they are stored. The table's rows number the FIRST byte as the most significant
one of the bytes a row fixes; the host numbers the first byte as the least significant one. A word of one byte is the same
in both. Of a longer word, that reading is taken under which the number of bytes is the number the row fixes (log entry
on table words). -/
def tableWordBytes (nbits w : Nat) : List Byte :=
  let n := nbits / 8
  let low := lowBytes n w
  let high := low.reverse
  if matchedBytes high = n ∧ (matchedBytes low ≠ n ∨ high.head? = some 0x0F) then high else low

/-- The longest instruction (R140). -/
def maxLength : Nat := 15

/-- The stored bytes of a table word with zeros after them, up to the longest instruction. -/
def tableWordPadded (nbits w : Nat) : List Byte :=
  let bs := tableWordBytes nbits w
  bs ++ List.replicate (maxLength - bs.length) 0

/-- The instruction that the decoder reads from a word of spec/opcode_table.json, in 16-bit code (the mode after reset). A
word that begins with a prefix byte gives the prefix. -/
def decodeTableWord (nbits w : Nat) : Option Instr :=
  match decode .w16 (tableWordPadded nbits w) with
  | .ok d _ => (d.prefixes ++ [d.instr]).head?
  | _ => none

end Sys2Proof
end

