-- ==== Sys2Proof/Config.lean ====
section
/-!
DEFINITION. What the spec leaves to an implementation or an environment (00_scope.md R9, 92_eei_decisions.md, the table of
open parameters). A constant without a body is a free value: nothing can be proved of it, so a claim holds whatever it is.
-/
namespace Sys2Proof

/-- What a translated access is for (20_memory.md R118). -/
inductive AccessKind where
  | read
  | write
  | execute
deriving DecidableEq, Repr

/-- What the paging function answers: a physical address, or a page fault (R118). Of the fault code, R501 leaves to it
whether the page was present and protected (bit 0), and it says nothing of bits 15:3. -/
inductive Translation where
  | phys (a : DWord)
  | pageFault (protection : Bool) (upper : BitVec 13)
deriving DecidableEq, Repr, Inhabited

namespace Config

/-- `UNDEF`: the value of the `n`-th draw of a value the spec calls undefined (R9, R29, D10). The machine counts its draws in
`State.draws`. -/
opaque undef : Nat → DWord

/-- `IO`: what the `n`-th draw reads from a port, in the low bits of the size (R9, R84, D3). -/
opaque ioIn : Word → Size → Nat → DWord

/-- `Translate`: the paging function, from CR3, the whole memory, a linear address, the kind of access and whether it is
made at CPL 3 (R9, R118, D6). -/
opaque translate : DWord → List Host.Cell → DWord → AccessKind → Bool → Translation

/-- `EDX_RESET`: the component and revision identifier that EDX holds after RESET (R9, R57, D9): component 3, revision 8.
PRESUMED, unsafe: the spec gives the register's meaning and no number. -/
def edxReset : DWord := 0x00000308

/-- `SELFTEST_EAX`: what EAX holds after RESET; 0 when no self-test was requested or it passed (R9, R57, D9). -/
def selftestEax : DWord := 0x00000000

end Config

end Sys2Proof
end

