-- ==== Sys2Proof/Machine/State.lean ====
section
/-!
DEFINITION. The state of the machine as plain data, the reasons a step can stop, and the state after reset (10_state.md).
Fields under "the model's own" are not the spec's: the log says what each is for.
-/
namespace Sys2Proof.Machine

/-- EFLAGS by its fields (R26 to R35). The fixed bits 1, 3, 5, 15 and 31:18 are not stored: they read 1, 0, 0, 0, 0 (R28). -/
structure Flags where
  cf : Bool
  pf : Bool
  af : Bool
  zf : Bool
  sf : Bool
  tf : Bool
  /-- IF, the INTR enable. -/
  ifl : Bool
  df : Bool
  /-- OF, overflow. -/
  ofl : Bool
  iopl : BitVec 2
  nt : Bool
  rf : Bool
  vm : Bool
deriving DecidableEq, Repr

/-- The eight general registers (R20). -/
structure Gprs where
  eax : DWord
  ecx : DWord
  edx : DWord
  ebx : DWord
  esp : DWord
  ebp : DWord
  esi : DWord
  edi : DWord
deriving DecidableEq, Repr

/-- A segment register: the visible selector and the hidden descriptor information (R38, R39). -/
structure SegReg where
  sel : Word
  base : DWord
  limit : DWord
  p : Bool
  dpl : BitVec 2
  s : Bool
  type : BitVec 4
  db : Bool
  g : Bool
  /-- False after a null selector was loaded. -/
  valid : Bool
deriving DecidableEq, Repr

/-- The six segment registers (R38). -/
structure SegRegs where
  es : SegReg
  cs : SegReg
  ss : SegReg
  ds : SegReg
  fs : SegReg
  gs : SegReg
deriving DecidableEq, Repr

/-- GDTR or IDTR (R42). -/
structure TableReg where
  base : DWord
  limit : Word
deriving DecidableEq, Repr

/-- LDTR with its hidden descriptor (R43). -/
structure LdtReg where
  sel : Word
  base : DWord
  limit : DWord
  valid : Bool
deriving DecidableEq, Repr

/-- TR with its hidden descriptor (R44); `is386` is the type of the TSS. -/
structure TaskReg where
  sel : Word
  base : DWord
  limit : DWord
  is386 : Bool
deriving DecidableEq, Repr

/-- The debug registers (R49). -/
structure DebugRegs where
  dr0 : DWord
  dr1 : DWord
  dr2 : DWord
  dr3 : DWord
  dr6 : DWord
  dr7 : DWord
deriving DecidableEq, Repr

/-- The interrupt shadow (R52). -/
inductive Inhibit where
  | none
  | all
  | intr
deriving DecidableEq, Repr

/-- The run state (R56). A waiting WAIT keeps the offset of the instruction after it. -/
inductive Run where
  | running
  | halted
  | shutdown
  | waiting (next : DWord)
deriving DecidableEq, Repr

/-- One sample of the input pins at an instruction boundary: RESET, an NMI edge, INTR with the vector supplied for it,
BUSY# and ERROR# active (R9, R51, R513). -/
structure Pins where
  reset : Bool
  nmi : Bool
  intr : Option Byte
  busy : Bool
  error : Bool
deriving DecidableEq, Repr

/-- The pins with no event on them. -/
def Pins.idle : Pins := ⟨false, false, none, false, false⟩

/-- A repeat prefix (R378). -/
inductive Rep where
  | rep
  | repne
deriving DecidableEq, Repr

/-- The prefixes seen in front of the current instruction (R141, R186). -/
structure Prefixes where
  seg : Option SReg
  opsize : Bool
  addrsize : Bool
  lock : Bool
  rep : Option Rep
deriving DecidableEq, Repr

/-- No prefix. -/
def Prefixes.empty : Prefixes := ⟨none, false, false, false, none⟩

/-- A write to an I/O port (R84, R341): an event of the environment, recorded in order (D3). -/
structure IoWrite where
  port : Word
  size : Size
  value : DWord
deriving DecidableEq, Repr

/-- The machine. -/
structure State where
  /-- The general registers (R20). -/
  gpr : Gprs
  /-- The program counter, an offset in CS (R24). While an instruction executes it is the offset of the next one. -/
  eip : DWord
  /-- EFLAGS (R26). -/
  flags : Flags
  /-- The segment registers (R38, R39). -/
  seg : SegRegs
  /-- The current privilege level (R41). -/
  cpl : BitVec 2
  /-- The global descriptor table register (R42). -/
  gdtr : TableReg
  /-- The interrupt descriptor table register (R42). -/
  idtr : TableReg
  /-- The local descriptor table register (R43). -/
  ldtr : LdtReg
  /-- The task register (R44). -/
  tr : TaskReg
  /-- Control register 0, the MSW its low half (R45, R46). -/
  cr0 : DWord
  /-- Control register 2 (R47). -/
  cr2 : DWord
  /-- Control register 3 (R48). -/
  cr3 : DWord
  /-- The debug registers (R49). -/
  dr : DebugRegs
  /-- Test register 6 (R50). -/
  tr6 : DWord
  /-- Test register 7 (R50). -/
  tr7 : DWord
  /-- The interrupt shadow (R52). -/
  inhibit : Inhibit
  /-- The NMI mask (R53). -/
  nmiBlocked : Bool
  /-- One NMI edge remembered while it is held off (R512). -/
  nmiPending : Bool
  /-- The run state (R56). -/
  run : Run
  /-- `tf0` of R510 and R512: TF was set when the instruction just completed began. -/
  trapDue : Bool
  /-- The input pins as last sampled (R51, R513). -/
  pins : Pins
  /-- The environment's stream of pin samples still to come, `EXT` (R9); past its end nothing happens. -/
  inputs : List Pins
  /-- The port writes made so far, oldest first (D3). -/
  ioWrites : List IoWrite
  /-- The model's own: how many free values have been drawn (R9, D10). -/
  draws : Nat
  /-- The model's own: the offset of the first byte of the current instruction, its prefixes included (R24, R503). -/
  insnStart : DWord
  /-- The model's own: the prefixes of the current instruction (R141). -/
  pfx : Prefixes
  /-- Physical memory (R83): the bytes that are not zero, by rising address. -/
  mem : List Host.Cell
deriving DecidableEq, Repr

/-- The reasons for a step to stop with a fault: none. Every fault of the spec is an exception that the machine takes, and
every physical address holds a byte (R83, D2). -/
inductive Fault where
deriving DecidableEq, Repr

/-- The reasons for a step to be refused. -/
inductive Refusal where
  /-- Raised by nothing once every instruction has its meaning. Safe: the run stops. -/
  | notModelled (mnemonic : String)
  /-- Raised by an ESC opcode with EM = 0, TS = 0 and ERROR# inactive: the instruction belongs to the coprocessor, which no
  source describes (R7, R176). Safe: the run stops. -/
  | coprocessor
deriving DecidableEq, Repr

/-- The hidden part that reset gives a data-segment register: 64K, present, writable, expand-up, byte-granular (R57, D9). -/
def SegReg.resetData : SegReg :=
  { sel := 0x0000, base := 0x00000000, limit := 0x0000FFFF, p := true, dpl := 0, s := true, type := 0x3, db := false,
    g := false, valid := true }

/-- CS after reset: like every segment register, 64K, present, writable, expand-up, byte-granular (R40, R57, D9). -/
def SegReg.resetCode : SegReg :=
  { sel := 0xF000, base := 0xFFFF0000, limit := 0x0000FFFF, p := true, dpl := 0, s := true, type := 0x3, db := false,
    g := false, valid := true }

/-- EFLAGS after reset: 00000002H (R57, D9). -/
def Flags.reset : Flags :=
  { cf := false, pf := false, af := false, zf := false, sf := false, tf := false, ifl := false, df := false, ofl := false,
    iopl := 0, nt := false, rf := false, vm := false }

/-- The machine right after RESET (R57, R560). A register that R57 leaves undefined is 0; the log names each (DESIGN
CHOICE, unsafe, log entry 5). -/
def State.reset : State where
  gpr := { eax := Config.selftestEax, ecx := 0, edx := Config.edxReset, ebx := 0, esp := 0, ebp := 0, esi := 0, edi := 0 }
  eip := 0x0000FFF0
  flags := Flags.reset
  seg := { es := SegReg.resetData, cs := SegReg.resetCode, ss := SegReg.resetData, ds := SegReg.resetData,
           fs := SegReg.resetData, gs := SegReg.resetData }
  cpl := 0
  gdtr := { base := 0, limit := 0 }
  idtr := { base := 0, limit := 0x03FF }
  ldtr := { sel := 0, base := 0, limit := 0, valid := false }
  tr := { sel := 0, base := 0, limit := 0, is386 := false }
  cr0 := 0
  cr2 := 0
  cr3 := 0
  dr := { dr0 := 0, dr1 := 0, dr2 := 0, dr3 := 0, dr6 := 0, dr7 := 0 }
  tr6 := 0
  tr7 := 0
  inhibit := .none
  nmiBlocked := false
  nmiPending := false
  run := .running
  trapDue := false
  pins := Pins.idle
  inputs := []
  ioWrites := []
  draws := 0
  insnStart := 0x0000FFF0
  pfx := Prefixes.empty
  mem := []

end Sys2Proof.Machine
end

