-- ==== Sys2Proof/Machine/Memory.lean ====
section
/-!
DEFINITION. Physical memory: one byte for each of the 2^32 addresses (20_memory.md R83, D2), held as the list of the bytes
that are not zero, by rising address. An address that is not listed reads as zero (the reset contents are the platform's,
R9: DESIGN CHOICE, unsafe).
-/
namespace Sys2Proof.Machine

/-- What an address reads as when memory does not list it. -/
def Memory.unlisted : Byte := 0

/-- The byte at a physical address. -/
def Memory.read : List Host.Cell → Nat → Byte
  | [], _ => Memory.unlisted
  | (k, v) :: rest, a => if k = a then v else Memory.read rest a

/-- Memory after a byte is written. A byte equal to what an unlisted address reads as is removed from the list. -/
def Memory.write : List Host.Cell → Nat → Byte → List Host.Cell
  | [], a, v => if v = Memory.unlisted then [] else [(a, v)]
  | (k, w) :: rest, a, v =>
    if k < a then (k, w) :: Memory.write rest a v
    else if k = a then (if v = Memory.unlisted then rest else (a, v) :: rest)
    else if v = Memory.unlisted then (k, w) :: rest else (a, v) :: (k, w) :: rest

/-- The canonical form from an address on: addresses strictly rise and stay below 2^32, and no listed byte is what an
unlisted address reads as. -/
def Memory.wfFrom : Nat → List Host.Cell → Bool
  | _, [] => true
  | lo, (k, v) :: rest => lo ≤ k && k < 4294967296 && v != Memory.unlisted && Memory.wfFrom (k + 1) rest

/-- The canonical form of memory. -/
def Memory.wf (m : List Host.Cell) : Bool := Memory.wfFrom 0 m

/-- Byte `i` of a value, byte 0 the low-order one (R80). -/
def byteOf (v : DWord) (i : Nat) : Byte := (v >>> (8 * i)).setWidth 8

/-- The value of up to four bytes, the first the low-order one (R80). -/
def valueOf : List Byte → DWord
  | [] => 0
  | b :: rest => b.setWidth 32 ||| (valueOf rest <<< 8)

/-- The bytes at a list of physical addresses. -/
def Memory.readAll (m : List Host.Cell) (addrs : List DWord) : List Byte :=
  addrs.map fun a => Memory.read m a.toNat

/-- Memory after the low-order bytes of a value are stored at a list of physical addresses, the lowest byte at the first
(R80). -/
def Memory.writeAll : List Host.Cell → List DWord → DWord → List Host.Cell
  | m, [], _ => m
  | m, a :: rest, v => Memory.writeAll (Memory.write m a.toNat (v.setWidth 8)) rest (v >>> 8)

end Sys2Proof.Machine
end

