-- ==== Sys2Proof/Machine/Access.lean ====
section
/-!
DEFINITION. The operations on registers, memory, the stack and the I/O ports that every meaning is made of
(10_state.md, 20_memory.md). An operation is a function of the state that either completes or raises an exception; a raised
exception carries the state at that point, and `atomically` puts back the state before.
-/
namespace Sys2Proof.Machine

/-- An exception being raised: its vector, its error code where the vector carries one, the linear address of a page fault
for CR2, and whether it belongs to the task that a task switch has just entered (R500, R501, R545). -/
structure Exc where
  vector : Nat
  code : Option Word
  cr2 : Option DWord
  inNewTask : Bool
deriving DecidableEq, Repr

/-- An operation of the machine. -/
abbrev Op := EStateM Exc State

/-- An exception without an error code. -/
def Exc.plain (n : Nat) : Exc := ⟨n, none, none, false⟩

/-- An exception with an error code. In real-address mode the code is not pushed (R434). -/
def Exc.coded (n : Nat) (code : Word) : Exc := ⟨n, some code, none, false⟩

/-- Raise an exception. -/
def raiseExc {α : Type} (e : Exc) : Op α := fun s => .error e s

/-- #UD, vector 6 (R500). -/
def Exc.ud : Exc := Exc.plain 6

/-- #NM, vector 7. -/
def Exc.nm : Exc := Exc.plain 7

/-- #MF, vector 16. -/
def Exc.mf : Exc := Exc.plain 16

/-- #TS with a code, vector 10. -/
def Exc.ts (code : Word) : Exc := Exc.coded 10 code

/-- #NP with a code, vector 11. -/
def Exc.np (code : Word) : Exc := Exc.coded 11 code

/-- #SS with a code, vector 12; interrupt 12 in real-address mode. -/
def Exc.ss (code : Word) : Exc := Exc.coded 12 code

/-- #GP with a code, vector 13; interrupt 13 in real-address mode. -/
def Exc.gp (code : Word) : Exc := Exc.coded 13 code

/-- #PF with its fault code and the linear address for CR2, vector 14 (R47, R501). -/
def Exc.pf (code : Word) (lin : DWord) : Exc := ⟨14, some code, some lin, false⟩

/-- Raise an exception when a condition holds. -/
def raiseIf (c : Bool) (e : Exc) : Op Unit := if c then raiseExc e else pure ()

/-- Change the state. -/
def update (f : State → State) : Op Unit := fun s => .ok () (f s)

/-- Read something of the state. -/
def query {α : Type} (f : State → α) : Op α := fun s => .ok (f s) s

/-- Run an operation; if it raises an exception the state is the one before it (R503). -/
def atomically {α : Type} (x : Op α) : Op α := fun s =>
  match x s with
  | .ok a s' => .ok a s'
  | .error e _ => .error e s

/-- Run an operation; if it raises an exception the state is `t`, what is left once its effects are undone (R503). -/
def undoneTo {α : Type} (t : State) (x : Op α) : Op α := fun s =>
  match x s with
  | .ok a s' => .ok a s'
  | .error e _ => .error e t

/-- Draw a value that the spec calls undefined (R9, R29). -/
def drawUndef : Op DWord := fun s => .ok (Config.undef s.draws) { s with draws := s.draws + 1 }

/-! ### General registers (R20 to R22) -/

/-- A general register. -/
def Gprs.get (g : Gprs) : Reg → DWord
  | .eax => g.eax
  | .ecx => g.ecx
  | .edx => g.edx
  | .ebx => g.ebx
  | .esp => g.esp
  | .ebp => g.ebp
  | .esi => g.esi
  | .edi => g.edi

/-- The general registers after one is written whole. -/
def Gprs.set (g : Gprs) (r : Reg) (v : DWord) : Gprs :=
  match r with
  | .eax => { g with eax := v }
  | .ecx => { g with ecx := v }
  | .edx => { g with edx := v }
  | .ebx => { g with ebx := v }
  | .esp => { g with esp := v }
  | .ebp => { g with ebp := v }
  | .esi => { g with esi := v }
  | .edi => { g with edi := v }

/-- A 32-bit general register of the state. -/
def State.reg (s : State) (r : Reg) : DWord := s.gpr.get r

/-- The state after a 32-bit general register is written. -/
def State.setReg (s : State) (r : Reg) (v : DWord) : State := { s with gpr := s.gpr.set r v }

/-- The value with its low 16 bits replaced (R21). -/
def setLow16 (old : DWord) (v : DWord) : DWord := (old &&& 0xFFFF0000#32) ||| (v &&& 0x0000FFFF#32)

/-- A general register of a width, zero-extended (R21). -/
def State.regW (s : State) (w : Width) (r : Reg) : DWord :=
  match w with
  | .w16 => s.reg r &&& 0x0000FFFF#32
  | .w32 => s.reg r

/-- The state after a general register of a width is written; a 16-bit write keeps bits 31:16 (R21). -/
def State.setRegW (s : State) (w : Width) (r : Reg) (v : DWord) : State :=
  match w with
  | .w16 => s.setReg r (setLow16 (s.reg r) v)
  | .w32 => s.setReg r v

/-- The general register that a byte register is part of (R22). -/
def wholeReg : Reg8 → Reg
  | .al => .eax
  | .cl => .ecx
  | .dl => .edx
  | .bl => .ebx
  | .ah => .eax
  | .ch => .ecx
  | .dh => .edx
  | .bh => .ebx

/-- Whether a byte register is bits 15:8 of its general register (R22). -/
def isHighByte : Reg8 → Bool
  | .al => false
  | .cl => false
  | .dl => false
  | .bl => false
  | .ah => true
  | .ch => true
  | .dh => true
  | .bh => true

/-- A byte register (R22). -/
def State.reg8 (s : State) (r : Reg8) : Byte :=
  if isHighByte r then (s.reg (wholeReg r)).extractLsb' 8 8 else (s.reg (wholeReg r)).extractLsb' 0 8

/-- The state after a byte register is written; the other 24 bits are kept (R22). -/
def State.setReg8 (s : State) (r : Reg8) (v : Byte) : State :=
  let old := s.reg (wholeReg r)
  if isHighByte r then s.setReg (wholeReg r) ((old &&& 0xFFFF00FF#32) ||| (v.setWidth 32 <<< 8))
  else s.setReg (wholeReg r) ((old &&& 0xFFFFFF00#32) ||| v.setWidth 32)

/-! ### Segment registers (R38) -/

/-- A segment register. -/
def SegRegs.get (g : SegRegs) : SReg → SegReg
  | .es => g.es
  | .cs => g.cs
  | .ss => g.ss
  | .ds => g.ds
  | .fs => g.fs
  | .gs => g.gs

/-- The segment registers after one is replaced. -/
def SegRegs.set (g : SegRegs) (r : SReg) (v : SegReg) : SegRegs :=
  match r with
  | .es => { g with es := v }
  | .cs => { g with cs := v }
  | .ss => { g with ss := v }
  | .ds => { g with ds := v }
  | .fs => { g with fs := v }
  | .gs => { g with gs := v }

/-- A segment register of the state. -/
def State.sreg (s : State) (r : SReg) : SegReg := s.seg.get r

/-- The state after a segment register is replaced. -/
def State.setSreg (s : State) (r : SReg) (v : SegReg) : State := { s with seg := s.seg.set r v }

/-! ### Modes and size attributes (R2, R45, R142, R143) -/

/-- CR0.PE (R45). -/
def State.pe (s : State) : Bool := s.cr0.getLsbD 0

/-- CR0.MP (R45). -/
def State.mp (s : State) : Bool := s.cr0.getLsbD 1

/-- CR0.EM (R45). -/
def State.em (s : State) : Bool := s.cr0.getLsbD 2

/-- CR0.TS (R45). -/
def State.ts (s : State) : Bool := s.cr0.getLsbD 3

/-- CR0.PG (R45). -/
def State.pg (s : State) : Bool := s.cr0.getLsbD 31

/-- The three execution modes. -/
inductive Mode where
  | real
  | prot
  | v86
deriving DecidableEq, Repr

/-- The mode the machine is in (R2). -/
def State.mode (s : State) : Mode :=
  if s.pe then (if s.flags.vm then .v86 else .prot) else .real

/-- The default size D: the D-bit of CS in protected mode, else 16 (R142). -/
def State.defaultSize (s : State) : Width :=
  match s.mode with
  | .prot => if s.seg.cs.db then .w32 else .w16
  | _ => .w16

/-- OperandSize: D, or the other size after a 66 prefix (R142). -/
def State.osz (s : State) : Width := if s.pfx.opsize then s.defaultSize.other else s.defaultSize

/-- AddressSize: D, or the other size after a 67 prefix (R142). -/
def State.asz (s : State) : Width := if s.pfx.addrsize then s.defaultSize.other else s.defaultSize

/-- StackAddrSize: the B-bit of SS (R106, R143). -/
def State.ssz (s : State) : Width := if s.seg.ss.db then .w32 else .w16

/-! ### Physical and linear memory (R80, R83, R100, R118) -/

/-- The fault code of a page fault: bit 0 set for a protection violation and clear for a page that is not present, bit 1 set
for a write, bit 2 set for an access at CPL 3 (R501). -/
def pageFaultCode (protection : Bool) (kind : AccessKind) (user : Bool) (upper : BitVec 13) : Word :=
  upper ++ BitVec.ofBool user ++ BitVec.ofBool (kind == .write) ++ BitVec.ofBool protection

/-- The physical address of a linear one. Paging applies when PE = 1 and PG = 1 (R118, R574); `user` says whether the access
is made at CPL 3. -/
def translate (kind : AccessKind) (user : Bool) (lin : DWord) : Op DWord := fun s =>
  if s.pe && s.pg then
    match Config.translate s.cr3 s.mem lin kind user with
    | .phys a => .ok a s
    | .pageFault protection upper => .error (Exc.pf (pageFaultCode protection kind user upper) lin) s
  else .ok lin s

/-- The physical addresses of `n` consecutive linear ones; linear addresses are taken modulo 2^32 (R100). -/
def translateRange (kind : AccessKind) (user : Bool) : Nat → DWord → Op (List DWord)
  | 0, _ => pure []
  | n + 1, lin => do
    let a ← translate kind user lin
    let rest ← translateRange kind user n (lin + 1)
    pure (a :: rest)

/-- `LinRead` with a privilege: `n` bytes at a linear address, little-endian (R11, R80). -/
def linReadAs (user : Bool) (lin : DWord) (n : Nat) : Op DWord := do
  let addrs ← translateRange .read user n lin
  query fun s => valueOf (Memory.readAll s.mem addrs)

/-- `LinWrite` with a privilege: no byte is written unless every byte may be (R85). -/
def linWriteAs (user : Bool) (lin : DWord) (n : Nat) (v : DWord) : Op Unit := do
  let addrs ← translateRange .write user n lin
  update fun s => { s with mem := Memory.writeAll s.mem addrs v }

/-- A linear read with supervisor privilege: descriptor tables, the TSS, the real-mode vector table (R11, R111). -/
def linRead (lin : DWord) (n : Nat) : Op DWord := linReadAs false lin n

/-- A linear write with supervisor privilege. -/
def linWrite (lin : DWord) (n : Nat) (v : DWord) : Op Unit := linWriteAs false lin n v

/-! ### Segmentation (R100 to R104) -/

/-- Whether a hidden descriptor is a code segment: bit 3 of the type (R39). -/
def SegReg.isCode (r : SegReg) : Bool := r.s && r.type.getLsbD 3

/-- Whether a hidden descriptor is an expand-down data segment (R39). -/
def SegReg.isExpandDown (r : SegReg) : Bool := !r.isCode && r.type.getLsbD 2

/-- Whether a hidden descriptor is a writable data segment (R39). -/
def SegReg.isWritable (r : SegReg) : Bool := !r.isCode && r.type.getLsbD 1

/-- Whether data can be read through a hidden descriptor: any data segment, or readable code (R104). -/
def SegReg.isReadable (r : SegReg) : Bool := !r.isCode || r.type.getLsbD 1

/-- Whether `n` bytes from an offset lie inside the limit, with no wrap past 2^32 (R104 step 2). -/
def SegReg.inLimit (r : SegReg) (off : DWord) (n : Nat) : Bool :=
  let last := off.toNat + n - 1
  if r.isExpandDown then
    decide (r.limit.toNat < off.toNat) && decide (last ≤ if r.db then 0xFFFFFFFF else 0xFFFF)
  else decide (last ≤ r.limit.toNat)

/-- The exception of a violation through a segment register: 12 through SS, 13 otherwise, with a code of 0 (R101, R104). -/
def segViolation (r : SReg) : Exc := if r = .ss then Exc.ss 0 else Exc.gp 0

/-- The check of an access of `n` bytes at an offset through segment register `r`, whose contents are `g`, in a mode
(R101, R102, R104). In real-address mode an access through CS is checked against the hidden limit alone: there is no write
protection, and a far JMP there leaves CS with appropriate rights (R101, R572). The other registers keep in force what they
hold from protected mode, a read-only DS for example (R40, R571, R573); what reset or the procedure of R573 leaves in them
refuses nothing inside the limit (log entry 17).
SS or CS can be invalid only after a task switch that failed to load it (R546 step 10); that is answered as a limit violation
(DESIGN CHOICE, log entry 16). -/
def segFault (m : Mode) (r : SReg) (g : SegReg) (off : DWord) (n : Nat) (kind : AccessKind) : Option Exc :=
  match m with
  | .v86 => if decide (off.toNat + n - 1 ≤ 0xFFFF) then none else some (segViolation r)
  | .real =>
    if !g.inLimit off n then some (segViolation r)
    else if r = .cs then none
    else if kind = .write && !g.isWritable then some (segViolation r)
    else if kind = .read && !g.isReadable then some (segViolation r)
    else none
  | .prot =>
    if !g.valid then some (segViolation r)
    else if !g.inLimit off n then some (segViolation r)
    else if kind = .write && !g.isWritable then some (Exc.gp 0)
    else if kind = .read && !g.isReadable then some (Exc.gp 0)
    else none

/-- Check an access through a segment register (R100 step 2). -/
def checkSeg (r : SReg) (off : DWord) (n : Nat) (kind : AccessKind) : Op Unit := fun s =>
  match segFault s.mode r (s.sreg r) off n kind with
  | some e => .error e s
  | none => .ok () s

/-- Whether the program's own accesses are made with user privilege (R118). -/
def State.user (s : State) : Bool := s.cpl == 3

/-- The linear address of an offset in a segment (R100 step 3). -/
def State.linear (s : State) (r : SReg) (off : DWord) : DWord := (s.sreg r).base + off

/-- `MemRead(seg, off, n)` (R100). -/
def memRead (r : SReg) (off : DWord) (n : Nat) : Op DWord := do
  checkSeg r off n .read
  let s ← query id
  linReadAs s.user (s.linear r off) n

/-- `MemWrite(seg, off, n, v)` (R100). -/
def memWrite (r : SReg) (off : DWord) (n : Nat) (v : DWord) : Op Unit := do
  checkSeg r off n .write
  let s ← query id
  linWriteAs s.user (s.linear r off) n v

/-- The checks of a write without the write (R505 step 6). -/
def checkWrite (r : SReg) (off : DWord) (n : Nat) : Op Unit := do
  checkSeg r off n .write
  let s ← query id
  let _ ← translateRange .write s.user n (s.linear r off)
  pure ()

/-- One byte of an instruction, fetched at an offset in CS (R100, R104 step 4). -/
def fetchByte (off : DWord) : Op Byte := do
  checkSeg .cs off 1 .execute
  let s ← query id
  let a ← translate .execute s.user (s.linear .cs off)
  query fun s => Memory.read s.mem a.toNat

/-! ### The stack (R300, R301, R106) -/

/-- eSP as an offset: SP zero-extended, or ESP (R106). -/
def State.sp (s : State) : DWord := s.regW s.ssz .esp

/-- The state after eSP is set; with a 16-bit stack the upper half of ESP is kept (R300). -/
def State.setSp (s : State) (v : DWord) : State := s.setRegW s.ssz .esp v

/-- An offset modulo a size attribute. -/
def truncTo (w : Width) (v : DWord) : DWord :=
  match w with
  | .w16 => v &&& 0x0000FFFF#32
  | .w32 => v

/-- The stack offset `k` bytes above eSP: 16 bits zero-extended when StackAddrSize is 16 (R100, R106). -/
def State.stackOff (s : State) (k : Nat) : DWord := truncTo s.ssz (s.sp + BitVec.ofNat 32 k)

/-- `Push(v)` of a width (R300). -/
def push (w : Width) (v : DWord) : Op Unit := do
  let s ← query id
  let new := truncTo s.ssz (s.sp - BitVec.ofNat 32 w.bytes)
  memWrite .ss new w.bytes v
  update fun s => s.setSp new

/-- `Pop()` of a width (R301). -/
def pop (w : Width) : Op DWord := do
  let s ← query id
  let v ← memRead .ss s.sp w.bytes
  update fun s => s.setSp (s.sp + BitVec.ofNat 32 w.bytes)
  pure v

/-- Push a list of values of a width, the first one first. -/
def pushAllOf (w : Width) : List DWord → Op Unit
  | [] => pure ()
  | v :: rest => do
    push w v
    pushAllOf w rest

/-- Whether `count` pushes of `w` bytes from a stack pointer stay inside a stack segment: each push is checked where it
would be made, the pointer wrapping at the size the segment's B-bit gives (R300). -/
def stackRoom (m : Mode) (ss : SegReg) (w : Nat) : Nat → DWord → Bool
  | 0, _ => true
  | count + 1, sp =>
    let new := truncTo (if ss.db then .w32 else .w16) (sp - BitVec.ofNat 32 w)
    (segFault m .ss ss new w .write).isNone && stackRoom m ss w count new

/-- Room for `count` pushes of `w` bytes on the current stack (R399, R438). -/
def State.hasRoom (s : State) (w count : Nat) : Bool := stackRoom s.mode s.seg.ss w count s.sp

/-- The room for `count` pushes of `w` bytes must be there, else #SS(0), interrupt 12 in real-address mode (R404). This checks
the segment's limit and rights. Paging is met when the pushes are made, after the tests that follow this one (DESIGN CHOICE,
log entry 37). -/
def checkPushes (w count : Nat) : Op Unit := do
  let s ← query id
  raiseIf (!s.hasRoom w count) (Exc.ss 0)

/-- Whether `count` pops of `w` bytes from a stack pointer on stay inside a stack segment: each pop is checked where it would
be made, the pointer wrapping at the size the segment's B-bit gives (R301). -/
def stackHolds (m : Mode) (ss : SegReg) (w : Nat) : Nat → DWord → Bool
  | 0, _ => true
  | count + 1, sp =>
    (segFault m .ss ss sp w .read).isNone &&
      stackHolds m ss w count (truncTo (if ss.db then .w32 else .w16) (sp + BitVec.ofNat 32 w))

/-- The current stack holds `count` items of `w` bytes (R325, R405, R436). -/
def State.holdsItems (s : State) (w count : Nat) : Bool := stackHolds s.mode s.seg.ss w count s.sp

/-- `count` items of `w` bytes must be there to pop, else #SS(0), interrupt 12 in real-address mode (R325, R405, R436). Paging
is met when the pops are made (DESIGN CHOICE, log entry 37). -/
def checkPops (w count : Nat) : Op Unit := do
  let s ← query id
  raiseIf (!s.holdsItems w count) (Exc.ss 0)

/-- `n` bytes of the stack from `eSP + k` on, the offset cut to StackAddrSize, as the protected-mode returns read them (R100, R415,
R444). -/
def stackRead (k n : Nat) : Op DWord := do
  let s ← query id
  memRead .ss (s.stackOff k) n

/-- Bytes `eSP` to `eSP + n - 1` must be readable inside the stack limits, else #SS(0) (R415, R444): one range, without a wrap
(DEDUCED, log entry 18). -/
def checkStackRead (n : Nat) : Op Unit := do
  let s ← query id
  checkSeg .ss s.sp n .read

/-! ### Instruction pointer -/

/-- Set EIP. -/
def setEip (v : DWord) : Op Unit := update fun s => { s with eip := v }

/-- Change the flags. -/
def updateFlags (f : Flags → Flags) : Op Unit := update fun s => { s with flags := f s.flags }

end Sys2Proof.Machine
end

