-- ==== Sys2Proof/Machine/Flags.lean ====
section
/-!
DEFINITION. The flags: the EFLAGS image (10_state.md R26 to R28), the uniform flag computations (R36), the condition codes
(R37), the flags an instruction leaves undefined (R29) and the loading of the flags from an image (R327, R448).
-/
namespace Sys2Proof.Machine

/-! ### The image -/

/-- One bit of an image. -/
def bitAt (b : Bool) (i : Nat) : DWord := if b then 1#32 <<< i else 0#32

/-- EFLAGS as a doubleword, with the fixed bits (R28). -/
def Flags.image (f : Flags) : DWord :=
  bitAt f.cf 0 ||| 0x2#32 ||| bitAt f.pf 2 ||| bitAt f.af 4 ||| bitAt f.zf 6 ||| bitAt f.sf 7 ||| bitAt f.tf 8 |||
  bitAt f.ifl 9 ||| bitAt f.df 10 ||| bitAt f.ofl 11 ||| (f.iopl.setWidth 32 <<< 12) ||| bitAt f.nt 14 |||
  bitAt f.rf 16 ||| bitAt f.vm 17

/-- The flags of a doubleword image; the fixed bits are ignored (R28). -/
def Flags.ofImage (v : DWord) : Flags :=
  { cf := v.getLsbD 0, pf := v.getLsbD 2, af := v.getLsbD 4, zf := v.getLsbD 6, sf := v.getLsbD 7, tf := v.getLsbD 8,
    ifl := v.getLsbD 9, df := v.getLsbD 10, ofl := v.getLsbD 11, iopl := v.extractLsb' 12 2, nt := v.getLsbD 14,
    rf := v.getLsbD 16, vm := v.getLsbD 17 }

/-- What POPF and IRET load from an image at a privilege level: CF, PF, AF, ZF, SF, TF, DF, OF and NT always, IOPL at level
0, IF when CPL is at most the IOPL before the instruction; in real-address mode both (R327, R448). RF and VM are kept. -/
def Flags.load (f : Flags) (pe : Bool) (cpl : BitVec 2) (v : DWord) : Flags :=
  let n := Flags.ofImage v
  { n with
    iopl := if !pe || cpl == 0 then n.iopl else f.iopl
    ifl := if !pe || decide (cpl ≤ f.iopl) then n.ifl else f.ifl
    rf := f.rf
    vm := f.vm }

/-! ### Sizes -/

/-- A value cut to a size, zero-extended (R11). -/
def truncSize (sz : Size) (v : DWord) : DWord :=
  match sz with
  | .byte => v &&& 0x000000FF#32
  | .word => v &&& 0x0000FFFF#32
  | .dword => v

/-- The top bit of a value of a size. -/
def signBit (sz : Size) (v : DWord) : Bool := v.getLsbD (sz.bits - 1)

/-- A value of a size read as two's complement (R11). -/
def toSigned (sz : Size) (v : DWord) : Int :=
  match sz with
  | .byte => (v.setWidth 8).toInt
  | .word => (v.setWidth 16).toInt
  | .dword => v.toInt

/-- A value of a size, sign-extended to 32 bits. -/
def signExtendFrom (sz : Size) (v : DWord) : DWord :=
  match sz with
  | .byte => (v.setWidth 8).signExtend 32
  | .word => (v.setWidth 16).signExtend 32
  | .dword => v

/-! ### The uniform flag computations (R36) -/

/-- Whether the low byte has an even number of 1 bits (R36). -/
def parityEven (v : DWord) : Bool :=
  !(v.getLsbD 0 ^^ v.getLsbD 1 ^^ v.getLsbD 2 ^^ v.getLsbD 3 ^^ v.getLsbD 4 ^^ v.getLsbD 5 ^^ v.getLsbD 6 ^^ v.getLsbD 7)

/-- `SZP(r)`: ZF, SF and PF of a result of a size (R36, R200). -/
def Flags.szp (f : Flags) (sz : Size) (r : DWord) : Flags :=
  { f with zf := truncSize sz r == 0, sf := signBit sz r, pf := parityEven r }

/-- `a + b + c` at a size (R36). -/
def addResult (sz : Size) (a b : DWord) (c : Bool) : DWord := truncSize sz (a + b + BitVec.ofNat 32 c.toNat)

/-- `a - b - c` at a size (R36). -/
def subResult (sz : Size) (a b : DWord) (c : Bool) : DWord := truncSize sz (a - b - BitVec.ofNat 32 c.toNat)

/-- The low four bits as a number. -/
def nibble (v : DWord) : Nat := v.toNat % 16

/-- `AddFlags(a, b, c)` for operands of a size (R36). -/
def Flags.add (f : Flags) (sz : Size) (a b : DWord) (c : Bool) : Flags :=
  let r := addResult sz a b c
  { f.szp sz r with
    cf := decide (2 ^ sz.bits ≤ a.toNat + b.toNat + c.toNat)
    ofl := (signBit sz a == signBit sz b) && (signBit sz r != signBit sz a)
    af := decide (16 ≤ nibble a + nibble b + c.toNat) }

/-- `SubFlags(a, b, c)` for operands of a size (R36). -/
def Flags.sub (f : Flags) (sz : Size) (a b : DWord) (c : Bool) : Flags :=
  let r := subResult sz a b c
  { f.szp sz r with
    cf := decide (a.toNat < b.toNat + c.toNat)
    ofl := (signBit sz a != signBit sz b) && (signBit sz r != signBit sz a)
    af := decide (nibble a < nibble b + c.toNat) }

/-- The flags of a logical result: CF and OF 0, SZP (R36, R210). AF is left to the caller, who makes it undefined. -/
def Flags.logic (f : Flags) (sz : Size) (r : DWord) : Flags := { f.szp sz r with cf := false, ofl := false }

/-! ### Undefined flags (R29) -/

/-- A choice of status flags. -/
structure StatusMask where
  cf : Bool
  pf : Bool
  af : Bool
  zf : Bool
  sf : Bool
  ofl : Bool
deriving DecidableEq, Repr

/-- No flag. -/
def StatusMask.none : StatusMask := ⟨false, false, false, false, false, false⟩

/-- All six status flags (R29). -/
def StatusMask.all : StatusMask := ⟨true, true, true, true, true, true⟩

/-- The flags with the chosen ones taken from a drawn value, each from a bit of its own. -/
def Flags.scramble (f : Flags) (m : StatusMask) (u : DWord) : Flags :=
  { f with
    cf := if m.cf then u.getLsbD 0 else f.cf
    pf := if m.pf then u.getLsbD 2 else f.pf
    af := if m.af then u.getLsbD 4 else f.af
    zf := if m.zf then u.getLsbD 6 else f.zf
    sf := if m.sf then u.getLsbD 7 else f.sf
    ofl := if m.ofl then u.getLsbD 11 else f.ofl }

/-- Leave the chosen flags undefined: each becomes a free value (R29, U1). -/
def undefFlags (m : StatusMask) : Op Unit := do
  let u ← drawUndef
  updateFlags fun f => f.scramble m u

/-! ### Condition codes (R37) -/

/-- The sixteen conditions, in the order of their codes. -/
inductive Cond where
  | o | no | b | ae | e | ne | be | a | s | ns | p | np | l | ge | le | g
deriving DecidableEq, Repr

/-- When a condition holds (R37). -/
def Cond.holds (c : Cond) (f : Flags) : Bool :=
  match c with
  | .o => f.ofl
  | .no => !f.ofl
  | .b => f.cf
  | .ae => !f.cf
  | .e => f.zf
  | .ne => !f.zf
  | .be => f.cf || f.zf
  | .a => !f.cf && !f.zf
  | .s => f.sf
  | .ns => !f.sf
  | .p => f.pf
  | .np => !f.pf
  | .l => f.sf != f.ofl
  | .ge => f.sf == f.ofl
  | .le => f.zf || (f.sf != f.ofl)
  | .g => !f.zf && (f.sf == f.ofl)

end Sys2Proof.Machine
end

