-- ==== Sys2Proof/Machine/Descriptor.lean ====
section
/-!
DEFINITION. Selectors, descriptors and gates (20_memory.md R110 to R115), segment-register loads (R40, R117), the inner stack
of a TSS (44_control_transfer.md R412) and the task switch (60_exceptions.md R540 to R546).
-/
namespace Sys2Proof.Machine

/-! ### Selectors (R111, R112) -/

/-- The requested privilege level, bits 1:0. -/
def selRpl (sel : Word) : BitVec 2 := sel.extractLsb' 0 2

/-- The table indicator, bit 2: the LDT when set. -/
def selTi (sel : Word) : Bool := sel.getLsbD 2

/-- A null selector: 0000 to 0003. -/
def selNull (sel : Word) : Bool := sel &&& 0xFFFC#16 == 0#16

/-- Eight times the index: the offset of the descriptor in its table. -/
def selOffset (sel : Word) : Nat := 8 * (sel.toNat / 8)

/-- The selector as an error code: the RPL bits cleared (R112). -/
def selCode (sel : Word) : Word := sel &&& 0xFFFC#16

/-- A selector with its RPL replaced. -/
def selWithRpl (sel : Word) (rpl : BitVec 2) : Word := (sel &&& 0xFFFC#16) ||| rpl.setWidth 16

/-! ### Descriptors and gates (R110, R113, R115) -/

/-- The two doublewords of an 8-byte descriptor-table entry. -/
structure Desc where
  lo : DWord
  hi : DWord
deriving DecidableEq, Repr

/-- Base 31:0. -/
def Desc.base (d : Desc) : DWord := (d.lo >>> 16) ||| ((d.hi &&& 0xFF#32) <<< 16) ||| (d.hi &&& 0xFF000000#32)

/-- The 20-bit limit field. -/
def Desc.rawLimit (d : Desc) : DWord := (d.lo &&& 0xFFFF#32) ||| (d.hi &&& 0xF0000#32)

/-- The granularity bit. -/
def Desc.g (d : Desc) : Bool := d.hi.getLsbD 23

/-- The byte-granular limit. -/
def Desc.limit (d : Desc) : DWord := if d.g then (d.rawLimit <<< 12) ||| 0xFFF#32 else d.rawLimit

/-- The D or B bit. -/
def Desc.db (d : Desc) : Bool := d.hi.getLsbD 22

/-- The present bit. -/
def Desc.p (d : Desc) : Bool := d.hi.getLsbD 15

/-- The descriptor privilege level. -/
def Desc.dpl (d : Desc) : BitVec 2 := d.hi.extractLsb' 13 2

/-- The S bit: a code or data segment. -/
def Desc.s (d : Desc) : Bool := d.hi.getLsbD 12

/-- The four type bits. -/
def Desc.type (d : Desc) : BitVec 4 := d.hi.extractLsb' 8 4

/-- A code segment. -/
def Desc.isCode (d : Desc) : Bool := d.s && d.type.getLsbD 3

/-- A data segment. -/
def Desc.isData (d : Desc) : Bool := d.s && !d.type.getLsbD 3

/-- A conforming code segment. -/
def Desc.isConforming (d : Desc) : Bool := d.isCode && d.type.getLsbD 2

/-- A readable code segment. -/
def Desc.isReadableCode (d : Desc) : Bool := d.isCode && d.type.getLsbD 1

/-- A writable data segment. -/
def Desc.isWritableData (d : Desc) : Bool := d.isData && d.type.getLsbD 1

/-- A system descriptor or gate of a type. -/
def Desc.isSystem (d : Desc) (t : BitVec 4) : Bool := !d.s && d.type == t

/-- An available TSS: type 1 or 9. -/
def Desc.isAvailableTss (d : Desc) : Bool := d.isSystem 1 || d.isSystem 9

/-- A busy TSS: type 3 or B. -/
def Desc.isBusyTss (d : Desc) : Bool := d.isSystem 3 || d.isSystem 11

/-- Whether a TSS descriptor or a gate is of the 80386 kind: bit 3 of the type. -/
def Desc.is386 (d : Desc) : Bool := d.type.getLsbD 3

/-- The size of an 80386 or 80286 gate (R113). -/
def Desc.gateWidth (d : Desc) : Width := if d.is386 then .w32 else .w16

/-- The selector of a gate (R115). -/
def Desc.gateSelector (d : Desc) : Word := d.lo.extractLsb' 16 16

/-- The offset of a gate: 32 bits in an 80386 gate, 16 in an 80286 gate (R115). -/
def Desc.gateOffset (d : Desc) : DWord :=
  if d.is386 then (d.lo &&& 0xFFFF#32) ||| (d.hi &&& 0xFFFF0000#32) else d.lo &&& 0xFFFF#32

/-- The parameter count of a call gate, masked to 5 bits (R115, R411). -/
def Desc.gateCount (d : Desc) : Nat := (d.hi &&& 0x1F#32).toNat

/-- The segment-register contents that a selector and its code or data descriptor give, accessed bit set (R39, R117). -/
def Desc.toSeg (d : Desc) (sel : Word) : SegReg :=
  { sel := sel, base := d.base, limit := d.limit, p := d.p, dpl := d.dpl, s := d.s, type := d.type ||| 1#4, db := d.db,
    g := d.g, valid := true }

/-- A descriptor with the linear address it was read from. -/
structure Found where
  addr : DWord
  desc : Desc
deriving DecidableEq, Repr

/-- The 8 bytes at a linear address as a descriptor, read with supervisor privilege (R111). -/
def readDesc (addr : DWord) : Op Desc := do
  let lo ← linRead addr 4
  let hi ← linRead (addr + 4) 4
  pure ⟨lo, hi⟩

/-- The linear address of a selector's descriptor, or none when it is outside its table's limit or the LDT is invalid
(R111). -/
def State.descAddr (s : State) (sel : Word) : Option DWord :=
  if selTi sel then
    if s.ldtr.valid && decide (selOffset sel + 7 ≤ s.ldtr.limit.toNat) then
      some (s.ldtr.base + BitVec.ofNat 32 (selOffset sel))
    else none
  else if decide (selOffset sel + 7 ≤ s.gdtr.limit.toNat) then some (s.gdtr.base + BitVec.ofNat 32 (selOffset sel))
  else none

/-- The descriptor of a selector; outside its table the exception is raised. -/
def lookup (sel : Word) (e : Exc) : Op Found := do
  match ← query fun s => s.descAddr sel with
  | some a => do
    let d ← readDesc a
    pure ⟨a, d⟩
  | none => raiseExc e

/-- The descriptor of a selector that must name the GDT (R413, R442, R447, R458, R462). -/
def lookupGdt (sel : Word) (e : Exc) : Op Found := do
  raiseIf (selTi sel) e
  lookup sel e

/-- Change the access-rights byte of the descriptor at a linear address. -/
def changeAccessRights (addr : DWord) (change : Byte → Byte) : Op Unit := do
  let b ← linRead (addr + 5) 1
  linWrite (addr + 5) 1 ((change (b.setWidth 8)).setWidth 32)

/-- Set the accessed bit of a code or data descriptor in memory, if it is clear (R117, D26). -/
def setAccessed (f : Found) : Op Unit :=
  if f.desc.type.getLsbD 0 then pure () else changeAccessRights f.addr fun b => b ||| 1#8

/-- The state that is left of an abandoned operation which had set the accessed bit of a descriptor: all else is undone
(R503 (b), D26). The bit is set through paging as this state has it (DEDUCED, log entry 27). -/
def State.markAccessed (s : State) (f : Found) : State :=
  match setAccessed f s with
  | .ok _ t => t
  | .error _ _ => s

/-! ### Segment-register loads (R40, R117) -/

/-- A segment register after a load in V86 mode: 64K, writable data, DPL 3, present (R40, D19). -/
def v86Segment (sel : Word) : SegReg :=
  { sel := sel, base := sel.setWidth 32 <<< 4, limit := 0x0000FFFF, p := true, dpl := 3, s := true, type := 0x3,
    db := false, g := false, valid := true }

/-- A segment register after a load in real-address mode: selector and base alone change (R40). -/
def realSegment (g : SegReg) (sel : Word) : SegReg := { g with sel := sel, base := sel.setWidth 32 <<< 4 }

/-- The load of a segment register outside protected mode (R40). -/
def State.load8086 (s : State) (r : SReg) (sel : Word) : State :=
  s.setSreg r (if s.pe then v86Segment sel else realSegment (s.sreg r) sel)

/-- Whether a data or readable code descriptor may be loaded into DS, ES, FS or GS (R117). -/
def dataPrivilegeOk (d : Desc) (sel : Word) (cpl : BitVec 2) : Bool :=
  d.isConforming || (decide (selRpl sel ≤ d.dpl) && decide (cpl ≤ d.dpl))

/-- `LoadSeg(Sreg, sel)` in protected mode (R117). The listing has no step that reads the descriptor: it is read right after the
test of the table limit, for SS before the test of the RPL (DESIGN CHOICE, log entry 39). -/
def loadSegProt (r : SReg) (sel : Word) : Op Unit := do
  let s ← query id
  let gp := Exc.gp (selCode sel)
  if r = .ss then do
    raiseIf (selNull sel) (Exc.gp 0)
    let f ← lookup sel gp
    raiseIf (selRpl sel != s.cpl) gp
    raiseIf (!f.desc.isWritableData) gp
    raiseIf (f.desc.dpl != s.cpl) gp
    raiseIf (!f.desc.p) (Exc.ss (selCode sel))
    setAccessed f
    update fun s => s.setSreg .ss (f.desc.toSeg sel)
  else if selNull sel then
    update fun s => s.setSreg r { s.sreg r with sel := sel, valid := false }
  else do
    let f ← lookup sel gp
    raiseIf (!(f.desc.isData || f.desc.isReadableCode)) gp
    raiseIf (!dataPrivilegeOk f.desc sel s.cpl) gp
    raiseIf (!f.desc.p) (Exc.np (selCode sel))
    setAccessed f
    update fun s => s.setSreg r (f.desc.toSeg sel)

/-- `LoadSeg(Sreg, sel)` (R40, R117). -/
def loadSeg (r : SReg) (sel : Word) : Op Unit := do
  match ← query State.mode with
  | .prot => loadSegProt r sel
  | _ => update fun s => s.load8086 r sel

/-- The state with CS loaded from a code descriptor, a privilege level as the RPL of its selector, and EIP set (R407, R41). -/
def State.withCode (s : State) (f : Found) (sel : Word) (rpl : BitVec 2) (off : DWord) : State :=
  { s.setSreg .cs (f.desc.toSeg (selWithRpl sel rpl)) with eip := off }

/-- Load CS from a code descriptor and set EIP (R407). -/
def installCode (f : Found) (sel : Word) (rpl : BitVec 2) (off : DWord) : Op Unit := do
  setAccessed f
  update fun s => s.withCode f sel rpl off

/-- The state on another stack at a privilege level: SS, eSP by the new B-bit, CPL (R411, R417, R439, R440). -/
def State.withStack (s : State) (f : Found) (sel : Word) (sp : DWord) (cpl : BitVec 2) : State :=
  { (s.setSreg .ss (f.desc.toSeg sel)).setSp sp with cpl := cpl }

/-- The return code segment at a level: a code segment, nonconforming of that DPL or conforming of at most it, present
(R416, R417, R440, R445). -/
def checkReturnCode (sel : Word) (level : BitVec 2) : Op Found := do
  let gp := Exc.gp (selCode sel)
  raiseIf (selNull sel) (Exc.gp 0)
  let f ← lookup sel gp
  raiseIf (!f.desc.isCode) gp
  raiseIf (!f.desc.isConforming && f.desc.dpl != level) gp
  raiseIf (f.desc.isConforming && decide (level < f.desc.dpl)) gp
  raiseIf (!f.desc.p) (Exc.np (selCode sel))
  pure f

/-- The return stack segment of an outer level (R417, R440). -/
def checkReturnStack (sel : Word) (level : BitVec 2) : Op Found := do
  let gp := Exc.gp (selCode sel)
  raiseIf (selNull sel) (Exc.gp 0)
  let f ← lookup sel gp
  raiseIf (selRpl sel != level) gp
  raiseIf (!f.desc.isWritableData) gp
  raiseIf (f.desc.dpl != level) gp
  raiseIf (!f.desc.p) (Exc.np (selCode sel))
  pure f

/-- A data-segment register after a return to an outer level: null when the new CPL may not use it (R418). -/
def SegReg.dropFor (g : SegReg) (cpl : BitVec 2) : SegReg :=
  if g.valid && !(g.isCode && g.type.getLsbD 2) && decide (g.dpl < cpl) then { g with sel := 0, valid := false } else g

/-- ES, FS, GS and DS after a return to an outer level (R418). -/
def State.dropSegments (s : State) : State :=
  { s with seg := { s.seg with es := s.seg.es.dropFor s.cpl, fs := s.seg.fs.dropFor s.cpl, gs := s.seg.gs.dropFor s.cpl,
                               ds := s.seg.ds.dropFor s.cpl } }

/-! ### Inner stacks (R412) -/

/-- `InnerStack(dpl)`: the stack selector and pointer for a privilege level in the current TSS (R412). -/
def innerStack (dpl : BitVec 2) : Op (Word × DWord) := do
  let s ← query id
  let o := if s.tr.is386 then 4 + 8 * dpl.toNat else 2 + 4 * dpl.toNat
  let w := if s.tr.is386 then 4 else 2
  raiseIf (decide (s.tr.limit.toNat < o + w + 1)) (Exc.ts (selCode s.tr.sel))
  let sp ← linRead (s.tr.base + BitVec.ofNat 32 o) w
  let ss ← linRead (s.tr.base + BitVec.ofNat 32 (o + w)) 2
  pure (ss.setWidth 16, sp)

/-- The checks on an inner stack segment (R411, R439); `e` is raised for a null selector. -/
def checkInnerStack (ss : Word) (dpl : BitVec 2) (e : Exc) : Op Found := do
  let ts := Exc.ts (selCode ss)
  raiseIf (selNull ss) e
  let f ← lookup ss ts
  raiseIf (selRpl ss != dpl) ts
  raiseIf (f.desc.dpl != dpl) ts
  raiseIf (!f.desc.isWritableData) ts
  raiseIf (!f.desc.p) (Exc.ss (selCode ss))
  pure f

/-- A stack pointer as a stack segment's B-bit sees it (R106). -/
def spFor (g : SegReg) (sp : DWord) : DWord := truncTo (if g.db then .w32 else .w16) sp

/-! ### The task switch (R540 to R546) -/

/-- The three kinds of task switch (R542, R546). -/
inductive SwitchKind where
  | nest
  | jmp
  | iret
deriving DecidableEq, Repr

/-- Mark what an operation raises as belonging to the task just entered (R545). -/
def inNewTask {α : Type} (x : Op α) : Op α := fun s =>
  match x s with
  | .error e s' => .error { e with inNewTask := true } s'
  | .ok a s' => .ok a s'

/-- Write fields of a TSS: offset, bytes, value (R116). -/
def writeFields (base : DWord) : List (Nat × Nat × DWord) → Op Unit
  | [] => pure ()
  | (off, n, v) :: rest => do
    linWrite (base + BitVec.ofNat 32 off) n v
    writeFields base rest

/-- A field of a TSS. -/
def readField (base : DWord) (off n : Nat) : Op DWord := linRead (base + BitVec.ofNat 32 off) n

/-- The visible selector of a segment register, zero-extended. -/
def State.selD (s : State) (r : SReg) : DWord := (s.sreg r).sel.setWidth 32

/-- Step 2 of R546: save the task being left. -/
def saveTask (kind : SwitchKind) (ret : DWord) : Op Unit := do
  let s ← query id
  let img := { s.flags with nt := s.flags.nt && kind != SwitchKind.iret }.image
  if s.tr.is386 then
    writeFields s.tr.base
      [(0x20, 4, ret), (0x24, 4, img), (0x28, 4, s.gpr.eax), (0x2C, 4, s.gpr.ecx), (0x30, 4, s.gpr.edx),
       (0x34, 4, s.gpr.ebx), (0x38, 4, s.gpr.esp), (0x3C, 4, s.gpr.ebp), (0x40, 4, s.gpr.esi), (0x44, 4, s.gpr.edi),
       (0x48, 2, s.selD .es), (0x4C, 2, s.selD .cs), (0x50, 2, s.selD .ss), (0x54, 2, s.selD .ds),
       (0x58, 2, s.selD .fs), (0x5C, 2, s.selD .gs)]
  else
    writeFields s.tr.base
      [(0x0E, 2, ret), (0x10, 2, img), (0x12, 2, s.gpr.eax), (0x14, 2, s.gpr.ecx), (0x16, 2, s.gpr.edx),
       (0x18, 2, s.gpr.ebx), (0x1A, 2, s.gpr.esp), (0x1C, 2, s.gpr.ebp), (0x1E, 2, s.gpr.esi), (0x20, 2, s.gpr.edi),
       (0x22, 2, s.selD .es), (0x24, 2, s.selD .cs), (0x26, 2, s.selD .ss), (0x28, 2, s.selD .ds)]

/-- The images a task switch loads (R546 step 7). -/
structure TaskImage where
  eip : DWord
  flags : Flags
  gpr : Gprs
  es : Word
  cs : Word
  ss : Word
  ds : Word
  fs : Word
  gs : Word
  ldt : Word
deriving DecidableEq, Repr

/-- The images of an 80386 TSS; with paging enabled CR3 is loaded first (R544, R546 step 7). -/
def readTask386 (base : DWord) : Op TaskImage := do
  if ← query State.pg then do
    let v ← readField base 0x1C 4
    update fun s => { s with cr3 := v }
  let eip ← readField base 0x20 4
  let fl ← readField base 0x24 4
  let eax ← readField base 0x28 4
  let ecx ← readField base 0x2C 4
  let edx ← readField base 0x30 4
  let ebx ← readField base 0x34 4
  let esp ← readField base 0x38 4
  let ebp ← readField base 0x3C 4
  let esi ← readField base 0x40 4
  let edi ← readField base 0x44 4
  let es ← readField base 0x48 2
  let cs ← readField base 0x4C 2
  let ss ← readField base 0x50 2
  let ds ← readField base 0x54 2
  let fs ← readField base 0x58 2
  let gs ← readField base 0x5C 2
  let ldt ← readField base 0x60 2
  pure { eip := eip, flags := Flags.ofImage fl,
         gpr := { eax := eax, ecx := ecx, edx := edx, ebx := ebx, esp := esp, ebp := ebp, esi := esi, edi := edi },
         es := es.setWidth 16, cs := cs.setWidth 16, ss := ss.setWidth 16, ds := ds.setWidth 16, fs := fs.setWidth 16,
         gs := gs.setWidth 16, ldt := ldt.setWidth 16 }

/-- A register image of an 80286 TSS: the low word, under an undefined upper one (R546 step 7, U17). -/
def readHalf (base : DWord) (off : Nat) : Op DWord := do
  let v ← readField base off 2
  let u ← drawUndef
  pure (setLow16 u v)

/-- The images of an 80286 TSS: FS and GS null, the upper half of EFLAGS 0 (R543, R546 step 7). -/
def readTask286 (base : DWord) : Op TaskImage := do
  let eip ← readField base 0x0E 2
  let fl ← readField base 0x10 2
  let eax ← readHalf base 0x12
  let ecx ← readHalf base 0x14
  let edx ← readHalf base 0x16
  let ebx ← readHalf base 0x18
  let esp ← readHalf base 0x1A
  let ebp ← readHalf base 0x1C
  let esi ← readHalf base 0x1E
  let edi ← readHalf base 0x20
  let es ← readField base 0x22 2
  let cs ← readField base 0x24 2
  let ss ← readField base 0x26 2
  let ds ← readField base 0x28 2
  let ldt ← readField base 0x2A 2
  pure { eip := eip, flags := Flags.ofImage fl,
         gpr := { eax := eax, ecx := ecx, edx := edx, ebx := ebx, esp := esp, ebp := ebp, esi := esi, edi := edi },
         es := es.setWidth 16, cs := cs.setWidth 16, ss := ss.setWidth 16, ds := ds.setWidth 16, fs := 0, gs := 0,
         ldt := ldt.setWidth 16 }

/-- A segment register that names an image and holds no descriptor (R546 step 10). -/
def SegReg.unloaded (g : SegReg) (sel : Word) : SegReg := { g with sel := sel, valid := false }

/-- The state once the images are in the registers (R546 steps 7 to 10). CPL is 3 as soon as VM is 1 (R41). The first byte
of the "current instruction" is now the one the new task resumes at (R545), and IRET unmasks NMI (R53). -/
def State.enterTask (s : State) (kind : SwitchKind) (t : TaskImage) : State :=
  let fl := if kind = .nest then { t.flags with nt := true } else t.flags
  { s with
    gpr := t.gpr
    eip := t.eip
    insnStart := t.eip
    flags := fl
    cpl := if fl.vm then 3 else s.cpl
    cr0 := s.cr0 ||| 0x8#32
    nmiBlocked := s.nmiBlocked && kind != .iret
    ldtr := { s.ldtr with sel := t.ldt, valid := false }
    seg := { es := s.seg.es.unloaded t.es, cs := s.seg.cs.unloaded t.cs, ss := s.seg.ss.unloaded t.ss,
             ds := s.seg.ds.unloaded t.ds, fs := s.seg.fs.unloaded t.fs, gs := s.seg.gs.unloaded t.gs } }

/-- Steps 2 to 10 of R546: everything up to the commit point. -/
def switchCommit (new : Found) (sel : Word) (kind : SwitchKind) (ret : DWord) : Op TaskImage := do
  let s ← query id
  saveTask kind ret
  if kind = .nest then pure ()
  else changeAccessRights (s.gdtr.base + BitVec.ofNat 32 (selOffset s.tr.sel)) fun b => b &&& 0xFD#8
  if kind = .iret then pure () else changeAccessRights new.addr fun b => b ||| 2#8
  update fun s => { s with tr := { sel := sel, base := new.desc.base, limit := new.desc.limit, is386 := new.desc.is386 } }
  if kind = .nest then linWrite new.desc.base 2 (s.tr.sel.setWidth 32) else pure ()
  let t ← if new.desc.is386 then readTask386 new.desc.base else readTask286 new.desc.base
  update fun s => s.enterTask kind t
  pure t

/-- Step 11 of R546: LDTR of the new task. -/
def loadTaskLdt (sel : Word) : Op Unit := do
  if selNull sel then pure ()
  else do
    let ts := Exc.ts (selCode sel)
    let f ← lookupGdt sel ts
    raiseIf (!f.desc.isSystem 2) ts
    raiseIf (!f.desc.p) ts
    update fun s => { s with ldtr := { sel := sel, base := f.desc.base, limit := f.desc.limit, valid := true } }

/-- Step 12 of R546: the segment registers of a V86 task. -/
def State.loadTaskV86 (s : State) (t : TaskImage) : State :=
  { s with cpl := 3
           seg := { es := v86Segment t.es, cs := v86Segment t.cs, ss := v86Segment t.ss, ds := v86Segment t.ds,
                    fs := v86Segment t.fs, gs := v86Segment t.gs } }

/-- Step 13 of R546: CS of the new task. -/
def loadTaskCs (sel : Word) : Op Unit := do
  let ts := Exc.ts (selCode sel)
  raiseIf (selNull sel) ts
  let f ← lookup sel ts
  raiseIf (!f.desc.isCode) ts
  raiseIf (!(if f.desc.isConforming then decide (f.desc.dpl ≤ selRpl sel) else f.desc.dpl == selRpl sel)) ts
  raiseIf (!f.desc.p) (Exc.np (selCode sel))
  setAccessed f
  update fun s => { s.setSreg .cs (f.desc.toSeg sel) with cpl := selRpl sel }

/-- Step 14 of R546: SS of the new task. The descriptor is read before the test of the RPL (DESIGN CHOICE, log entry 39). -/
def loadTaskSs (sel : Word) : Op Unit := do
  let ts := Exc.ts (selCode sel)
  let cpl ← query State.cpl
  raiseIf (selNull sel) ts
  let f ← lookup sel ts
  raiseIf (selRpl sel != cpl || !f.desc.isWritableData || f.desc.dpl != cpl) ts
  raiseIf (!f.desc.p) (Exc.ss (selCode sel))
  setAccessed f
  update fun s => s.setSreg .ss (f.desc.toSeg sel)

/-- Step 15 of R546: a data-segment register of the new task. -/
def loadTaskData (r : SReg) (sel : Word) : Op Unit := do
  if selNull sel then pure ()
  else do
    let ts := Exc.ts (selCode sel)
    let cpl ← query State.cpl
    let f ← lookup sel ts
    raiseIf (!(f.desc.isData || f.desc.isReadableCode)) ts
    raiseIf (!dataPrivilegeOk f.desc sel cpl) ts
    raiseIf (!f.desc.p) (Exc.np (selCode sel))
    setAccessed f
    update fun s => s.setSreg r (f.desc.toSeg sel)

/-- Steps 11 to 15 of R546: what can fault in the new task. -/
def loadTask (t : TaskImage) : Op Unit := do
  loadTaskLdt t.ldt
  if t.flags.vm then update fun s => s.loadTaskV86 t
  else do
    loadTaskCs t.cs
    loadTaskSs t.ss
    loadTaskData .ds t.ds
    loadTaskData .es t.es
    loadTaskData .fs t.fs
    loadTaskData .gs t.gs

/-- `SwitchTasks(sel, kind)` to the TSS that `new` describes, saving `ret` as the EIP of the task left (R546). Up to the
commit point a fault leaves the old task as it was; after it a fault belongs to the new task (R545). -/
def switchTasks (new : Found) (sel : Word) (kind : SwitchKind) (ret : DWord) : Op Unit := do
  raiseIf (decide (new.desc.limit.toNat < if new.desc.is386 then 0x67 else 0x2B)) (Exc.ts (selCode sel))
  let t ← atomically (switchCommit new sel kind ret)
  inNewTask (loadTask t)

end Sys2Proof.Machine
end

