-- ==== Sys2Proof/Machine/Ops.lean ====
section
/-!
DEFINITION. Taking an exception or interrupt (45_interrupt_iret.md R433 to R443, 60_exceptions.md R520, R530), the return from
one (R436 to R448), and what a meaning is: an operation whose exceptions are taken.
-/
namespace Sys2Proof.Machine

/-! ### Delivery (R433 to R442) -/

/-- What is being delivered: INT n, INT 3 or INTO; an exception; INTR or NMI (R433). -/
inductive Source where
  | software
  | exception
  | external
deriving DecidableEq, Repr

/-- The error code as a list of at most one value to push. -/
def codeValues (err : Option Word) : List DWord :=
  match err with
  | some c => [c.setWidth 32]
  | none => []

/-- Delivery in real-address mode (R434). A vector beyond the IDTR limit is vector 8 instead. -/
def deliverReal (n : Nat) (ret : DWord) : Op Unit := do
  let s ← query id
  raiseIf (decide (s.idtr.limit.toNat < 4 * n + 3)) (Exc.plain 8)
  let off ← linRead (s.idtr.base + BitVec.ofNat 32 (4 * n)) 2
  let sel ← linRead (s.idtr.base + BitVec.ofNat 32 (4 * n + 2)) 2
  pushAllOf .w16 [s.flags.image, s.selD .cs, ret]
  update fun s =>
    { s.load8086 .cs (sel.setWidth 16) with
      eip := off
      flags := { s.flags with ifl := false, tf := false } }

/-- The flags once a protected-mode handler is entered: TF and NT 0, IF 0 through an interrupt gate (R438, R443). -/
def Flags.enter (f : Flags) (interruptGate : Bool) : Flags :=
  { f with tf := false, nt := false, ifl := f.ifl && !interruptGate }

/-- An interrupt gate rather than a trap gate: type 6 or E (R113). -/
def Desc.isInterruptGate (d : Desc) : Bool := d.isSystem 6 || d.isSystem 14

/-- An interrupt or trap gate: types 6, 7, E, F (R435). -/
def Desc.isIntOrTrapGate (d : Desc) : Bool := d.isSystem 6 || d.isSystem 7 || d.isSystem 14 || d.isSystem 15

/-- Delivery at the same privilege level (R438). `c` is the handler's code segment, named by `cs`. The error code is pushed after
CS is loaded: a page fault of that push undoes the other pushes and leaves the accessed bit of `c` set (D5, D26). -/
def deliverSame (g : Desc) (cs : Word) (c : Found) (err : Option Word) (ret : DWord) : Op Unit := do
  let s ← query id
  let w := g.gateWidth
  let frame := [s.flags.image, s.selD .cs, ret]
  let code := codeValues err
  checkPushes w.bytes (frame.length + code.length)
  raiseIf (decide (c.desc.limit.toNat < g.gateOffset.toNat)) (Exc.gp 0)
  atomically do
    pushAllOf w frame
    installCode c cs s.cpl g.gateOffset
  undoneTo (s.markAccessed c) (pushAllOf w code)
  updateFlags fun f => f.enter g.isInterruptGate

/-- Delivery to an inner privilege level (R439). -/
def deliverInner (g : Desc) (cs : Word) (c : Found) (err : Option Word) (ret : DWord) : Op Unit := do
  let s ← query id
  let w := g.gateWidth
  let dpl := c.desc.dpl
  let (ss, sp) ← innerStack dpl
  let f ← checkInnerStack ss dpl (Exc.gp 0)
  let frame := [s.selD .ss, s.gpr.esp, s.flags.image, s.selD .cs, ret] ++ codeValues err
  let g' := f.desc.toSeg ss
  raiseIf (!stackRoom .prot g' w.bytes frame.length (spFor g' sp)) (Exc.ss 0)
  raiseIf (decide (c.desc.limit.toNat < g.gateOffset.toNat)) (Exc.gp 0)
  setAccessed f
  atomically do
    update fun s => s.withStack f ss sp dpl
    pushAllOf w frame
    installCode c cs dpl g.gateOffset
    updateFlags fun f => f.enter g.isInterruptGate

/-- A data-segment register as an entry from V86 mode leaves it (R441). -/
def SegReg.nulled (g : SegReg) : SegReg := { g with sel := 0, valid := false }

/-- Delivery from V86 mode through an 80386 gate to level 0. All 32 bits of ESP are loaded, whatever the B-bit (R441). -/
def deliverV86 (g : Desc) (cs : Word) (c : Found) (err : Option Word) (ret : DWord) : Op Unit := do
  let s ← query id
  let (ss, sp) ← innerStack 0
  let f ← checkInnerStack ss 0 (Exc.gp 0)
  let frame := [s.selD .gs, s.selD .fs, s.selD .ds, s.selD .es, s.selD .ss, s.gpr.esp, s.flags.image, s.selD .cs, ret]
    ++ codeValues err
  let g' := f.desc.toSeg ss
  raiseIf (!stackRoom .prot g' 4 frame.length (spFor g' sp)) (Exc.ss 0)
  raiseIf (decide (c.desc.limit.toNat < g.gateOffset.toNat)) (Exc.gp 0)
  setAccessed f
  atomically do
    update fun s =>
      { s.withStack f ss sp 0 with
        gpr := { s.gpr with esp := sp }
        flags := { s.flags with vm := false }
        seg := { (s.seg.set .ss (f.desc.toSeg ss)) with
                 es := s.seg.es.nulled, ds := s.seg.ds.nulled, fs := s.seg.fs.nulled, gs := s.seg.gs.nulled } }
    pushAllOf .w32 frame
    installCode c cs 0 g.gateOffset
    updateFlags fun f => f.enter g.isInterruptGate

/-- Delivery through an interrupt or trap gate: the checks on the handler's code segment and the choice of path (R437).
`idt` is the error code that names the gate. -/
def deliverGate (idt : Word) (g : Desc) (err : Option Word) (ret : DWord) : Op Unit := do
  let s ← query id
  let cs := g.gateSelector
  let gp := Exc.gp (selCode cs)
  raiseIf (selNull cs) (Exc.gp 0)
  let c ← lookup cs gp
  raiseIf (!c.desc.isCode) gp
  raiseIf (!c.desc.p) (Exc.np (selCode cs))
  if s.flags.vm then do
    raiseIf (!g.is386) (Exc.gp idt)
    raiseIf (c.desc.isConforming || c.desc.dpl != 0) gp
    deliverV86 g cs c err ret
  else if !c.desc.isConforming && decide (c.desc.dpl < s.cpl) then deliverInner g cs c err ret
  else if c.desc.isConforming || c.desc.dpl == s.cpl then deliverSame g cs c err ret
  else raiseExc gp

/-- The last steps of a delivery through a task gate, in the new task: the error code and the limit test (R442). When the limit
test raises #GP(0) the error code stays pushed on the new task's stack (DESIGN CHOICE, log entry 40). -/
def finishTaskGate (is386 : Bool) (err : Option Word) : Op Unit := do
  let w := if is386 then Width.w32 else Width.w16
  let frame := codeValues err
  let s ← query id
  checkPushes w.bytes frame.length
  atomically (pushAllOf w frame)
  raiseIf (decide (s.seg.cs.limit.toNat < s.eip.toNat)) (Exc.gp 0)

/-- Delivery through a task gate (R442). -/
def deliverTask (g : Desc) (err : Option Word) (ret : DWord) : Op Unit := do
  let sel := g.gateSelector
  let ts := Exc.ts (selCode sel)
  let f ← lookupGdt sel ts
  raiseIf (!f.desc.isAvailableTss) ts
  raiseIf (!f.desc.p) (Exc.np (selCode sel))
  switchTasks f sel .nest ret
  inNewTask (finishTaskGate f.desc.is386 err)

/-- Delivery in protected and V86 mode: the gate (R435). -/
def deliverProt (n : Nat) (src : Source) (err : Option Word) (ret : DWord) : Op Unit := do
  let s ← query id
  let idt := BitVec.ofNat 16 (8 * n + 2)
  raiseIf (decide (s.idtr.limit.toNat < 8 * n + 7)) (Exc.gp idt)
  let g ← readDesc (s.idtr.base + BitVec.ofNat 32 (8 * n))
  raiseIf (!(g.isIntOrTrapGate || g.isSystem 5)) (Exc.gp idt)
  raiseIf (src == .software && decide (g.dpl < s.cpl)) (Exc.gp idt)
  raiseIf (!g.p) (Exc.np idt)
  if g.isSystem 5 then deliverTask g err ret else deliverGate idt g err ret

/-- `Deliver(n, source, err, ret)` (R433), once: a check that fails raises an exception. The error codes raised here are
those of a software interrupt (EXT = 0); `deliverFrom` sets EXT for the others. -/
def deliverOnce (n : Nat) (src : Source) (err : Option Word) (ret : DWord) : Op Unit := do
  if ← query State.pe then deliverProt n src err ret
  else atomically (deliverReal n ret)
  update fun s => { s with run := .running }

/-- CR2 once an exception is raised: a page fault's linear address (R47, R501). -/
def State.noteFault (s : State) (e : Exc) : State := { s with cr2 := e.cr2.getD s.cr2 }

/-- The contributory exceptions (R530). -/
def isContributory (n : Nat) : Bool := n == 0 || n == 10 || n == 11 || n == 12 || n == 13

/-- Whether a second exception during the delivery of a first makes a double fault (R530). -/
def isDoubleFault (first second : Nat) : Bool :=
  (isContributory first && isContributory second) || (first == 14 && (isContributory second || second == 14))

/-- The error code of an exception raised during a delivery: EXT set (R530, D4). A page fault's code has no EXT bit. -/
def externalCode (e : Exc) : Option Word := if e.vector = 14 then e.code else e.code.map fun c => c ||| 1#16

/-- `Deliver` of an exception or an external interrupt with what follows when a check of it fails: the second exception, a
double fault, or shutdown (R530, R536). No chain is longer than four deliveries, so that the count given by `deliver` is
never used up. -/
def deliverFrom : Nat → Nat → Source → Option Word → DWord → State → State
  | 0, _, _, _, _, s => { s with run := .shutdown }
  | k + 1, n, src, err, ret, s =>
    match deliverOnce n src err ret s with
    | .ok _ s' => s'
    | .error e s' =>
      let s' := s'.noteFault e
      let ret := if e.inNewTask then s'.insnStart else ret
      if n = 8 then { s' with run := .shutdown }
      else if isDoubleFault n e.vector then deliverFrom k 8 .exception (some 0) ret s'
      else deliverFrom k e.vector .exception (externalCode e) ret s'

/-- `Deliver` of an exception or an external interrupt (R433, R530). -/
def State.deliver (s : State) (n : Nat) (src : Source) (err : Option Word) (ret : DWord) : State :=
  deliverFrom 5 n src err ret s

/-- `raise X(code)` once the effects of the instruction are undone: EIP goes back to the first byte of the instruction, the
exception is delivered with that as the saved EIP, and no single-step trap follows (R24, R503, R510, R520). -/
def State.raise (s : State) (e : Exc) : State :=
  ({ s.noteFault e with trapDue := false, eip := s.insnStart } : State).deliver e.vector .exception e.code s.insnStart

/-! ### Meanings -/

/-- The outcome of an operation as an instruction: its exceptions are taken in the state that it left. The operation undoes
its own effects. -/
def complete (x : Op Unit) (s : State) : Host.Outcome State Fault Refusal :=
  match x s with
  | .ok _ s' => .next s'
  | .error e s' => .next (s'.raise e)

/-- The outcome of an operation as an ordinary instruction: an exception undoes all it did (R503). -/
def instr (x : Op Unit) (s : State) : Host.Outcome State Fault Refusal := complete (atomically x) s

/-! ### The IOPL test of V86 mode (R550) -/

/-- The test of the IOPL-sensitive instructions in V86 mode (R550). -/
def checkV86Iopl : Op Unit := do
  let s ← query id
  raiseIf (s.mode == .v86 && decide (s.flags.iopl < 3)) (Exc.gp 0)

/-! ### The return from an interrupt (R436 to R448) -/

/-- The flags that IRET loads: those of POPF, and RF from a 32-bit image (R448). -/
def Flags.loadIret (f : Flags) (w : Width) (pe : Bool) (cpl : BitVec 2) (v : DWord) : Flags :=
  { f.load pe cpl v with rf := if w = .w32 then v.getLsbD 16 else f.rf }

/-- IRET to an 8086-style frame; that all three items can be popped is checked first (R436). -/
def iret8086 : Op Unit := do
  let s ← query id
  let w := s.osz
  checkPops w.bytes 3
  let off ← pop w
  let sel ← pop w
  let img ← pop w
  update fun s =>
    { s.load8086 .cs (sel.setWidth 16) with
      eip := off
      flags := s.flags.loadIret w s.pe s.cpl img
      nmiBlocked := false }

/-- IRET to the same privilege level (R445). -/
def iretSame (w : Width) (rs : Word) : Op Unit := do
  let s ← query id
  checkStackRead (3 * w.bytes)
  let c ← checkReturnCode rs s.cpl
  let off ← stackRead 0 w.bytes
  raiseIf (decide (c.desc.limit.toNat < off.toNat)) (Exc.gp 0)
  let img ← stackRead (2 * w.bytes) w.bytes
  setAccessed c
  update fun s =>
    { (s.withCode c rs (selRpl rs) off).setSp (s.sp + BitVec.ofNat 32 (3 * w.bytes)) with
      flags := s.flags.loadIret w true s.cpl img
      nmiBlocked := false }

/-- IRET to an outer privilege level (R440). -/
def iretOuter (w : Width) (rs : Word) : Op Unit := do
  checkStackRead (5 * w.bytes)
  let level := selRpl rs
  let c ← checkReturnCode rs level
  let nsp ← stackRead (3 * w.bytes) w.bytes
  let nssD ← stackRead (4 * w.bytes) 2
  let nss : Word := nssD.setWidth 16
  let f ← checkReturnStack nss level
  let off ← stackRead 0 w.bytes
  raiseIf (decide (c.desc.limit.toNat < off.toNat)) (Exc.gp 0)
  let img ← stackRead (2 * w.bytes) w.bytes
  setAccessed c
  setAccessed f
  update fun s =>
    State.dropSegments
      { (s.withCode c rs level off).withStack f nss nsp level with
        flags := s.flags.loadIret w true s.cpl img
        nmiBlocked := false }

/-- IRETD to V86 mode (R446). The frame is read in the listing's order, SS and ESP last (D5), all of it before anything is
loaded. -/
def iretV86 : Op Unit := do
  checkStackRead 36
  let fl ← stackRead 8 4
  let eip ← stackRead 0 4
  let cs ← stackRead 4 2
  let es ← stackRead 20 2
  let ds ← stackRead 24 2
  let fs ← stackRead 28 2
  let gs ← stackRead 32 2
  let ss ← stackRead 16 2
  let esp ← stackRead 12 4
  update fun s =>
    { s with
      flags := Flags.ofImage fl
      eip := eip &&& 0x0000FFFF#32
      gpr := { s.gpr with esp := esp }
      cpl := 3
      nmiBlocked := false
      seg := { es := v86Segment (es.setWidth 16), cs := v86Segment (cs.setWidth 16), ss := v86Segment (ss.setWidth 16),
               ds := v86Segment (ds.setWidth 16), fs := v86Segment (fs.setWidth 16), gs := v86Segment (gs.setWidth 16) } }

/-- IRET with NT = 1: return to the task that the back link names (R447). -/
def iretTask : Op Unit := do
  let s ← query id
  let blD ← linRead s.tr.base 2
  let bl : Word := blD.setWidth 16
  let ts := Exc.ts (selCode bl)
  let f ← lookupGdt bl ts
  raiseIf (!f.desc.isBusyTss) ts
  raiseIf (!f.desc.p) (Exc.np (selCode bl))
  switchTasks f bl .iret s.eip
  inNewTask do
    let s ← query id
    raiseIf (decide (s.seg.cs.limit.toNat < s.eip.toNat)) (Exc.gp 0)

/-- IRET in protected mode (R444). -/
def iretProt : Op Unit := do
  let s ← query id
  if s.flags.nt then iretTask
  else do
    let w := s.osz
    checkStackRead (w.bytes + 2)
    let rsD ← stackRead w.bytes 2
    let rs : Word := rsD.setWidth 16
    let img ← if w = .w32 && s.cpl == 0 then stackRead 8 4 else pure 0
    if img.getLsbD 17 then iretV86
    else do
      raiseIf (decide (selRpl rs < s.cpl)) (Exc.gp (selCode rs))
      if selRpl rs = s.cpl then iretSame w rs else iretOuter w rs

/-- IRET and IRETD: R444 in protected mode, else the return of R436. In V86 mode with IOPL 3 that is so whatever NT is, as R436
and 90_conflicts.md C16 have it, against a row of R570 (DEDUCED, log entry 22). -/
def interruptReturn : Op Unit := do
  checkV86Iopl
  match ← query State.mode with
  | .prot => iretProt
  | _ => atomically iret8086

end Sys2Proof.Machine
end

