-- ==== Sys2Proof/Machine/Operands.lean ====
section
/-!
DEFINITION. Operands: effective addresses (30_encoding.md R152 to R154, 20_memory.md R105), r/m operands
(40_arith_logic.md R200), and the I/O ports (20_memory.md R84, R121, R122).
-/
namespace Sys2Proof.Machine

/-! ### Effective addresses -/

/-- The registers of a 16-bit address form (R152). -/
def base16 (s : State) : Base16 → DWord
  | .bxSi => s.gpr.ebx + s.gpr.esi
  | .bxDi => s.gpr.ebx + s.gpr.edi
  | .bpSi => s.gpr.ebp + s.gpr.esi
  | .bpDi => s.gpr.ebp + s.gpr.edi
  | .si => s.gpr.esi
  | .di => s.gpr.edi
  | .bp => s.gpr.ebp
  | .bx => s.gpr.ebx

/-- The factor of a scale as a shift (R154). -/
def scaleShift : Scale → Nat
  | .x1 => 0
  | .x2 => 1
  | .x4 => 2
  | .x8 => 3

/-- The offset of an effective address: modulo 2^16 for a 16-bit form, modulo 2^32 for a 32-bit one (R152 to R154). -/
def effectiveOffset (s : State) : EA → DWord
  | .a16 none d => d.setWidth 32
  | .a16 (some b) d => truncTo .w16 (base16 s b + d.setWidth 32)
  | .a32 base index d =>
    (match base with
      | some r => s.reg r
      | none => 0) +
    (match index with
      | some (r, k) => s.reg r <<< scaleShift k
      | none => 0) + d

/-- The segment register an address form uses by default: SS with BP, EBP or ESP as a base, else DS (R105). -/
def defaultSegment : EA → SReg
  | .a16 (some .bpSi) _ => .ss
  | .a16 (some .bpDi) _ => .ss
  | .a16 (some .bp) _ => .ss
  | .a16 _ _ => .ds
  | .a32 (some .esp) _ _ => .ss
  | .a32 (some .ebp) _ _ => .ss
  | .a32 _ _ _ => .ds

/-- The segment register of an operand that may be overridden (R105). -/
def State.segOr (s : State) (r : SReg) : SReg := s.pfx.seg.getD r

/-! ### Operand locations (R200) -/

/-- Where an operand is: a byte register, a general register, or an offset in a segment. -/
inductive Loc where
  | reg8 (r : Reg8)
  | reg (r : Reg)
  | mem (seg : SReg) (off : DWord)
deriving DecidableEq, Repr

/-- The location of a memory operand. -/
def locOfEA (s : State) (m : EA) : Loc := .mem (s.segOr (defaultSegment m)) (effectiveOffset s m)

/-- The location of a byte r/m operand. -/
def loc8 (s : State) : RM Reg8 → Loc
  | .reg r => .reg8 r
  | .mem m => locOfEA s m

/-- The location of an r/m operand of operand size. -/
def locV (s : State) : RM Reg → Loc
  | .reg r => .reg r
  | .mem m => locOfEA s m

/-- Whether a location is in memory. -/
def Loc.isMem : Loc → Bool
  | .mem _ _ => true
  | _ => false

/-- A register operand of a size, zero-extended. -/
def State.regS (s : State) (sz : Size) (r : Reg) : DWord := truncSize sz (s.reg r)

/-- The state after a register operand of a size is written (R21). -/
def State.setRegS (s : State) (sz : Size) (r : Reg) (v : DWord) : State :=
  match sz with
  | .dword => s.setReg r v
  | .word => s.setReg r (setLow16 (s.reg r) v)
  | .byte => s.setReg r ((s.reg r &&& 0xFFFFFF00#32) ||| (v &&& 0xFF#32))

/-- Read an operand of a size, zero-extended: `ReadRM()` (R200). -/
def readLoc (sz : Size) : Loc → Op DWord
  | .reg8 r => query fun s => (s.reg8 r).setWidth 32
  | .reg r => query fun s => s.regS sz r
  | .mem seg off => memRead seg off sz.bytes

/-- Write an operand of a size: `WriteRM(v)` (R200). -/
def writeLoc (sz : Size) (v : DWord) : Loc → Op Unit
  | .reg8 r => update fun s => s.setReg8 r (v.setWidth 8)
  | .reg r => update fun s => s.setRegS sz r v
  | .mem seg off => memWrite seg off sz.bytes v

/-- The write check of an operand that may not be written after all (R452, D20, D27). -/
def checkWriteLoc (sz : Size) : Loc → Op Unit
  | .mem seg off => checkWrite seg off sz.bytes
  | _ => pure ()

/-! ### The accumulator (R200) -/

/-- AL, AX or EAX, zero-extended. -/
def State.acc (s : State) (sz : Size) : DWord := s.regS sz .eax

/-- The state after AL, AX or EAX is written. -/
def State.setAcc (s : State) (sz : Size) (v : DWord) : State := s.setRegS sz .eax v

/-! ### Port I/O (R84, R121, R122) -/

/-- One test of the I/O permission bit map in the current TSS: `count` consecutive bits from a port's (R122). -/
def ioPermissionBits (port count : Nat) : Op Bool := do
  let s ← query id
  if !s.tr.is386 then pure false
  else do
    let ptr ← linRead (s.tr.base + 0x66#32) 2
    let at' := port / 8 + ptr.toNat
    if s.tr.limit.toNat < at' + 1 then pure false
    else do
      let word ← linRead (s.tr.base + BitVec.ofNat 32 at') 2
      let mask := BitVec.ofNat 32 ((2 ^ count - 1) * 2 ^ (port % 8))
      pure (word &&& mask == 0)

/-- `IOPermission(port, width)` where the access runs past port 65535: each port by itself, modulo 2^16 (R84, D3). -/
def ioPermissionWrapped (port : Nat) : Nat → Op Bool
  | 0 => pure true
  | n + 1 => do
    let ok ← ioPermissionBits (port % 65536) 1
    let rest ← ioPermissionWrapped (port + 1) n
    pure (ok && rest)

/-- `IOPermission(port, width)` (R122). -/
def ioPermission (port : Word) (n : Nat) : Op Bool :=
  if port.toNat + n ≤ 65536 then ioPermissionBits port.toNat n else ioPermissionWrapped port.toNat n

/-- The I/O access check (R121). -/
def checkIo (port : Word) (sz : Size) : Op Unit := do
  let s ← query id
  if s.pe && (s.flags.vm || decide (s.flags.iopl < s.cpl)) then do
    let ok ← ioPermission port sz.bytes
    raiseIf (!ok) (Exc.gp 0)
  else pure ()

/-- `IoRead(port, n)`: what the environment answers (R84, R340, D3). -/
def ioRead (port : Word) (sz : Size) : Op DWord := fun s =>
  .ok (truncSize sz (Config.ioIn port sz s.draws)) { s with draws := s.draws + 1 }

/-- `IoWrite(port, n, v)`: recorded as an event (R84, R341, D3). -/
def ioWrite (port : Word) (sz : Size) (v : DWord) : Op Unit :=
  update fun s => { s with ioWrites := s.ioWrites ++ [{ port := port, size := sz, value := truncSize sz v }] }

end Sys2Proof.Machine
end

