-- ==== Sys2Proof/Machine/ArithLogic.lean ====
section
/-!
DEFINITION. Integer arithmetic, logic, BCD adjust and sign conversion (40_arith_logic.md): the shared operations of the
family, then one meaning for each of its instructions.
-/
namespace Sys2Proof.Machine

/-- The two-operand instructions of the family (R200, R213). -/
inductive AluOp where
  | add | or | adc | sbb | and | sub | xor | cmp | test
deriving DecidableEq, Repr

/-- Whether the result is stored: CMP and TEST only set flags (R206, R213). -/
def AluOp.writes : AluOp → Bool
  | .cmp => false
  | .test => false
  | _ => true

/-- The logical instructions, which clear CF and OF and leave AF undefined (R210 to R213). -/
def AluOp.isLogical : AluOp → Bool
  | .or => true
  | .and => true
  | .xor => true
  | .test => true
  | _ => false

/-- The result at a size, from the two operands and CF (R202 to R213). -/
def AluOp.result (op : AluOp) (sz : Size) (a b : DWord) (c : Bool) : DWord :=
  match op with
  | .add => addResult sz a b false
  | .adc => addResult sz a b c
  | .sub => subResult sz a b false
  | .sbb => subResult sz a b c
  | .cmp => subResult sz a b false
  | .or => a ||| b
  | .and => a &&& b
  | .xor => a ^^^ b
  | .test => a &&& b

/-- The flags, AF of a logical instruction left as it was (R202 to R213). -/
def AluOp.flags (op : AluOp) (sz : Size) (a b : DWord) (f : Flags) : Flags :=
  match op with
  | .add => f.add sz a b false
  | .adc => f.add sz a b f.cf
  | .sub => f.sub sz a b false
  | .sbb => f.sub sz a b f.cf
  | .cmp => f.sub sz a b false
  | .or => f.logic sz (a ||| b)
  | .and => f.logic sz (a &&& b)
  | .xor => f.logic sz (a ^^^ b)
  | .test => f.logic sz (a &&& b)

/-- A two-operand instruction: read the destination, store the result where it is stored, set the flags (R202 to R213). -/
def aluLoc (op : AluOp) (sz : Size) (dst : Loc) (b : DWord) : Op Unit := do
  let a ← readLoc sz dst
  let c ← query fun s => s.flags.cf
  if op.writes then writeLoc sz (op.result sz a b c) dst else pure ()
  updateFlags fun f => op.flags sz a b f
  if op.isLogical then undefFlags { StatusMask.none with af := true } else pure ()

/-- The byte forms with an r/m operand on one side. -/
def aluRm8 (op : AluOp) (dst src : RM Reg8) : Op Unit := do
  let s ← query id
  let b ← readLoc .byte (loc8 s src)
  aluLoc op .byte (loc8 s dst) b

/-- The forms of operand size with an r/m operand on one side. -/
def aluRmv (op : AluOp) (dst src : RM Reg) : Op Unit := do
  let s ← query id
  let b ← readLoc s.osz.size (locV s src)
  aluLoc op s.osz.size (locV s dst) b

/-- The byte forms with an immediate. -/
def aluImm8 (op : AluOp) (dst : RM Reg8) (imm : Byte) : Op Unit := do
  let s ← query id
  aluLoc op .byte (loc8 s dst) (imm.setWidth 32)

/-- The forms of operand size with an immediate, already extended to 32 bits (R200). -/
def aluImmv (op : AluOp) (dst : RM Reg) (imm : DWord) : Op Unit := do
  let s ← query id
  aluLoc op s.osz.size (locV s dst) (truncSize s.osz.size imm)

/-- An immediate extended to 32 bits: a byte by its sign (R160). -/
def immValue : Imm → DWord
  | .short v => v.signExtend 32
  | .full v => v

/-- INC or DEC. -/
inductive IncDec where
  | inc | dec
deriving DecidableEq, Repr

/-- INC and DEC: CF is kept (R207, R208). -/
def incDecLoc (op : IncDec) (sz : Size) (dst : Loc) : Op Unit := do
  let a ← readLoc sz dst
  match op with
  | .inc => do
    writeLoc sz (addResult sz a 1 false) dst
    updateFlags fun f => { f.add sz a 1 false with cf := f.cf }
  | .dec => do
    writeLoc sz (subResult sz a 1 false) dst
    updateFlags fun f => { f.sub sz a 1 false with cf := f.cf }

/-- INC and DEC of a byte operand. -/
def incDec8 (op : IncDec) (rm : RM Reg8) : Op Unit := do
  let s ← query id
  incDecLoc op .byte (loc8 s rm)

/-- INC and DEC of an operand of operand size. -/
def incDecV (op : IncDec) (rm : RM Reg) : Op Unit := do
  let s ← query id
  incDecLoc op s.osz.size (locV s rm)

/-- NEG: the flags are those of the subtraction from zero (R209). -/
def negLoc (sz : Size) (dst : Loc) : Op Unit := do
  let a ← readLoc sz dst
  writeLoc sz (subResult sz 0 a false) dst
  updateFlags fun f => f.sub sz 0 a false

/-- NEG of a byte operand. -/
def neg8 (rm : RM Reg8) : Op Unit := do
  let s ← query id
  negLoc .byte (loc8 s rm)

/-- NEG of an operand of operand size. -/
def negV (rm : RM Reg) : Op Unit := do
  let s ← query id
  negLoc s.osz.size (locV s rm)

/-- NOT: no flag (R214). -/
def notLoc (sz : Size) (dst : Loc) : Op Unit := do
  let a ← readLoc sz dst
  writeLoc sz (truncSize sz (~~~a)) dst

/-- NOT of a byte operand. -/
def not8 (rm : RM Reg8) : Op Unit := do
  let s ← query id
  notLoc .byte (loc8 s rm)

/-- NOT of an operand of operand size. -/
def notV (rm : RM Reg) : Op Unit := do
  let s ← query id
  notLoc s.osz.size (locV s rm)

/-- CBW and CWDE (R215). -/
def convertAcc : Op Unit := update fun s =>
  match s.osz with
  | .w16 => s.setRegS .word .eax (signExtendFrom .byte (s.acc .byte))
  | .w32 => s.setRegS .dword .eax (signExtendFrom .word (s.acc .word))

/-- CWD and CDQ (R216). -/
def convertDouble : Op Unit := update fun s =>
  s.setRegS s.osz.size .edx (if signBit s.osz.size (s.acc s.osz.size) then 0xFFFFFFFF#32 else 0#32)

/-- The test that AAA, AAS, DAA and DAS begin with: the low digit of AL exceeds 9, or AF (R217 to R222). -/
def needsAdjust (al : Byte) (af : Bool) : Bool := decide (9 < (al &&& 0x0F#8).toNat) || af

/-- AAA and AAS: 6 is added to or taken from AL, 1 to or from AH (R217, R218). -/
def asciiAdjust (digit : Byte → Byte) (carry : Byte → Byte) : Op Unit := do
  update fun s =>
    let al := s.reg8 .al
    if needsAdjust al s.flags.af then
      let s' := (s.setReg8 .al (digit al &&& 0x0F#8)).setReg8 .ah (carry (s.reg8 .ah))
      { s' with flags := { s'.flags with af := true, cf := true } }
    else
      let s' := s.setReg8 .al (al &&& 0x0F#8)
      { s' with flags := { s'.flags with af := false, cf := false } }
  undefFlags { StatusMask.none with ofl := true, sf := true, zf := true, pf := true }

/-- AAA (R217). -/
def aaa : Op Unit := asciiAdjust (fun al => al + 6) (fun ah => ah + 1)

/-- AAS (R218). -/
def aas : Op Unit := asciiAdjust (fun al => al - 6) (fun ah => ah - 1)

/-- The end of AAD and AAM: SZP of AL; OF, AF and CF undefined (R219, R220). -/
def adjustFlags : Op Unit := do
  update fun s => { s with flags := s.flags.szp .byte ((s.reg8 .al).setWidth 32) }
  undefFlags { StatusMask.none with ofl := true, af := true, cf := true }

/-- AAD (R219). -/
def aad : Op Unit := do
  update fun s => (s.setReg8 .al (s.reg8 .ah * 10#8 + s.reg8 .al)).setReg8 .ah 0
  adjustFlags

/-- AAM (R220). -/
def aam : Op Unit := do
  update fun s => (s.setReg8 .ah (s.reg8 .al / 10#8)).setReg8 .al (s.reg8 .al % 10#8)
  adjustFlags

/-- DAA and DAS: the two tests of the listing, with 6 and 60H added or taken; OF is kept (R221, R222). -/
def decimalAdjust (change : Byte → Byte → Byte) : Op Unit := update fun s =>
  let al := s.reg8 .al
  let af := needsAdjust al s.flags.af
  let al1 := if af then change al 0x06#8 else al
  let cf := decide (0x9F < al1.toNat) || s.flags.cf
  let al2 := if cf then change al1 0x60#8 else al1
  let s' := s.setReg8 .al al2
  { s' with flags := { s'.flags.szp .byte (al2.setWidth 32) with af := af, cf := cf } }

/-- DAA (R221). -/
def daa : Op Unit := decimalAdjust fun a b => a + b

/-- DAS (R222). -/
def das : Op Unit := decimalAdjust fun a b => a - b

/-! ### The meanings -/

/-- ADD r/m8,r8: 00 /r (R202). -/
def execAddRm8R8 (rm : RM Reg8) (r : Reg8) (s : State) : Host.Outcome State Fault Refusal :=
  instr (aluRm8 .add rm (.reg r)) s

/-- ADD r/m16/32,r16/32: 01 /r (R202). -/
def execAddRmvRv (rm : RM Reg) (r : Reg) (s : State) : Host.Outcome State Fault Refusal :=
  instr (aluRmv .add rm (.reg r)) s

/-- ADD r8,r/m8: 02 /r (R202). -/
def execAddR8Rm8 (r : Reg8) (rm : RM Reg8) (s : State) : Host.Outcome State Fault Refusal :=
  instr (aluRm8 .add (.reg r) rm) s

/-- ADD r16/32,r/m16/32: 03 /r (R202). -/
def execAddRvRmv (r : Reg) (rm : RM Reg) (s : State) : Host.Outcome State Fault Refusal :=
  instr (aluRmv .add (.reg r) rm) s

/-- ADD AL,imm8: 04 ib (R202). -/
def execAddAlImm8 (imm : Byte) (s : State) : Host.Outcome State Fault Refusal := instr (aluImm8 .add (.reg .al) imm) s

/-- ADD AX/EAX,imm16/32: 05 iw/id (R202). -/
def execAddEaxImmv (imm : DWord) (s : State) : Host.Outcome State Fault Refusal :=
  instr (aluImmv .add (.reg .eax) imm) s

/-- ADD r/m8,imm8: 80 /0 ib (R202). -/
def execAddRm8Imm8 (rm : RM Reg8) (imm : Byte) (s : State) : Host.Outcome State Fault Refusal :=
  instr (aluImm8 .add rm imm) s

/-- ADD r/m16/32,imm16/32 or imm8 sign-extended: 81 /0 iw/id, 83 /0 ib (R202). -/
def execAddRmvImm (rm : RM Reg) (imm : Imm) (s : State) : Host.Outcome State Fault Refusal :=
  instr (aluImmv .add rm (immValue imm)) s

/-- OR r/m8,r8: 08 /r (R211). -/
def execOrRm8R8 (rm : RM Reg8) (r : Reg8) (s : State) : Host.Outcome State Fault Refusal :=
  instr (aluRm8 .or rm (.reg r)) s

/-- OR r/m16/32,r16/32: 09 /r (R211). -/
def execOrRmvRv (rm : RM Reg) (r : Reg) (s : State) : Host.Outcome State Fault Refusal :=
  instr (aluRmv .or rm (.reg r)) s

/-- OR r8,r/m8: 0A /r (R211). -/
def execOrR8Rm8 (r : Reg8) (rm : RM Reg8) (s : State) : Host.Outcome State Fault Refusal :=
  instr (aluRm8 .or (.reg r) rm) s

/-- OR r16/32,r/m16/32: 0B /r (R211). -/
def execOrRvRmv (r : Reg) (rm : RM Reg) (s : State) : Host.Outcome State Fault Refusal :=
  instr (aluRmv .or (.reg r) rm) s

/-- OR AL,imm8: 0C ib (R211). -/
def execOrAlImm8 (imm : Byte) (s : State) : Host.Outcome State Fault Refusal := instr (aluImm8 .or (.reg .al) imm) s

/-- OR AX/EAX,imm16/32: 0D iw/id (R211). -/
def execOrEaxImmv (imm : DWord) (s : State) : Host.Outcome State Fault Refusal := instr (aluImmv .or (.reg .eax) imm) s

/-- OR r/m8,imm8: 80 /1 ib (R211). -/
def execOrRm8Imm8 (rm : RM Reg8) (imm : Byte) (s : State) : Host.Outcome State Fault Refusal :=
  instr (aluImm8 .or rm imm) s

/-- OR r/m16/32,imm16/32 or imm8 sign-extended: 81 /1 iw/id, 83 /1 ib (R211). -/
def execOrRmvImm (rm : RM Reg) (imm : Imm) (s : State) : Host.Outcome State Fault Refusal :=
  instr (aluImmv .or rm (immValue imm)) s

/-- ADC r/m8,r8: 10 /r (R203). -/
def execAdcRm8R8 (rm : RM Reg8) (r : Reg8) (s : State) : Host.Outcome State Fault Refusal :=
  instr (aluRm8 .adc rm (.reg r)) s

/-- ADC r/m16/32,r16/32: 11 /r (R203). -/
def execAdcRmvRv (rm : RM Reg) (r : Reg) (s : State) : Host.Outcome State Fault Refusal :=
  instr (aluRmv .adc rm (.reg r)) s

/-- ADC r8,r/m8: 12 /r (R203). -/
def execAdcR8Rm8 (r : Reg8) (rm : RM Reg8) (s : State) : Host.Outcome State Fault Refusal :=
  instr (aluRm8 .adc (.reg r) rm) s

/-- ADC r16/32,r/m16/32: 13 /r (R203). -/
def execAdcRvRmv (r : Reg) (rm : RM Reg) (s : State) : Host.Outcome State Fault Refusal :=
  instr (aluRmv .adc (.reg r) rm) s

/-- ADC AL,imm8: 14 ib (R203). -/
def execAdcAlImm8 (imm : Byte) (s : State) : Host.Outcome State Fault Refusal := instr (aluImm8 .adc (.reg .al) imm) s

/-- ADC AX/EAX,imm16/32: 15 iw/id (R203). -/
def execAdcEaxImmv (imm : DWord) (s : State) : Host.Outcome State Fault Refusal :=
  instr (aluImmv .adc (.reg .eax) imm) s

/-- ADC r/m8,imm8: 80 /2 ib (R203). -/
def execAdcRm8Imm8 (rm : RM Reg8) (imm : Byte) (s : State) : Host.Outcome State Fault Refusal :=
  instr (aluImm8 .adc rm imm) s

/-- ADC r/m16/32,imm16/32 or imm8 sign-extended: 81 /2 iw/id, 83 /2 ib (R203). -/
def execAdcRmvImm (rm : RM Reg) (imm : Imm) (s : State) : Host.Outcome State Fault Refusal :=
  instr (aluImmv .adc rm (immValue imm)) s

/-- SBB r/m8,r8: 18 /r (R205). -/
def execSbbRm8R8 (rm : RM Reg8) (r : Reg8) (s : State) : Host.Outcome State Fault Refusal :=
  instr (aluRm8 .sbb rm (.reg r)) s

/-- SBB r/m16/32,r16/32: 19 /r (R205). -/
def execSbbRmvRv (rm : RM Reg) (r : Reg) (s : State) : Host.Outcome State Fault Refusal :=
  instr (aluRmv .sbb rm (.reg r)) s

/-- SBB r8,r/m8: 1A /r (R205). -/
def execSbbR8Rm8 (r : Reg8) (rm : RM Reg8) (s : State) : Host.Outcome State Fault Refusal :=
  instr (aluRm8 .sbb (.reg r) rm) s

/-- SBB r16/32,r/m16/32: 1B /r (R205). -/
def execSbbRvRmv (r : Reg) (rm : RM Reg) (s : State) : Host.Outcome State Fault Refusal :=
  instr (aluRmv .sbb (.reg r) rm) s

/-- SBB AL,imm8: 1C ib (R205). -/
def execSbbAlImm8 (imm : Byte) (s : State) : Host.Outcome State Fault Refusal := instr (aluImm8 .sbb (.reg .al) imm) s

/-- SBB AX/EAX,imm16/32: 1D iw/id (R205). -/
def execSbbEaxImmv (imm : DWord) (s : State) : Host.Outcome State Fault Refusal :=
  instr (aluImmv .sbb (.reg .eax) imm) s

/-- SBB r/m8,imm8: 80 /3 ib (R205). -/
def execSbbRm8Imm8 (rm : RM Reg8) (imm : Byte) (s : State) : Host.Outcome State Fault Refusal :=
  instr (aluImm8 .sbb rm imm) s

/-- SBB r/m16/32,imm16/32 or imm8 sign-extended: 81 /3 iw/id, 83 /3 ib (R205). -/
def execSbbRmvImm (rm : RM Reg) (imm : Imm) (s : State) : Host.Outcome State Fault Refusal :=
  instr (aluImmv .sbb rm (immValue imm)) s

/-- AND r/m8,r8: 20 /r (R210). -/
def execAndRm8R8 (rm : RM Reg8) (r : Reg8) (s : State) : Host.Outcome State Fault Refusal :=
  instr (aluRm8 .and rm (.reg r)) s

/-- AND r/m16/32,r16/32: 21 /r (R210). -/
def execAndRmvRv (rm : RM Reg) (r : Reg) (s : State) : Host.Outcome State Fault Refusal :=
  instr (aluRmv .and rm (.reg r)) s

/-- AND r8,r/m8: 22 /r (R210). -/
def execAndR8Rm8 (r : Reg8) (rm : RM Reg8) (s : State) : Host.Outcome State Fault Refusal :=
  instr (aluRm8 .and (.reg r) rm) s

/-- AND r16/32,r/m16/32: 23 /r (R210). -/
def execAndRvRmv (r : Reg) (rm : RM Reg) (s : State) : Host.Outcome State Fault Refusal :=
  instr (aluRmv .and (.reg r) rm) s

/-- AND AL,imm8: 24 ib (R210). -/
def execAndAlImm8 (imm : Byte) (s : State) : Host.Outcome State Fault Refusal := instr (aluImm8 .and (.reg .al) imm) s

/-- AND AX/EAX,imm16/32: 25 iw/id (R210). -/
def execAndEaxImmv (imm : DWord) (s : State) : Host.Outcome State Fault Refusal :=
  instr (aluImmv .and (.reg .eax) imm) s

/-- AND r/m8,imm8: 80 /4 ib (R210). -/
def execAndRm8Imm8 (rm : RM Reg8) (imm : Byte) (s : State) : Host.Outcome State Fault Refusal :=
  instr (aluImm8 .and rm imm) s

/-- AND r/m16/32,imm16/32 or imm8 sign-extended: 81 /4 iw/id, 83 /4 ib (R210). -/
def execAndRmvImm (rm : RM Reg) (imm : Imm) (s : State) : Host.Outcome State Fault Refusal :=
  instr (aluImmv .and rm (immValue imm)) s

/-- SUB r/m8,r8: 28 /r (R204). -/
def execSubRm8R8 (rm : RM Reg8) (r : Reg8) (s : State) : Host.Outcome State Fault Refusal :=
  instr (aluRm8 .sub rm (.reg r)) s

/-- SUB r/m16/32,r16/32: 29 /r (R204). -/
def execSubRmvRv (rm : RM Reg) (r : Reg) (s : State) : Host.Outcome State Fault Refusal :=
  instr (aluRmv .sub rm (.reg r)) s

/-- SUB r8,r/m8: 2A /r (R204). -/
def execSubR8Rm8 (r : Reg8) (rm : RM Reg8) (s : State) : Host.Outcome State Fault Refusal :=
  instr (aluRm8 .sub (.reg r) rm) s

/-- SUB r16/32,r/m16/32: 2B /r (R204). -/
def execSubRvRmv (r : Reg) (rm : RM Reg) (s : State) : Host.Outcome State Fault Refusal :=
  instr (aluRmv .sub (.reg r) rm) s

/-- SUB AL,imm8: 2C ib (R204). -/
def execSubAlImm8 (imm : Byte) (s : State) : Host.Outcome State Fault Refusal := instr (aluImm8 .sub (.reg .al) imm) s

/-- SUB AX/EAX,imm16/32: 2D iw/id (R204). -/
def execSubEaxImmv (imm : DWord) (s : State) : Host.Outcome State Fault Refusal :=
  instr (aluImmv .sub (.reg .eax) imm) s

/-- SUB r/m8,imm8: 80 /5 ib (R204). -/
def execSubRm8Imm8 (rm : RM Reg8) (imm : Byte) (s : State) : Host.Outcome State Fault Refusal :=
  instr (aluImm8 .sub rm imm) s

/-- SUB r/m16/32,imm16/32 or imm8 sign-extended: 81 /5 iw/id, 83 /5 ib (R204). -/
def execSubRmvImm (rm : RM Reg) (imm : Imm) (s : State) : Host.Outcome State Fault Refusal :=
  instr (aluImmv .sub rm (immValue imm)) s

/-- XOR r/m8,r8: 30 /r (R212). -/
def execXorRm8R8 (rm : RM Reg8) (r : Reg8) (s : State) : Host.Outcome State Fault Refusal :=
  instr (aluRm8 .xor rm (.reg r)) s

/-- XOR r/m16/32,r16/32: 31 /r (R212). -/
def execXorRmvRv (rm : RM Reg) (r : Reg) (s : State) : Host.Outcome State Fault Refusal :=
  instr (aluRmv .xor rm (.reg r)) s

/-- XOR r8,r/m8: 32 /r (R212). -/
def execXorR8Rm8 (r : Reg8) (rm : RM Reg8) (s : State) : Host.Outcome State Fault Refusal :=
  instr (aluRm8 .xor (.reg r) rm) s

/-- XOR r16/32,r/m16/32: 33 /r (R212). -/
def execXorRvRmv (r : Reg) (rm : RM Reg) (s : State) : Host.Outcome State Fault Refusal :=
  instr (aluRmv .xor (.reg r) rm) s

/-- XOR AL,imm8: 34 ib (R212). -/
def execXorAlImm8 (imm : Byte) (s : State) : Host.Outcome State Fault Refusal := instr (aluImm8 .xor (.reg .al) imm) s

/-- XOR AX/EAX,imm16/32: 35 iw/id (R212). -/
def execXorEaxImmv (imm : DWord) (s : State) : Host.Outcome State Fault Refusal :=
  instr (aluImmv .xor (.reg .eax) imm) s

/-- XOR r/m8,imm8: 80 /6 ib (R212). -/
def execXorRm8Imm8 (rm : RM Reg8) (imm : Byte) (s : State) : Host.Outcome State Fault Refusal :=
  instr (aluImm8 .xor rm imm) s

/-- XOR r/m16/32,imm16/32 or imm8 sign-extended: 81 /6 iw/id, 83 /6 ib (R212). -/
def execXorRmvImm (rm : RM Reg) (imm : Imm) (s : State) : Host.Outcome State Fault Refusal :=
  instr (aluImmv .xor rm (immValue imm)) s

/-- CMP r/m8,r8: 38 /r (R206). -/
def execCmpRm8R8 (rm : RM Reg8) (r : Reg8) (s : State) : Host.Outcome State Fault Refusal :=
  instr (aluRm8 .cmp rm (.reg r)) s

/-- CMP r/m16/32,r16/32: 39 /r (R206). -/
def execCmpRmvRv (rm : RM Reg) (r : Reg) (s : State) : Host.Outcome State Fault Refusal :=
  instr (aluRmv .cmp rm (.reg r)) s

/-- CMP r8,r/m8: 3A /r (R206). -/
def execCmpR8Rm8 (r : Reg8) (rm : RM Reg8) (s : State) : Host.Outcome State Fault Refusal :=
  instr (aluRm8 .cmp (.reg r) rm) s

/-- CMP r16/32,r/m16/32: 3B /r (R206). -/
def execCmpRvRmv (r : Reg) (rm : RM Reg) (s : State) : Host.Outcome State Fault Refusal :=
  instr (aluRmv .cmp (.reg r) rm) s

/-- CMP AL,imm8: 3C ib (R206). -/
def execCmpAlImm8 (imm : Byte) (s : State) : Host.Outcome State Fault Refusal := instr (aluImm8 .cmp (.reg .al) imm) s

/-- CMP AX/EAX,imm16/32: 3D iw/id (R206). -/
def execCmpEaxImmv (imm : DWord) (s : State) : Host.Outcome State Fault Refusal :=
  instr (aluImmv .cmp (.reg .eax) imm) s

/-- CMP r/m8,imm8: 80 /7 ib (R206). -/
def execCmpRm8Imm8 (rm : RM Reg8) (imm : Byte) (s : State) : Host.Outcome State Fault Refusal :=
  instr (aluImm8 .cmp rm imm) s

/-- CMP r/m16/32,imm16/32 or imm8 sign-extended: 81 /7 iw/id, 83 /7 ib (R206). -/
def execCmpRmvImm (rm : RM Reg) (imm : Imm) (s : State) : Host.Outcome State Fault Refusal :=
  instr (aluImmv .cmp rm (immValue imm)) s

/-- INC r16/32: 40+rw/rd (R207). -/
def execIncRv (r : Reg) (s : State) : Host.Outcome State Fault Refusal := instr (incDecV .inc (.reg r)) s

/-- DEC r16/32: 48+rw/rd (R208). -/
def execDecRv (r : Reg) (s : State) : Host.Outcome State Fault Refusal := instr (incDecV .dec (.reg r)) s

/-- TEST r/m8,r8: 84 /r (R213). -/
def execTestRm8R8 (rm : RM Reg8) (r : Reg8) (s : State) : Host.Outcome State Fault Refusal :=
  instr (aluRm8 .test rm (.reg r)) s

/-- TEST r/m16/32,r16/32: 85 /r (R213). -/
def execTestRmvRv (rm : RM Reg) (r : Reg) (s : State) : Host.Outcome State Fault Refusal :=
  instr (aluRmv .test rm (.reg r)) s

/-- TEST AL,imm8: A8 ib (R213). -/
def execTestAlImm8 (imm : Byte) (s : State) : Host.Outcome State Fault Refusal :=
  instr (aluImm8 .test (.reg .al) imm) s

/-- TEST AX/EAX,imm16/32: A9 iw/id (R213). -/
def execTestEaxImmv (imm : DWord) (s : State) : Host.Outcome State Fault Refusal :=
  instr (aluImmv .test (.reg .eax) imm) s

/-- TEST r/m8,imm8: F6 /0 ib (R213). -/
def execTestRm8Imm8 (rm : RM Reg8) (imm : Byte) (s : State) : Host.Outcome State Fault Refusal :=
  instr (aluImm8 .test rm imm) s

/-- TEST r/m16/32,imm16/32: F7 /0 iw/id (R213). -/
def execTestRmvImmv (rm : RM Reg) (imm : DWord) (s : State) : Host.Outcome State Fault Refusal :=
  instr (aluImmv .test rm imm) s

/-- NOT r/m8: F6 /2 (R214). -/
def execNotRm8 (rm : RM Reg8) (s : State) : Host.Outcome State Fault Refusal := instr (not8 rm) s

/-- NOT r/m16/32: F7 /2 (R214). -/
def execNotRmv (rm : RM Reg) (s : State) : Host.Outcome State Fault Refusal := instr (notV rm) s

/-- NEG r/m8: F6 /3 (R209). -/
def execNegRm8 (rm : RM Reg8) (s : State) : Host.Outcome State Fault Refusal := instr (neg8 rm) s

/-- NEG r/m16/32: F7 /3 (R209). -/
def execNegRmv (rm : RM Reg) (s : State) : Host.Outcome State Fault Refusal := instr (negV rm) s

/-- INC r/m8: FE /0 (R207). -/
def execIncRm8 (rm : RM Reg8) (s : State) : Host.Outcome State Fault Refusal := instr (incDec8 .inc rm) s

/-- DEC r/m8: FE /1 (R208). -/
def execDecRm8 (rm : RM Reg8) (s : State) : Host.Outcome State Fault Refusal := instr (incDec8 .dec rm) s

/-- INC r/m16/32: FF /0 (R207). -/
def execIncRmv (rm : RM Reg) (s : State) : Host.Outcome State Fault Refusal := instr (incDecV .inc rm) s

/-- DEC r/m16/32: FF /1 (R208). -/
def execDecRmv (rm : RM Reg) (s : State) : Host.Outcome State Fault Refusal := instr (incDecV .dec rm) s

/-- DAA: 27 (R221). -/
def execDaa (s : State) : Host.Outcome State Fault Refusal := instr (daa) s

/-- DAS: 2F (R222). -/
def execDas (s : State) : Host.Outcome State Fault Refusal := instr (das) s

/-- AAA: 37 (R217). -/
def execAaa (s : State) : Host.Outcome State Fault Refusal := instr (aaa) s

/-- AAS: 3F (R218). -/
def execAas (s : State) : Host.Outcome State Fault Refusal := instr (aas) s

/-- CBW/CWDE: 98 (R215). -/
def execCbw (s : State) : Host.Outcome State Fault Refusal := instr (convertAcc) s

/-- CWD/CDQ: 99 (R216). -/
def execCwd (s : State) : Host.Outcome State Fault Refusal := instr (convertDouble) s

/-- AAM: D4 0A (R220). -/
def execAam (s : State) : Host.Outcome State Fault Refusal := instr (aam) s

/-- AAD: D5 0A (R219). -/
def execAad (s : State) : Host.Outcome State Fault Refusal := instr (aad) s

end Sys2Proof.Machine
end

