-- ==== Sys2Proof/Machine/DataMove.lean ====
section
/-!
DEFINITION. Data movement, stack, flag-control, port and miscellaneous instructions (42_data_movement.md): the shared
operations of the family, then one meaning for each of its instructions.
-/
namespace Sys2Proof.Machine

/-! ### MOV and its extensions (R302 to R315) -/

/-- MOV between byte operands (R302). -/
def movRm8 (dst src : RM Reg8) : Op Unit := do
  let s ← query id
  let v ← readLoc .byte (loc8 s src)
  writeLoc .byte v (loc8 s dst)

/-- MOV between operands of operand size (R302). -/
def movRmv (dst src : RM Reg) : Op Unit := do
  let s ← query id
  let v ← readLoc s.osz.size (locV s src)
  writeLoc s.osz.size v (locV s dst)

/-- MOV of an immediate byte (R302). -/
def movImm8 (dst : RM Reg8) (imm : Byte) : Op Unit := do
  let s ← query id
  writeLoc .byte (imm.setWidth 32) (loc8 s dst)

/-- MOV of an immediate of operand size (R302). -/
def movImmv (dst : RM Reg) (imm : DWord) : Op Unit := do
  let s ← query id
  writeLoc s.osz.size imm (locV s dst)

/-- MOV of the accumulator from a moffs operand (R162, R302). -/
def movFromMoffs (sz : Size) (off : DWord) : Op Unit := do
  let s ← query id
  let v ← memRead (s.segOr .ds) off sz.bytes
  update fun s => s.setAcc sz v

/-- MOV of the accumulator to a moffs operand (R162, R302). -/
def movToMoffs (sz : Size) (off : DWord) : Op Unit := do
  let s ← query id
  memWrite (s.segOr .ds) off sz.bytes (s.acc sz)

/-- An operation that needs the operand size. -/
def withOsz (f : Size → Op Unit) : Op Unit := do
  let s ← query id
  f s.osz.size

/-- MOV r/m16,Sreg: a 32-bit register gets an undefined upper half (R303, U13). -/
def movFromSeg (rm : RM Reg) (sr : SReg) : Op Unit := do
  let s ← query id
  match rm, s.osz with
  | .reg r, .w32 => do
    let u ← drawUndef
    update fun s => s.setReg r (setLow16 u (s.selD sr))
  | _, _ => writeLoc .word (s.selD sr) (locV s rm)

/-- The interrupt shadow after SS is loaded by MOV or POP (R52, R304, R323). -/
def shadowAfter (sr : SReg) : Op Unit :=
  if sr = .ss then update fun s => { s with inhibit := .all } else pure ()

/-- MOV Sreg,r/m16 (R304). -/
def movToSeg (sr : SReg) (rm : RM Reg) : Op Unit := do
  let s ← query id
  let v ← readLoc .word (locV s rm)
  loadSeg sr (v.setWidth 16)
  shadowAfter sr

/-- MOVSX and MOVZX from an operand of a size (R305, R306). -/
def moveExtended (signed : Bool) (src : Size) (r : Reg) (loc : Loc) : Op Unit := do
  let v ← readLoc src loc
  let s ← query id
  update fun s' => s'.setRegS s.osz.size r (if signed then signExtendFrom src v else v)

/-- MOVSX or MOVZX from a byte. -/
def extend8 (signed : Bool) (r : Reg) (rm : RM Reg8) : Op Unit := do
  let s ← query id
  moveExtended signed .byte r (loc8 s rm)

/-- MOVSX or MOVZX from a word. -/
def extend16 (signed : Bool) (r : Reg) (rm : RM Reg) : Op Unit := do
  let s ← query id
  moveExtended signed .word r (locV s rm)

/-- XCHG of byte operands (R307). -/
def xchg8 (rm : RM Reg8) (r : Reg8) : Op Unit := do
  let s ← query id
  let t ← readLoc .byte (loc8 s rm)
  writeLoc .byte ((s.reg8 r).setWidth 32) (loc8 s rm)
  update fun s => s.setReg8 r (t.setWidth 8)

/-- XCHG of operands of operand size (R307). -/
def xchgV (rm : RM Reg) (r : Reg) : Op Unit := do
  let s ← query id
  let sz := s.osz.size
  let t ← readLoc sz (locV s rm)
  writeLoc sz (s.regS sz r) (locV s rm)
  update fun s => s.setRegS sz r t

/-- XLAT (R308). -/
def tableLookup : Op Unit := do
  let s ← query id
  let v ← memRead (s.segOr .ds) (truncTo s.asz (s.gpr.ebx + (s.reg8 .al).setWidth 32)) 1
  update fun s => s.setReg8 .al (v.setWidth 8)

/-- LEA: the offset, cut or zero-extended to the operand size (R309). -/
def loadAddress (r : Reg) (m : EA) : Op Unit := update fun s => s.setRegS s.osz.size r (effectiveOffset s m)

/-- A far pointer in memory: the offset of operand size, then the selector; the whole operand is checked first (R81, R402). -/
def readFarPointer (m : EA) : Op (DWord × Word) := do
  let s ← query id
  let seg := s.segOr (defaultSegment m)
  let ea := effectiveOffset s m
  let w := s.osz.bytes
  checkSeg seg ea (w + 2) .read
  let off ← memRead seg ea w
  let sel ← memRead seg (ea + BitVec.ofNat 32 w) 2
  pure (off, sel.setWidth 16)

/-- LDS, LES, LFS, LGS, LSS (R310). -/
def loadPointer (sr : SReg) (r : Reg) (m : EA) : Op Unit := do
  let s ← query id
  let p ← readFarPointer m
  loadSeg sr p.2
  update fun s' => s'.setRegS s.osz.size r p.1

/-! ### The stack (R320 to R332) -/

/-- PUSH of a register (R320). -/
def pushReg (r : Reg) : Op Unit := do
  let s ← query id
  push s.osz (s.reg r)

/-- PUSH of an immediate extended to 32 bits (R320). -/
def pushImm (imm : DWord) : Op Unit := do
  let s ← query id
  push s.osz imm

/-- PUSH of an r/m operand (R320). -/
def pushRm (rm : RM Reg) : Op Unit := do
  let s ← query id
  let v ← readLoc s.osz.size (locV s rm)
  push s.osz v

/-- PUSH of a segment register: a 32-bit push has an undefined upper half (R321, U14). -/
def pushSeg (sr : SReg) : Op Unit := do
  let s ← query id
  match s.osz with
  | .w16 => push .w16 (s.selD sr)
  | .w32 => do
    let u ← drawUndef
    push .w32 (setLow16 u (s.selD sr))

/-- POP into an r/m operand; an address that uses (E)SP sees it incremented (R322). -/
def popRm (rm : RM Reg) : Op Unit := do
  let s ← query id
  let v ← pop s.osz
  let s' ← query id
  writeLoc s.osz.size v (locV s' rm)

/-- POP into a segment register (R323). -/
def popSeg (sr : SReg) : Op Unit := do
  let s ← query id
  let v ← pop s.osz
  loadSeg sr (v.setWidth 16)
  shadowAfter sr

/-- PUSHA and PUSHAD; outside protected mode the room for all eight is checked first, as interrupt 13 (R324). -/
def pushAll : Op Unit := do
  let s ← query id
  raiseIf (s.mode != .prot && !s.hasRoom s.osz.bytes 8) (Exc.gp 0)
  pushAllOf s.osz
    [s.gpr.eax, s.gpr.ecx, s.gpr.edx, s.gpr.ebx, s.gpr.esp, s.gpr.ebp, s.gpr.esi, s.gpr.edi]

/-- Pop into a register of a width. -/
def popInto (w : Width) (r : Reg) : Op Unit := do
  let v ← pop w
  update fun s => s.setRegW w r v

/-- POPA and POPAD: all eight pops are checked first, and the image of (E)SP is discarded (R325). -/
def popAll : Op Unit := do
  let s ← query id
  let w := s.osz
  checkPops w.bytes 8
  popInto w .edi
  popInto w .esi
  popInto w .ebp
  let _ ← pop w
  popInto w .ebx
  popInto w .edx
  popInto w .ecx
  popInto w .eax

/-- PUSHF and PUSHFD (R326). -/
def pushFlags : Op Unit := do
  checkV86Iopl
  let s ← query id
  push s.osz s.flags.image

/-- POPF and POPFD (R327). -/
def popFlags : Op Unit := do
  checkV86Iopl
  let s ← query id
  let v ← pop s.osz
  updateFlags fun f => f.load s.pe s.cpl v

/-- LAHF (R328). -/
def flagsToAh : Op Unit := update fun s => s.setReg8 .ah (s.flags.image.setWidth 8)

/-- SAHF (R329). -/
def ahToFlags : Op Unit := update fun s =>
  let v := s.reg8 .ah
  { s with flags := { s.flags with sf := v.getLsbD 7, zf := v.getLsbD 6, af := v.getLsbD 4, pf := v.getLsbD 2,
                                   cf := v.getLsbD 0 } }

/-- The frame pointers that ENTER copies from the outer frames (R330). -/
def copyFrames (w : Width) : Nat → Op Unit
  | 0 => pure ()
  | n + 1 => do
    update fun s => s.setRegW w .ebp (s.reg .ebp - BitVec.ofNat 32 w.bytes)
    let s ← query id
    let v ← memRead .ss (s.regW w .ebp) w.bytes
    push w v
    copyFrames w n

/-- ENTER (R330). -/
def enterFrame (n : Word) (levelByte : Byte) : Op Unit := do
  let s ← query id
  let w := s.osz
  let level := levelByte.toNat % 32
  push w (s.reg .ebp)
  let frame ← query State.sp
  if level = 0 then pure ()
  else do
    copyFrames w (level - 1)
    push w frame
  update fun s => s.setRegW w .ebp frame
  update fun s => s.setSp (s.sp - n.setWidth 32)

/-- LEAVE (R331). -/
def leaveFrame : Op Unit := do
  let s ← query id
  update fun s => s.setSp (s.reg .ebp)
  popInto s.osz .ebp

/-- BOUND: interrupt 5 when the index is outside the two signed bounds in memory (R332). -/
def boundCheck (r : Reg) (m : EA) : Op Unit := do
  let s ← query id
  let sz := s.osz.size
  let seg := s.segOr (defaultSegment m)
  let ea := effectiveOffset s m
  checkSeg seg ea (2 * sz.bytes) .read
  let lo ← memRead seg ea sz.bytes
  let hi ← memRead seg (ea + BitVec.ofNat 32 sz.bytes) sz.bytes
  let i := toSigned sz (s.reg r)
  raiseIf (decide (i < toSigned sz lo) || decide (toSigned sz hi < i)) (Exc.plain 5)

/-! ### Port I/O (R340, R341) -/

/-- IN (R340). -/
def inPort (port : Word) (sz : Size) : Op Unit := do
  checkIo port sz
  let v ← ioRead port sz
  update fun s => s.setAcc sz v

/-- OUT (R341). -/
def outPort (port : Word) (sz : Size) : Op Unit := do
  checkIo port sz
  let s ← query id
  ioWrite port sz (s.acc sz)

/-- The port number in DX (R84). -/
def State.dx (s : State) : Word := s.gpr.edx.setWidth 16

/-- An operation on the port in DX. -/
def onDx (f : Word → Op Unit) : Op Unit := do
  let s ← query id
  f s.dx

/-! ### Flag control and the rest (R350 to R364) -/

/-- The privilege test of CLI and STI (R355, R356). -/
def checkIopl : Op Unit := do
  let s ← query id
  raiseIf (s.pe && decide (s.flags.iopl < s.cpl)) (Exc.gp 0)

/-- CLI (R355). -/
def clearInterrupt : Op Unit := do
  checkIopl
  updateFlags fun f => { f with ifl := false }

/-- STI: the shadow falls only when IF was 0 (R356, D30). -/
def setInterrupt : Op Unit := do
  checkIopl
  update fun s =>
    { s with inhibit := if s.flags.ifl then s.inhibit else .intr
             flags := { s.flags with ifl := true } }

/-- The test of the privileged instructions: level 0 in protected and V86 mode (R450 class B, R361). -/
def checkPrivileged : Op Unit := do
  let s ← query id
  raiseIf (s.pe && s.cpl != 0) (Exc.gp 0)

/-- HLT (R361). -/
def halt : Op Unit := do
  checkPrivileged
  update fun s => { s with run := .halted }

/-- WAIT. While BUSY# is active the machine waits at the WAIT itself (R364, R537, D25). -/
def waitCoprocessor : Op Unit := do
  let s ← query id
  raiseIf (s.mp && s.ts) Exc.nm
  raiseIf s.pins.error Exc.mf
  if s.pins.busy then update fun s => { s with run := .waiting s.eip, eip := s.insnStart } else pure ()

/-! ### The meanings -/

/-- PUSH r16/32: 50+rw/rd (R320). -/
def execPushRv (r : Reg) (s : State) : Host.Outcome State Fault Refusal := instr (pushReg r) s

/-- POP r16/32: 58+rw/rd (R322). -/
def execPopRv (r : Reg) (s : State) : Host.Outcome State Fault Refusal := instr (popRm (.reg r)) s

/-- BOUND r16/32,m16&16/m32&32: 62 /r (R332). -/
def execBound (r : Reg) (m : EA) (s : State) : Host.Outcome State Fault Refusal := instr (boundCheck r m) s

/-- PUSH imm16/32: 68 iw/id (R320). -/
def execPushImmv (imm : DWord) (s : State) : Host.Outcome State Fault Refusal := instr (pushImm imm) s

/-- PUSH imm8 (sign-extended): 6A ib (R320). -/
def execPushImm8 (imm : Byte) (s : State) : Host.Outcome State Fault Refusal := instr (pushImm (imm.signExtend 32)) s

/-- XCHG r/m8,r8: 86 /r (R307). -/
def execXchgRm8R8 (rm : RM Reg8) (r : Reg8) (s : State) : Host.Outcome State Fault Refusal := instr (xchg8 rm r) s

/-- XCHG r/m16/32,r16/32: 87 /r (R307). -/
def execXchgRmvRv (rm : RM Reg) (r : Reg) (s : State) : Host.Outcome State Fault Refusal := instr (xchgV rm r) s

/-- MOV r/m8,r8: 88 /r (R302). -/
def execMovRm8R8 (rm : RM Reg8) (r : Reg8) (s : State) : Host.Outcome State Fault Refusal :=
  instr (movRm8 rm (.reg r)) s

/-- MOV r/m16/32,r16/32: 89 /r (R302). -/
def execMovRmvRv (rm : RM Reg) (r : Reg) (s : State) : Host.Outcome State Fault Refusal := instr (movRmv rm (.reg r)) s

/-- MOV r8,r/m8: 8A /r (R302). -/
def execMovR8Rm8 (r : Reg8) (rm : RM Reg8) (s : State) : Host.Outcome State Fault Refusal :=
  instr (movRm8 (.reg r) rm) s

/-- MOV r16/32,r/m16/32: 8B /r (R302). -/
def execMovRvRmv (r : Reg) (rm : RM Reg) (s : State) : Host.Outcome State Fault Refusal := instr (movRmv (.reg r) rm) s

/-- MOV r/m16,Sreg: 8C /r (R303). -/
def execMovRmvSreg (rm : RM Reg) (sr : SReg) (s : State) : Host.Outcome State Fault Refusal :=
  instr (movFromSeg rm sr) s

/-- LEA r16/32,m: 8D /r (R309). -/
def execLea (r : Reg) (m : EA) (s : State) : Host.Outcome State Fault Refusal := instr (loadAddress r m) s

/-- MOV Sreg,r/m16: 8E /r (R304). -/
def execMovSregRm16 (sr : SReg) (rm : RM Reg) (s : State) : Host.Outcome State Fault Refusal :=
  instr (movToSeg sr rm) s

/-- POP m16/32: 8F /0 (R322). -/
def execPopRmv (rm : RM Reg) (s : State) : Host.Outcome State Fault Refusal := instr (popRm rm) s

/-- XCHG AX/EAX,r16/32: 90+rw/rd (R307). -/
def execXchgEaxRv (r : Reg) (s : State) : Host.Outcome State Fault Refusal := instr (xchgV (.reg r) .eax) s

/-- MOV AL,moffs8: A0 moffs (R302). -/
def execMovAlMoffs (off : DWord) (s : State) : Host.Outcome State Fault Refusal := instr (movFromMoffs .byte off) s

/-- MOV AX/EAX,moffs16/32: A1 moffs (R302). -/
def execMovEaxMoffs (off : DWord) (s : State) : Host.Outcome State Fault Refusal :=
  instr (withOsz fun sz => movFromMoffs sz off) s

/-- MOV moffs8,AL: A2 moffs (R302). -/
def execMovMoffsAl (off : DWord) (s : State) : Host.Outcome State Fault Refusal := instr (movToMoffs .byte off) s

/-- MOV moffs16/32,AX/EAX: A3 moffs (R302). -/
def execMovMoffsEax (off : DWord) (s : State) : Host.Outcome State Fault Refusal :=
  instr (withOsz fun sz => movToMoffs sz off) s

/-- MOV r8,imm8: B0+rb ib (R302). -/
def execMovR8Imm8 (r : Reg8) (imm : Byte) (s : State) : Host.Outcome State Fault Refusal :=
  instr (movImm8 (.reg r) imm) s

/-- MOV r16/32,imm16/32: B8+rw/rd iw/id (R302). -/
def execMovRvImmv (r : Reg) (imm : DWord) (s : State) : Host.Outcome State Fault Refusal :=
  instr (movImmv (.reg r) imm) s

/-- LES r16/32,m16:16/m16:32: C4 /r (R312). -/
def execLes (r : Reg) (m : EA) (s : State) : Host.Outcome State Fault Refusal := instr (loadPointer .es r m) s

/-- LDS r16/32,m16:16/m16:32: C5 /r (R311). -/
def execLds (r : Reg) (m : EA) (s : State) : Host.Outcome State Fault Refusal := instr (loadPointer .ds r m) s

/-- MOV r/m8,imm8: C6 /0 ib (R302). -/
def execMovRm8Imm8 (rm : RM Reg8) (imm : Byte) (s : State) : Host.Outcome State Fault Refusal :=
  instr (movImm8 rm imm) s

/-- MOV r/m16/32,imm16/32: C7 /0 iw/id (R302). -/
def execMovRmvImmv (rm : RM Reg) (imm : DWord) (s : State) : Host.Outcome State Fault Refusal :=
  instr (movImmv rm imm) s

/-- ENTER imm16,imm8: C8 iw ib (R330). -/
def execEnter (n : Word) (level : Byte) (s : State) : Host.Outcome State Fault Refusal := instr (enterFrame n level) s

/-- IN AL,imm8: E4 ib (R340). -/
def execInAlImm8 (port : Byte) (s : State) : Host.Outcome State Fault Refusal :=
  instr (inPort (port.setWidth 16) .byte) s

/-- IN AX/EAX,imm8: E5 ib (R340). -/
def execInEaxImm8 (port : Byte) (s : State) : Host.Outcome State Fault Refusal :=
  instr (withOsz fun sz => inPort (port.setWidth 16) sz) s

/-- OUT imm8,AL: E6 ib (R341). -/
def execOutImm8Al (port : Byte) (s : State) : Host.Outcome State Fault Refusal :=
  instr (outPort (port.setWidth 16) .byte) s

/-- OUT imm8,AX/EAX: E7 ib (R341). -/
def execOutImm8Eax (port : Byte) (s : State) : Host.Outcome State Fault Refusal :=
  instr (withOsz fun sz => outPort (port.setWidth 16) sz) s

/-- PUSH m16/32: FF /6 (R320). -/
def execPushRmv (rm : RM Reg) (s : State) : Host.Outcome State Fault Refusal := instr (pushRm rm) s

/-- LSS r16/32,m16:16/m16:32: 0F B2 /r (R315). -/
def execLss (r : Reg) (m : EA) (s : State) : Host.Outcome State Fault Refusal := instr (loadPointer .ss r m) s

/-- LFS r16/32,m16:16/m16:32: 0F B4 /r (R313). -/
def execLfs (r : Reg) (m : EA) (s : State) : Host.Outcome State Fault Refusal := instr (loadPointer .fs r m) s

/-- LGS r16/32,m16:16/m16:32: 0F B5 /r (R314). -/
def execLgs (r : Reg) (m : EA) (s : State) : Host.Outcome State Fault Refusal := instr (loadPointer .gs r m) s

/-- MOVZX r16/32,r/m8: 0F B6 /r (R306). -/
def execMovzxRvRm8 (r : Reg) (rm : RM Reg8) (s : State) : Host.Outcome State Fault Refusal :=
  instr (extend8 false r rm) s

/-- MOVZX r32,r/m16: 0F B7 /r (R306). -/
def execMovzxRdRm16 (r : Reg) (rm : RM Reg) (s : State) : Host.Outcome State Fault Refusal :=
  instr (extend16 false r rm) s

/-- MOVSX r16/32,r/m8: 0F BE /r (R305). -/
def execMovsxRvRm8 (r : Reg) (rm : RM Reg8) (s : State) : Host.Outcome State Fault Refusal :=
  instr (extend8 true r rm) s

/-- MOVSX r32,r/m16: 0F BF /r (R305). -/
def execMovsxRdRm16 (r : Reg) (rm : RM Reg) (s : State) : Host.Outcome State Fault Refusal :=
  instr (extend16 true r rm) s

/-- PUSH ES: 06 (R321). -/
def execPushEs (s : State) : Host.Outcome State Fault Refusal := instr (pushSeg .es) s

/-- POP ES: 07 (R323). -/
def execPopEs (s : State) : Host.Outcome State Fault Refusal := instr (popSeg .es) s

/-- PUSH CS: 0E (R321). -/
def execPushCs (s : State) : Host.Outcome State Fault Refusal := instr (pushSeg .cs) s

/-- PUSH SS: 16 (R321). -/
def execPushSs (s : State) : Host.Outcome State Fault Refusal := instr (pushSeg .ss) s

/-- POP SS: 17 (R323). -/
def execPopSs (s : State) : Host.Outcome State Fault Refusal := instr (popSeg .ss) s

/-- PUSH DS: 1E (R321). -/
def execPushDs (s : State) : Host.Outcome State Fault Refusal := instr (pushSeg .ds) s

/-- POP DS: 1F (R323). -/
def execPopDs (s : State) : Host.Outcome State Fault Refusal := instr (popSeg .ds) s

/-- PUSH FS: 0F A0 (R321). -/
def execPushFs (s : State) : Host.Outcome State Fault Refusal := instr (pushSeg .fs) s

/-- POP FS: 0F A1 (R323). -/
def execPopFs (s : State) : Host.Outcome State Fault Refusal := instr (popSeg .fs) s

/-- PUSH GS: 0F A8 (R321). -/
def execPushGs (s : State) : Host.Outcome State Fault Refusal := instr (pushSeg .gs) s

/-- POP GS: 0F A9 (R323). -/
def execPopGs (s : State) : Host.Outcome State Fault Refusal := instr (popSeg .gs) s

/-- PUSHA/PUSHAD: 60 (R324). -/
def execPusha (s : State) : Host.Outcome State Fault Refusal := instr (pushAll) s

/-- POPA/POPAD: 61 (R325). -/
def execPopa (s : State) : Host.Outcome State Fault Refusal := instr (popAll) s

/-- NOP: 90 (R360). -/
def execNop (s : State) : Host.Outcome State Fault Refusal := instr (pure ()) s

/-- WAIT: 9B (R364). -/
def execWait (s : State) : Host.Outcome State Fault Refusal := instr (waitCoprocessor) s

/-- PUSHF/PUSHFD: 9C (R326). -/
def execPushf (s : State) : Host.Outcome State Fault Refusal := instr (pushFlags) s

/-- POPF/POPFD: 9D (R327). -/
def execPopf (s : State) : Host.Outcome State Fault Refusal := instr (popFlags) s

/-- SAHF: 9E (R329). -/
def execSahf (s : State) : Host.Outcome State Fault Refusal := instr (ahToFlags) s

/-- LAHF: 9F (R328). -/
def execLahf (s : State) : Host.Outcome State Fault Refusal := instr (flagsToAh) s

/-- LEAVE: C9 (R331). -/
def execLeave (s : State) : Host.Outcome State Fault Refusal := instr (leaveFrame) s

/-- XLAT/XLATB: D7 (R308). -/
def execXlat (s : State) : Host.Outcome State Fault Refusal := instr (tableLookup) s

/-- IN AL,DX: EC (R340). -/
def execInAlDx (s : State) : Host.Outcome State Fault Refusal := instr (onDx fun port => inPort port .byte) s

/-- IN AX/EAX,DX: ED (R340). -/
def execInEaxDx (s : State) : Host.Outcome State Fault Refusal :=
  instr (onDx fun port => withOsz fun sz => inPort port sz) s

/-- OUT DX,AL: EE (R341). -/
def execOutDxAl (s : State) : Host.Outcome State Fault Refusal := instr (onDx fun port => outPort port .byte) s

/-- OUT DX,AX/EAX: EF (R341). -/
def execOutDxEax (s : State) : Host.Outcome State Fault Refusal :=
  instr (onDx fun port => withOsz fun sz => outPort port sz) s

/-- HLT: F4 (R361). -/
def execHlt (s : State) : Host.Outcome State Fault Refusal := instr (halt) s

/-- CMC: F5 (R352). -/
def execCmc (s : State) : Host.Outcome State Fault Refusal := instr (updateFlags fun f => { f with cf := !f.cf }) s

/-- CLC: F8 (R350). -/
def execClc (s : State) : Host.Outcome State Fault Refusal := instr (updateFlags fun f => { f with cf := false }) s

/-- STC: F9 (R351). -/
def execStc (s : State) : Host.Outcome State Fault Refusal := instr (updateFlags fun f => { f with cf := true }) s

/-- CLI: FA (R355). -/
def execCli (s : State) : Host.Outcome State Fault Refusal := instr (clearInterrupt) s

/-- STI: FB (R356). -/
def execSti (s : State) : Host.Outcome State Fault Refusal := instr (setInterrupt) s

/-- CLD: FC (R353). -/
def execCld (s : State) : Host.Outcome State Fault Refusal := instr (updateFlags fun f => { f with df := false }) s

/-- STD: FD (R354). -/
def execStd (s : State) : Host.Outcome State Fault Refusal := instr (updateFlags fun f => { f with df := true }) s

end Sys2Proof.Machine
end

