-- ==== Sys2Proof/Machine/Control.lean ====
section
/-!
DEFINITION. Jumps, calls and returns (44_control_transfer.md): the shared operations of the family, then one meaning for each
of its instructions. While a meaning runs, EIP is the offset of the next instruction (R24).
-/
namespace Sys2Proof.Machine

/-! ### Near transfers (R390 to R401) -/

/-- Whether an offset is beyond the code segment, where the transferring instruction checks it: protected mode only (R390). -/
def State.beyondCode (s : State) (t : DWord) : Bool := s.mode == .prot && decide (s.seg.cs.limit.toNat < t.toNat)

/-- `NearBranch(t)` (R390). -/
def nearBranch (t : DWord) : Op Unit := do
  let s ← query id
  let t := truncTo s.osz t
  raiseIf (s.beyondCode t) (Exc.gp 0)
  setEip t

/-- A relative near branch. -/
def jumpRel (rel : DWord) : Op Unit := do
  let s ← query id
  nearBranch (s.eip + rel)

/-- Jcc (R391, R392). -/
def jumpIf (c : Cond) (rel : DWord) : Op Unit := do
  let s ← query id
  if c.holds s.flags then jumpRel rel else pure ()

/-- JCXZ and JECXZ (R393). -/
def jumpIfCxZero (rel : Byte) : Op Unit := do
  let s ← query id
  if s.regW s.asz .ecx = 0 then jumpRel (rel.signExtend 32) else pure ()

/-- What a LOOP tests besides the count (R394 to R396). -/
inductive LoopCond where
  | always | e | ne
deriving DecidableEq, Repr

/-- Whether the flag condition of a LOOP holds. -/
def LoopCond.holds (c : LoopCond) (zf : Bool) : Bool :=
  match c with
  | .always => true
  | .e => zf
  | .ne => !zf

/-- LOOP, LOOPE, LOOPNE (R394 to R396). -/
def loopWhile (c : LoopCond) (rel : Byte) : Op Unit := do
  update fun s => s.setRegW s.asz .ecx (s.reg .ecx - 1)
  let s ← query id
  if s.regW s.asz .ecx != 0 && c.holds s.flags.zf then jumpRel (rel.signExtend 32) else pure ()

/-- JMP r/m (R398). -/
def jumpRm (rm : RM Reg) : Op Unit := do
  let s ← query id
  let t ← readLoc s.osz.size (locV s rm)
  nearBranch t

/-- A near CALL: the push is checked, then the target, then both are done (R399). The first check is that of the stack segment,
as the listing's note names #SS(0) and interrupt 12 only: a page fault of the push comes after the target's #GP(0) (DESIGN
CHOICE, log entry 37). -/
def callNear (t : DWord) : Op Unit := do
  let s ← query id
  let t := truncTo s.osz t
  checkPushes s.osz.bytes 1
  raiseIf (s.beyondCode t) (Exc.gp 0)
  push s.osz s.eip
  setEip t

/-- CALL rel (R399). -/
def callRel (rel : DWord) : Op Unit := do
  let s ← query id
  callNear (s.eip + rel)

/-- CALL r/m: the operand is read before the push (R400). -/
def callRm (rm : RM Reg) : Op Unit := do
  let s ← query id
  let t ← readLoc s.osz.size (locV s rm)
  callNear t

/-- The bytes of parameters that a RET drops: no memory access, no limit check (R401). -/
def dropParams (n : Word) : Op Unit := update fun s => s.setSp (s.sp + n.setWidth 32)

/-- RET near (R401). -/
def returnNear (n : Word) : Op Unit := do
  let s ← query id
  let t ← pop s.osz
  nearBranch t
  dropParams n

/-! ### Far transfers in real-address and V86 mode (R402 to R405) -/

/-- Load CS and EIP as an 8086 does (R403). -/
def enter8086 (sel : Word) (off : DWord) : Op Unit := do
  let s ← query id
  update fun s' => { s'.load8086 .cs sel with eip := truncTo s.osz off }

/-- CALL far outside protected mode; both pushes are checked before either is made (R404). -/
def callFar8086 (sel : Word) (off : DWord) : Op Unit := do
  let s ← query id
  checkPushes s.osz.bytes 2
  pushAllOf s.osz [s.selD .cs, s.eip]
  enter8086 sel off

/-- RET far outside protected mode; both pops are checked first (R405). -/
def returnFar8086 (n : Word) : Op Unit := do
  let s ← query id
  checkPops s.osz.bytes 2
  let off ← pop s.osz
  let sel ← pop s.osz
  enter8086 (sel.setWidth 16) off
  dropParams n

/-! ### Far JMP and CALL in protected mode (R406 to R414) -/

/-- JMP or CALL. -/
inductive Transfer where
  | jmp | call
deriving DecidableEq, Repr

/-- The exception of a task-switching transfer: #GP for JMP, #TS for CALL, as the two listings print (R413, R414). -/
def Transfer.taskExc (k : Transfer) (code : Word) : Exc :=
  match k with
  | .jmp => Exc.gp code
  | .call => Exc.ts code

/-- How a transfer switches tasks: CALL with nesting, JMP without (R413, R414). -/
def Transfer.switchKind : Transfer → SwitchKind
  | .jmp => .jmp
  | .call => .nest

/-- The return address and CS, pushed where the transfer is a CALL, and the new CS:EIP (R407, R410). -/
def transferTo (k : Transfer) (w : Width) (c : Found) (cs : Word) (t : DWord) : Op Unit := do
  let s ← query id
  let frame := [s.selD .cs, s.eip]
  raiseIf (k == .call && !s.hasRoom w.bytes 2) (Exc.ss 0)
  raiseIf (decide (c.desc.limit.toNat < t.toNat)) (Exc.gp 0)
  atomically do
    if k = .call then pushAllOf w frame else pure ()
    installCode c cs s.cpl t

/-- Far JMP or CALL to a code segment (R407). -/
def farToCode (k : Transfer) (d : Found) (sel : Word) (off : DWord) : Op Unit := do
  let s ← query id
  let gp := Exc.gp (selCode sel)
  if d.desc.isConforming then raiseIf (decide (s.cpl < d.desc.dpl)) gp
  else do
    raiseIf (decide (s.cpl < selRpl sel)) gp
    raiseIf (d.desc.dpl != s.cpl) gp
  raiseIf (!d.desc.p) (Exc.np (selCode sel))
  transferTo k s.osz d sel (truncTo s.osz off)

/-- Parameter `i` of a CALL to more privilege, number 0 being on top of the old stack: read from the stack that `old` gives, with
its address size and supervisor privilege (R411, D33). -/
def readParam (old : State) (w : Width) (i : Nat) : Op DWord := do
  let off := old.stackOff (i * w.bytes)
  match segFault old.mode .ss old.seg.ss off w.bytes .read with
  | some e => raiseExc e
  | none => linRead (old.linear .ss off) w.bytes

/-- Copy the parameters below number `n` from the old stack, the last one first: each is read and pushed before the next is read
(R411, D5). -/
def copyParams (old : State) (w : Width) : Nat → Op Unit
  | 0 => pure ()
  | i + 1 => do
    let v ← readParam old w i
    push w v
    copyParams old w i

/-- CALL through a call gate to more privilege (R411). The reads and pushes are made in the listing's order, and a fault of one
of them undoes the pushes and leaves the old stack, CS, SS and CPL in place (DEDUCED, log entry 28). -/
def callInner (g : Desc) (c : Found) (cs : Word) : Op Unit := do
  let s ← query id
  let w := g.gateWidth
  let dpl := c.desc.dpl
  let (ss, sp) ← innerStack dpl
  let f ← checkInnerStack ss dpl (Exc.ts 0)
  let g' := f.desc.toSeg ss
  raiseIf (!stackRoom .prot g' w.bytes (g.gateCount + 4) (spFor g' sp)) (Exc.ss 0)
  raiseIf (decide (c.desc.limit.toNat < g.gateOffset.toNat)) (Exc.gp 0)
  setAccessed f
  atomically do
    update fun s => s.withStack f ss sp dpl
    pushAllOf w [s.selD .ss, s.gpr.esp]
    copyParams s w g.gateCount
    pushAllOf w [s.selD .cs, s.eip]
    installCode c cs dpl g.gateOffset

/-- Far JMP or CALL through a call gate (R408, R409, R410). -/
def farThroughGate (k : Transfer) (g : Desc) (sel : Word) : Op Unit := do
  let s ← query id
  raiseIf (decide (g.dpl < s.cpl)) (Exc.gp (selCode sel))
  raiseIf (decide (g.dpl < selRpl sel)) (Exc.gp (selCode sel))
  raiseIf (!g.p) (Exc.np (selCode sel))
  let cs := g.gateSelector
  let gp := Exc.gp (selCode cs)
  raiseIf (selNull cs) (Exc.gp 0)
  let c ← lookup cs gp
  raiseIf (!c.desc.isCode) gp
  match k with
  | .jmp => do
    raiseIf (!c.desc.isConforming && c.desc.dpl != s.cpl) gp
    raiseIf (c.desc.isConforming && decide (s.cpl < c.desc.dpl)) gp
  | .call => raiseIf (decide (s.cpl < c.desc.dpl)) gp
  raiseIf (!c.desc.p) (Exc.np (selCode cs))
  if k == .call && !c.desc.isConforming && decide (c.desc.dpl < s.cpl) then callInner g c cs
  else transferTo k g.gateWidth c cs g.gateOffset

/-- The switch and the last test of a transfer to a task (R413, R414). -/
def farSwitch (k : Transfer) (f : Found) (ts : Word) : Op Unit := do
  let s ← query id
  switchTasks f ts k.switchKind s.eip
  inNewTask do
    let s ← query id
    raiseIf (decide (s.seg.cs.limit.toNat < s.eip.toNat)) (k.taskExc 0)

/-- Far JMP or CALL through a task gate (R413). -/
def farThroughTaskGate (k : Transfer) (g : Desc) (sel : Word) : Op Unit := do
  let s ← query id
  raiseIf (decide (g.dpl < s.cpl) || decide (g.dpl < selRpl sel)) (k.taskExc (selCode sel))
  raiseIf (!g.p) (Exc.np (selCode sel))
  let ts := g.gateSelector
  let x := k.taskExc (selCode ts)
  let f ← lookupGdt ts x
  raiseIf (!f.desc.isAvailableTss) x
  raiseIf (!f.desc.p) (Exc.np (selCode ts))
  farSwitch k f ts

/-- Far JMP or CALL to a TSS (R414). -/
def farToTss (k : Transfer) (f : Found) (sel : Word) : Op Unit := do
  let s ← query id
  let x := k.taskExc (selCode sel)
  raiseIf (selTi sel) x
  raiseIf (decide (f.desc.dpl < s.cpl) || decide (f.desc.dpl < selRpl sel)) x
  raiseIf (!f.desc.isAvailableTss) x
  raiseIf (!f.desc.p) (Exc.np (selCode sel))
  farSwitch k f sel

/-- Far JMP or CALL in protected mode: the dispatch on the descriptor (R406). -/
def farProt (k : Transfer) (sel : Word) (off : DWord) : Op Unit := do
  let gp := Exc.gp (selCode sel)
  raiseIf (selNull sel) (Exc.gp 0)
  let d ← lookup sel gp
  if d.desc.isCode then farToCode k d sel off
  else if d.desc.isSystem 4 || d.desc.isSystem 12 then farThroughGate k d.desc sel
  else if d.desc.isSystem 5 then farThroughTaskGate k d.desc sel
  else if d.desc.isAvailableTss || d.desc.isBusyTss then farToTss k d sel
  else raiseExc gp

/-- Far JMP or CALL (R403, R404, R406). -/
def farTransfer (k : Transfer) (sel : Word) (off : DWord) : Op Unit := do
  match ← query State.mode with
  | .prot => farProt k sel off
  | _ =>
    match k with
    | .jmp => enter8086 sel off
    | .call => atomically (callFar8086 sel off)

/-- Far JMP or CALL through a pointer in memory (R402). -/
def farIndirect (k : Transfer) (m : EA) : Op Unit := do
  let p ← readFarPointer m
  farTransfer k p.2 p.1

/-! ### Far RET in protected mode (R415 to R418) -/

/-- RET far to the same level (R416). R415 says where the offset lies, and no step says when it is read: it is read where it is first
used, after the tests of the selector and its descriptor (DESIGN CHOICE, log entry 38). -/
def returnSame (w : Width) (rs : Word) (n : Word) : Op Unit := do
  let s ← query id
  let c ← checkReturnCode rs s.cpl
  checkStackRead (2 * w.bytes)
  let off ← stackRead 0 w.bytes
  raiseIf (decide (c.desc.limit.toNat < off.toNat)) (Exc.gp 0)
  setAccessed c
  update fun s =>
    (s.withCode c rs (selRpl rs) off).setSp (s.sp + BitVec.ofNat 32 (2 * w.bytes) + n.setWidth 32)

/-- RET far to an outer level (R417). The offset is read where it is first used, after the tests of the code and stack segments
(DESIGN CHOICE, log entry 38). -/
def returnOuter (w : Width) (rs : Word) (n : Word) : Op Unit := do
  checkStackRead (4 * w.bytes + n.toNat)
  let level := selRpl rs
  let c ← checkReturnCode rs level
  let nsp ← stackRead (2 * w.bytes + n.toNat) w.bytes
  let nssD ← stackRead (3 * w.bytes + n.toNat) 2
  let nss : Word := nssD.setWidth 16
  let f ← checkReturnStack nss level
  let off ← stackRead 0 w.bytes
  raiseIf (decide (c.desc.limit.toNat < off.toNat)) (Exc.gp 0)
  setAccessed c
  setAccessed f
  update fun s => State.dropSegments ((s.withCode c rs level off).withStack f nss nsp level)

/-- RET far in protected mode (R415). -/
def returnProt (n : Word) : Op Unit := do
  let s ← query id
  let w := s.osz
  checkStackRead (w.bytes + 2)
  let rsD ← stackRead w.bytes 2
  let rs : Word := rsD.setWidth 16
  raiseIf (decide (selRpl rs < s.cpl)) (Exc.gp (selCode rs))
  if selRpl rs = s.cpl then returnSame w rs n else returnOuter w rs n

/-- RET far (R405, R415). -/
def returnFar (n : Word) : Op Unit := do
  match ← query State.mode with
  | .prot => returnProt n
  | _ => atomically (returnFar8086 n)

/-! ### The meanings -/

/-- JO rel8: 70 cb (R391). -/
def execJo8 (rel : Byte) (s : State) : Host.Outcome State Fault Refusal := instr (jumpIf .o (rel.signExtend 32)) s

/-- JNO rel8: 71 cb (R391). -/
def execJno8 (rel : Byte) (s : State) : Host.Outcome State Fault Refusal := instr (jumpIf .no (rel.signExtend 32)) s

/-- JB rel8: 72 cb (R391). -/
def execJb8 (rel : Byte) (s : State) : Host.Outcome State Fault Refusal := instr (jumpIf .b (rel.signExtend 32)) s

/-- JAE rel8: 73 cb (R391). -/
def execJae8 (rel : Byte) (s : State) : Host.Outcome State Fault Refusal := instr (jumpIf .ae (rel.signExtend 32)) s

/-- JE rel8: 74 cb (R391). -/
def execJe8 (rel : Byte) (s : State) : Host.Outcome State Fault Refusal := instr (jumpIf .e (rel.signExtend 32)) s

/-- JNE rel8: 75 cb (R391). -/
def execJne8 (rel : Byte) (s : State) : Host.Outcome State Fault Refusal := instr (jumpIf .ne (rel.signExtend 32)) s

/-- JBE rel8: 76 cb (R391). -/
def execJbe8 (rel : Byte) (s : State) : Host.Outcome State Fault Refusal := instr (jumpIf .be (rel.signExtend 32)) s

/-- JA rel8: 77 cb (R391). -/
def execJa8 (rel : Byte) (s : State) : Host.Outcome State Fault Refusal := instr (jumpIf .a (rel.signExtend 32)) s

/-- JS rel8: 78 cb (R391). -/
def execJs8 (rel : Byte) (s : State) : Host.Outcome State Fault Refusal := instr (jumpIf .s (rel.signExtend 32)) s

/-- JNS rel8: 79 cb (R391). -/
def execJns8 (rel : Byte) (s : State) : Host.Outcome State Fault Refusal := instr (jumpIf .ns (rel.signExtend 32)) s

/-- JP rel8: 7A cb (R391). -/
def execJp8 (rel : Byte) (s : State) : Host.Outcome State Fault Refusal := instr (jumpIf .p (rel.signExtend 32)) s

/-- JNP rel8: 7B cb (R391). -/
def execJnp8 (rel : Byte) (s : State) : Host.Outcome State Fault Refusal := instr (jumpIf .np (rel.signExtend 32)) s

/-- JL rel8: 7C cb (R391). -/
def execJl8 (rel : Byte) (s : State) : Host.Outcome State Fault Refusal := instr (jumpIf .l (rel.signExtend 32)) s

/-- JGE rel8: 7D cb (R391). -/
def execJge8 (rel : Byte) (s : State) : Host.Outcome State Fault Refusal := instr (jumpIf .ge (rel.signExtend 32)) s

/-- JLE rel8: 7E cb (R391). -/
def execJle8 (rel : Byte) (s : State) : Host.Outcome State Fault Refusal := instr (jumpIf .le (rel.signExtend 32)) s

/-- JG rel8: 7F cb (R391). -/
def execJg8 (rel : Byte) (s : State) : Host.Outcome State Fault Refusal := instr (jumpIf .g (rel.signExtend 32)) s

/-- CALL ptr16:16/ptr16:32: 9A cd/cp (R404). -/
def execCallFarPtr (off : DWord) (sel : Word) (s : State) : Host.Outcome State Fault Refusal :=
  complete (farTransfer .call sel off) s

/-- RET near, imm16: C2 iw (R401). -/
def execRetNearImm (n : Word) (s : State) : Host.Outcome State Fault Refusal := instr (returnNear n) s

/-- RET far, imm16: CA iw (R405). -/
def execRetFarImm (n : Word) (s : State) : Host.Outcome State Fault Refusal := complete (returnFar n) s

/-- LOOPNE/LOOPNZ rel8: E0 cb (R396). -/
def execLoopne (rel : Byte) (s : State) : Host.Outcome State Fault Refusal := instr (loopWhile .ne rel) s

/-- LOOPE/LOOPZ rel8: E1 cb (R395). -/
def execLoope (rel : Byte) (s : State) : Host.Outcome State Fault Refusal := instr (loopWhile .e rel) s

/-- LOOP rel8: E2 cb (R394). -/
def execLoop (rel : Byte) (s : State) : Host.Outcome State Fault Refusal := instr (loopWhile .always rel) s

/-- JCXZ/JECXZ rel8: E3 cb (R393). -/
def execJcxz (rel : Byte) (s : State) : Host.Outcome State Fault Refusal := instr (jumpIfCxZero rel) s

/-- CALL rel16/32: E8 cw/cd (R399). -/
def execCallRelv (rel : DWord) (s : State) : Host.Outcome State Fault Refusal := instr (callRel rel) s

/-- JMP rel16/32: E9 cw/cd (R397). -/
def execJmpRelv (rel : DWord) (s : State) : Host.Outcome State Fault Refusal := instr (jumpRel rel) s

/-- JMP ptr16:16/ptr16:32: EA cd/cp (R403). -/
def execJmpFarPtr (off : DWord) (sel : Word) (s : State) : Host.Outcome State Fault Refusal :=
  complete (farTransfer .jmp sel off) s

/-- JMP rel8: EB cb (R397). -/
def execJmpRel8 (rel : Byte) (s : State) : Host.Outcome State Fault Refusal := instr (jumpRel (rel.signExtend 32)) s

/-- CALL r/m16/32 (near indirect): FF /2 (R400). -/
def execCallRmv (rm : RM Reg) (s : State) : Host.Outcome State Fault Refusal := instr (callRm rm) s

/-- CALL m16:16/m16:32 (far indirect): FF /3 (R404). -/
def execCallFarMem (m : EA) (s : State) : Host.Outcome State Fault Refusal := complete (farIndirect .call m) s

/-- JMP r/m16/32 (near indirect): FF /4 (R398). -/
def execJmpRmv (rm : RM Reg) (s : State) : Host.Outcome State Fault Refusal := instr (jumpRm rm) s

/-- JMP m16:16/m16:32 (far indirect): FF /5 (R403). -/
def execJmpFarMem (m : EA) (s : State) : Host.Outcome State Fault Refusal := complete (farIndirect .jmp m) s

/-- JO rel16/32: 0F 80 cw/cd (R392). -/
def execJoNear (rel : DWord) (s : State) : Host.Outcome State Fault Refusal := instr (jumpIf .o rel) s

/-- JNO rel16/32: 0F 81 cw/cd (R392). -/
def execJnoNear (rel : DWord) (s : State) : Host.Outcome State Fault Refusal := instr (jumpIf .no rel) s

/-- JB rel16/32: 0F 82 cw/cd (R392). -/
def execJbNear (rel : DWord) (s : State) : Host.Outcome State Fault Refusal := instr (jumpIf .b rel) s

/-- JAE rel16/32: 0F 83 cw/cd (R392). -/
def execJaeNear (rel : DWord) (s : State) : Host.Outcome State Fault Refusal := instr (jumpIf .ae rel) s

/-- JE rel16/32: 0F 84 cw/cd (R392). -/
def execJeNear (rel : DWord) (s : State) : Host.Outcome State Fault Refusal := instr (jumpIf .e rel) s

/-- JNE rel16/32: 0F 85 cw/cd (R392). -/
def execJneNear (rel : DWord) (s : State) : Host.Outcome State Fault Refusal := instr (jumpIf .ne rel) s

/-- JBE rel16/32: 0F 86 cw/cd (R392). -/
def execJbeNear (rel : DWord) (s : State) : Host.Outcome State Fault Refusal := instr (jumpIf .be rel) s

/-- JA rel16/32: 0F 87 cw/cd (R392). -/
def execJaNear (rel : DWord) (s : State) : Host.Outcome State Fault Refusal := instr (jumpIf .a rel) s

/-- JS rel16/32: 0F 88 cw/cd (R392). -/
def execJsNear (rel : DWord) (s : State) : Host.Outcome State Fault Refusal := instr (jumpIf .s rel) s

/-- JNS rel16/32: 0F 89 cw/cd (R392). -/
def execJnsNear (rel : DWord) (s : State) : Host.Outcome State Fault Refusal := instr (jumpIf .ns rel) s

/-- JP rel16/32: 0F 8A cw/cd (R392). -/
def execJpNear (rel : DWord) (s : State) : Host.Outcome State Fault Refusal := instr (jumpIf .p rel) s

/-- JNP rel16/32: 0F 8B cw/cd (R392). -/
def execJnpNear (rel : DWord) (s : State) : Host.Outcome State Fault Refusal := instr (jumpIf .np rel) s

/-- JL rel16/32: 0F 8C cw/cd (R392). -/
def execJlNear (rel : DWord) (s : State) : Host.Outcome State Fault Refusal := instr (jumpIf .l rel) s

/-- JGE rel16/32: 0F 8D cw/cd (R392). -/
def execJgeNear (rel : DWord) (s : State) : Host.Outcome State Fault Refusal := instr (jumpIf .ge rel) s

/-- JLE rel16/32: 0F 8E cw/cd (R392). -/
def execJleNear (rel : DWord) (s : State) : Host.Outcome State Fault Refusal := instr (jumpIf .le rel) s

/-- JG rel16/32: 0F 8F cw/cd (R392). -/
def execJgNear (rel : DWord) (s : State) : Host.Outcome State Fault Refusal := instr (jumpIf .g rel) s

/-- RET near: C3 (R401). -/
def execRetNear (s : State) : Host.Outcome State Fault Refusal := instr (returnNear 0) s

/-- RET far: CB (R405). -/
def execRetFar (s : State) : Host.Outcome State Fault Refusal := complete (returnFar 0) s

end Sys2Proof.Machine
end

