-- ==== Sys2Proof/Machine/Interrupt.lean ====
section
/-!
DEFINITION. The software interrupts and the return from an interrupt (45_interrupt_iret.md): one meaning for each instruction,
over the delivery and the return of Ops.lean.
-/
namespace Sys2Proof.Machine

/-- A software interrupt: a fault of its delivery is a fault of the instruction (R430, R433). -/
def softwareInterrupt (n : Nat) : Op Unit := do
  let s ← query id
  deliverOnce n .software none s.eip

/-- INT n, sensitive to IOPL in V86 mode (R430, R550). -/
def interruptVector (n : Byte) : Op Unit := do
  checkV86Iopl
  softwareInterrupt n.toNat

/-- INTO (R432). -/
def interruptOnOverflow : Op Unit := do
  let s ← query id
  if s.flags.ofl then softwareInterrupt 4 else pure ()

/-! ### The meanings -/

/-- INT imm8: CD ib (R430). -/
def execInt (n : Byte) (s : State) : Host.Outcome State Fault Refusal := complete (interruptVector n) s

/-- INT/3: CC (R431). -/
def execInt3 (s : State) : Host.Outcome State Fault Refusal := complete (softwareInterrupt 3) s

/-- INTO: CE (R432). -/
def execInto (s : State) : Host.Outcome State Fault Refusal := complete (interruptOnOverflow) s

/-- IRET/IRETD: CF (R436). -/
def execIret (s : State) : Host.Outcome State Fault Refusal := complete (interruptReturn) s

end Sys2Proof.Machine
end

