-- ==== Sys2Proof/Machine/MulDivShiftBit.lean ====
section
/-!
DEFINITION. Multiply, divide, shift, rotate, bit and SETcc instructions (41_muldiv_shift_bit.md): the shared operations of
the family, then one meaning for each of its instructions.
-/
namespace Sys2Proof.Machine

/-! ### Multiply and divide (R251 to R255) -/

/-- AX, DX:AX or EDX:EAX as a number (R254). -/
def State.wide (s : State) (sz : Size) : Nat :=
  match sz with
  | .byte => (s.regS .word .eax).toNat
  | .word => (s.regS .word .edx).toNat * 65536 + (s.regS .word .eax).toNat
  | .dword => s.gpr.edx.toNat * 4294967296 + s.gpr.eax.toNat

/-- The state after the two halves of AX, DX:AX or EDX:EAX are written, each of the size (R251, R254). -/
def State.setWide (s : State) (sz : Size) (lo hi : DWord) : State :=
  match sz with
  | .byte => s.setRegS .word .eax ((truncSize .byte hi <<< 8) ||| truncSize .byte lo)
  | .word => (s.setRegS .word .eax lo).setRegS .word .edx hi
  | .dword => (s.setRegS .dword .eax lo).setRegS .dword .edx hi

/-- The flags that every multiplication leaves undefined (R251 to R253). -/
def mulUndef : StatusMask := { StatusMask.none with sf := true, zf := true, af := true, pf := true }

/-- CF and OF together. -/
def Flags.setCarryOverflow (f : Flags) (b : Bool) : Flags := { f with cf := b, ofl := b }

/-- MUL (R251). -/
def mulLoc (sz : Size) (src : Loc) : Op Unit := do
  let m ← readLoc sz src
  let s ← query id
  let p := (s.acc sz).toNat * m.toNat
  let hi := BitVec.ofNat 32 (p / 2 ^ sz.bits)
  update fun s => s.setWide sz (BitVec.ofNat 32 p) hi
  updateFlags fun f => f.setCarryOverflow (hi != 0)
  undefFlags mulUndef

/-- IMUL with one operand (R252). -/
def imulLoc (sz : Size) (src : Loc) : Op Unit := do
  let m ← readLoc sz src
  let s ← query id
  let p := toSigned sz (s.acc sz) * toSigned sz m
  let lo := BitVec.ofInt 32 p
  update fun s => s.setWide sz lo (BitVec.ofInt 32 (p / 2 ^ sz.bits))
  updateFlags fun f => f.setCarryOverflow (p != toSigned sz lo)
  undefFlags mulUndef

/-- IMUL into a register (R253). -/
def imulInto (sz : Size) (dst : Reg) (a b : DWord) : Op Unit := do
  let p := toSigned sz a * toSigned sz b
  let r := BitVec.ofInt 32 p
  update fun s => s.setRegS sz dst r
  updateFlags fun f => f.setCarryOverflow (p != toSigned sz r)
  undefFlags mulUndef

/-- DIV: interrupt 0 when the divisor is 0 or the quotient does not fit (R254). -/
def divLoc (sz : Size) (src : Loc) : Op Unit := do
  let d ← readLoc sz src
  let s ← query id
  raiseIf (d == 0) (Exc.plain 0)
  let q := s.wide sz / d.toNat
  raiseIf (decide (2 ^ sz.bits ≤ q)) (Exc.plain 0)
  update fun s' => s'.setWide sz (BitVec.ofNat 32 q) (BitVec.ofNat 32 (s.wide sz % d.toNat))
  undefFlags StatusMask.all

/-- The double-width dividend read as two's complement (R255). -/
def State.wideSigned (s : State) (sz : Size) : Int :=
  let n := s.wide sz
  if n < 2 ^ (2 * sz.bits - 1) then (n : Int) else (n : Int) - 2 ^ (2 * sz.bits)

/-- IDIV: the quotient is truncated toward 0, the remainder has the sign of the dividend (R255). -/
def idivLoc (sz : Size) (src : Loc) : Op Unit := do
  let m ← readLoc sz src
  let s ← query id
  let d := toSigned sz m
  raiseIf (d == 0) (Exc.plain 0)
  let q := Int.tdiv (s.wideSigned sz) d
  let r := Int.tmod (s.wideSigned sz) d
  raiseIf (decide (q < -(2 ^ (sz.bits - 1))) || decide (2 ^ (sz.bits - 1) - 1 < q)) (Exc.plain 0)
  update fun s' => s'.setWide sz (BitVec.ofInt 32 q) (BitVec.ofInt 32 r)
  undefFlags StatusMask.all

/-- Apply an operation on a location to a byte operand. -/
def onRm8 (f : Size → Loc → Op Unit) (rm : RM Reg8) : Op Unit := do
  let s ← query id
  f .byte (loc8 s rm)

/-- Apply an operation on a location to an operand of operand size. -/
def onRmv (f : Size → Loc → Op Unit) (rm : RM Reg) : Op Unit := do
  let s ← query id
  f s.osz.size (locV s rm)

/-- IMUL r,r/m (R253). -/
def imul2 (r : Reg) (rm : RM Reg) : Op Unit := do
  let s ← query id
  let b ← readLoc s.osz.size (locV s rm)
  imulInto s.osz.size r (s.regS s.osz.size r) b

/-- IMUL r,r/m,imm; the immediate extended to 32 bits (R253). -/
def imul3 (r : Reg) (rm : RM Reg) (imm : DWord) : Op Unit := do
  let s ← query id
  let a ← readLoc s.osz.size (locV s rm)
  imulInto s.osz.size r a imm

/-! ### Shifts and rotates (R256 to R263) -/

/-- The seven operations of the group. -/
inductive ShiftOp where
  | rol | ror | rcl | rcr | sal | shr | sar
deriving DecidableEq, Repr

/-- The rotates, which leave SF, ZF, AF and PF alone. -/
def ShiftOp.isRotate : ShiftOp → Bool
  | .rol => true
  | .ror => true
  | .rcl => true
  | .rcr => true
  | _ => false

/-- The masked count (R256). -/
def countValue (s : State) : Count → Nat
  | .one => 1
  | .cl => (s.reg8 .cl).toNat % 32
  | .imm v => v.toNat % 32

/-- One step on the operand and CF (R257 to R263). -/
def ShiftOp.step (op : ShiftOp) (sz : Size) (vc : DWord × Bool) : DWord × Bool :=
  let (v, c) := vc
  let top := signBit sz v
  let low := v.getLsbD 0
  let dbl := truncSize sz (v <<< 1)
  let half := v >>> 1
  match op with
  | .rol => (dbl ||| bitAt top 0, top)
  | .ror => (half ||| bitAt low (sz.bits - 1), low)
  | .rcl => (dbl ||| bitAt c 0, top)
  | .rcr => (half ||| bitAt c (sz.bits - 1), low)
  | .sal => (dbl, top)
  | .shr => (half, low)
  | .sar => (half ||| bitAt top (sz.bits - 1), low)

/-- `n` steps. -/
def ShiftOp.steps (op : ShiftOp) (sz : Size) : Nat → DWord × Bool → DWord × Bool
  | 0, vc => vc
  | n + 1, vc => op.steps sz n (op.step sz vc)

/-- OF after a count of 1, from the operand before and after and CF after (R257 to R263). -/
def ShiftOp.overflow (op : ShiftOp) (sz : Size) (before after : DWord) (c : Bool) : Bool :=
  let top := signBit sz after
  match op with
  | .rol => top ^^ c
  | .rcl => top ^^ c
  | .sal => top ^^ c
  | .ror => top ^^ after.getLsbD (sz.bits - 2)
  | .rcr => top ^^ after.getLsbD (sz.bits - 2)
  | .shr => signBit sz before
  | .sar => false

/-- The flags, OF and AF where they are undefined left as they were (R256 to R263). -/
def ShiftOp.flags (op : ShiftOp) (sz : Size) (n : Nat) (before after : DWord) (c : Bool) (f : Flags) : Flags :=
  let f := if op.isRotate || n == 0 then f else f.szp sz after
  { f with cf := c, ofl := if n = 1 then op.overflow sz before after c else f.ofl }

/-- The flags left undefined: OF unless the count is 1, AF after a shift by at least 1 (R256, R261 to R263, U7, U8). -/
def ShiftOp.undef (op : ShiftOp) (n : Nat) : StatusMask :=
  { StatusMask.none with ofl := n != 1, af := !op.isRotate && n != 0 }

/-- A shift or rotate of a location (R256). The operand is written back whatever the count (D27). -/
def shiftLoc (op : ShiftOp) (n : Nat) (sz : Size) (dst : Loc) : Op Unit := do
  let v ← readLoc sz dst
  let c ← query fun s => s.flags.cf
  let vc := op.steps sz n (v, c)
  writeLoc sz vc.1 dst
  updateFlags fun f => op.flags sz n v vc.1 vc.2 f
  undefFlags (op.undef n)

/-- The byte forms. -/
def shift8 (op : ShiftOp) (rm : RM Reg8) (count : Count) : Op Unit := do
  let s ← query id
  shiftLoc op (countValue s count) .byte (loc8 s rm)

/-- The forms of operand size. -/
def shiftV (op : ShiftOp) (rm : RM Reg) (count : Count) : Op Unit := do
  let s ← query id
  shiftLoc op (countValue s count) s.osz.size (locV s rm)

/-- SHLD or SHRD. -/
inductive DoubleShift where
  | left | right
deriving DecidableEq, Repr

/-- The result and CF of SHLD and SHRD for a count of at least 1 and less than the operand size (R264, R265). -/
def DoubleShift.result (d : DoubleShift) (sz : Size) (v inp : DWord) (n : Nat) : DWord × Bool :=
  match d with
  | .left => (truncSize sz ((v <<< n) ||| (inp >>> (sz.bits - n))), v.getLsbD (sz.bits - n))
  | .right => (truncSize sz ((v >>> n) ||| (inp <<< (sz.bits - n))), v.getLsbD (n - 1))

/-- SHLD and SHRD. The operand is read, and checked for writing, whatever the count (R264, R265, R505, D27). -/
def shiftDouble (d : DoubleShift) (rm : RM Reg) (r : Reg) (count : Count) : Op Unit := do
  let s ← query id
  let sz := s.osz.size
  let dst := locV s rm
  let n := countValue s count
  let v ← readLoc sz dst
  if n = 0 then checkWriteLoc sz dst
  else if sz.bits ≤ n then do
    let u ← drawUndef
    writeLoc sz (truncSize sz u) dst
    undefFlags StatusMask.all
  else do
    let rc := d.result sz v (s.regS sz r) n
    writeLoc sz rc.1 dst
    updateFlags fun f => { f.szp sz rc.1 with cf := rc.2 }
    undefFlags { StatusMask.none with af := true, ofl := true }

/-! ### Bit test and bit scan (R266 to R272) -/

/-- BT, BTS, BTR, BTC. -/
inductive BitOp where
  | bt | bts | btr | btc
deriving DecidableEq, Repr

/-- The operand after the bit is set, reset, complemented or left (R267 to R270). -/
def BitOp.apply (op : BitOp) (v : DWord) (i : Nat) : DWord :=
  match op with
  | .bt => v
  | .bts => v ||| bitAt true i
  | .btr => v &&& ~~~(bitAt true i)
  | .btc => v ^^^ bitAt true i

/-- Test a bit of a location: CF is the bit before; BT writes nothing (R267 to R270). -/
def bitLoc (op : BitOp) (sz : Size) (dst : Loc) (i : Nat) : Op Unit := do
  let v ← readLoc sz dst
  if op = .bt then pure () else writeLoc sz (op.apply v i) dst
  updateFlags fun f => { f with cf := v.getLsbD i }

/-- The unit of a bit string in memory that holds a bit, and the bit in it (R266, D28). -/
def bitUnit (s : State) (sz : Size) (off : DWord) (offset : Int) : DWord × Nat :=
  (truncTo s.asz (off + BitVec.ofInt 32 ((sz.bytes : Int) * (offset / (sz.bits : Int)))), (offset % (sz.bits : Int)).toNat)

/-- The forms with the bit offset in a register (R266). -/
def bitReg (op : BitOp) (rm : RM Reg) (r : Reg) : Op Unit := do
  let s ← query id
  let sz := s.osz.size
  let off := s.regS sz r
  match locV s rm with
  | .mem seg ea => do
    let u := bitUnit s sz ea (toSigned sz off)
    bitLoc op sz (.mem seg u.1) u.2
  | loc => bitLoc op sz loc (off.toNat % sz.bits)

/-- The forms with an immediate bit offset (R266). -/
def bitImm (op : BitOp) (rm : RM Reg) (imm : Byte) : Op Unit := do
  let s ← query id
  let sz := s.osz.size
  bitLoc op sz (locV s rm) (imm.toNat % sz.bits)

/-- BSF or BSR. -/
inductive Scan where
  | forward | reverse
deriving DecidableEq, Repr

/-- The index of the first set bit in the direction of the scan. -/
def Scan.find (d : Scan) (sz : Size) (v : DWord) : Option Nat :=
  match d with
  | .forward => (List.range sz.bits).find? fun i => v.getLsbD i
  | .reverse => (List.range sz.bits).reverse.find? fun i => v.getLsbD i

/-- BSF and BSR: of a zero source the register is undefined (R271, R272, U11). -/
def bitScan (d : Scan) (r : Reg) (rm : RM Reg) : Op Unit := do
  let s ← query id
  let sz := s.osz.size
  let v ← readLoc sz (locV s rm)
  match d.find sz v with
  | some i => do
    update fun s => s.setRegS sz r (BitVec.ofNat 32 i)
    updateFlags fun f => { f with zf := false }
  | none => do
    let u ← drawUndef
    update fun s => s.setRegS sz r u
    updateFlags fun f => { f with zf := true }

/-! ### SETcc (R273) -/

/-- SETcc. -/
def setIf (c : Cond) (rm : RM Reg8) : Op Unit := do
  let s ← query id
  writeLoc .byte (if c.holds s.flags then 1 else 0) (loc8 s rm)

/-! ### The meanings -/

/-- IMUL r16/32,r/m16/32,imm16/32: 69 /r iw/id (R253). -/
def execImulRvRmvImmv (r : Reg) (rm : RM Reg) (imm : DWord) (s : State) : Host.Outcome State Fault Refusal :=
  instr (imul3 r rm imm) s

/-- IMUL r16/32,r/m16/32,imm8 (sign-extended): 6B /r ib (R253). -/
def execImulRvRmvImm8 (r : Reg) (rm : RM Reg) (imm : Byte) (s : State) : Host.Outcome State Fault Refusal :=
  instr (imul3 r rm (imm.signExtend 32)) s

/-- ROL r/m8 by 1, CL or imm8: D0 /0, D2 /0, C0 /0 ib (R257). -/
def execRolRm8 (rm : RM Reg8) (count : Count) (s : State) : Host.Outcome State Fault Refusal :=
  instr (shift8 .rol rm count) s

/-- ROL r/m16/32 by 1, CL or imm8: D1 /0, D3 /0, C1 /0 ib (R257). -/
def execRolRmv (rm : RM Reg) (count : Count) (s : State) : Host.Outcome State Fault Refusal :=
  instr (shiftV .rol rm count) s

/-- ROR r/m8 by 1, CL or imm8: D0 /1, D2 /1, C0 /1 ib (R258). -/
def execRorRm8 (rm : RM Reg8) (count : Count) (s : State) : Host.Outcome State Fault Refusal :=
  instr (shift8 .ror rm count) s

/-- ROR r/m16/32 by 1, CL or imm8: D1 /1, D3 /1, C1 /1 ib (R258). -/
def execRorRmv (rm : RM Reg) (count : Count) (s : State) : Host.Outcome State Fault Refusal :=
  instr (shiftV .ror rm count) s

/-- RCL r/m8 by 1, CL or imm8: D0 /2, D2 /2, C0 /2 ib (R259). -/
def execRclRm8 (rm : RM Reg8) (count : Count) (s : State) : Host.Outcome State Fault Refusal :=
  instr (shift8 .rcl rm count) s

/-- RCL r/m16/32 by 1, CL or imm8: D1 /2, D3 /2, C1 /2 ib (R259). -/
def execRclRmv (rm : RM Reg) (count : Count) (s : State) : Host.Outcome State Fault Refusal :=
  instr (shiftV .rcl rm count) s

/-- RCR r/m8 by 1, CL or imm8: D0 /3, D2 /3, C0 /3 ib (R260). -/
def execRcrRm8 (rm : RM Reg8) (count : Count) (s : State) : Host.Outcome State Fault Refusal :=
  instr (shift8 .rcr rm count) s

/-- RCR r/m16/32 by 1, CL or imm8: D1 /3, D3 /3, C1 /3 ib (R260). -/
def execRcrRmv (rm : RM Reg) (count : Count) (s : State) : Host.Outcome State Fault Refusal :=
  instr (shiftV .rcr rm count) s

/-- SAL/SHL r/m8 by 1, CL or imm8: D0 /4, D2 /4, C0 /4 ib (R261). -/
def execSalRm8 (rm : RM Reg8) (count : Count) (s : State) : Host.Outcome State Fault Refusal :=
  instr (shift8 .sal rm count) s

/-- SAL/SHL r/m16/32 by 1, CL or imm8: D1 /4, D3 /4, C1 /4 ib (R261). -/
def execSalRmv (rm : RM Reg) (count : Count) (s : State) : Host.Outcome State Fault Refusal :=
  instr (shiftV .sal rm count) s

/-- SHR r/m8 by 1, CL or imm8: D0 /5, D2 /5, C0 /5 ib (R262). -/
def execShrRm8 (rm : RM Reg8) (count : Count) (s : State) : Host.Outcome State Fault Refusal :=
  instr (shift8 .shr rm count) s

/-- SHR r/m16/32 by 1, CL or imm8: D1 /5, D3 /5, C1 /5 ib (R262). -/
def execShrRmv (rm : RM Reg) (count : Count) (s : State) : Host.Outcome State Fault Refusal :=
  instr (shiftV .shr rm count) s

/-- SAR r/m8 by 1, CL or imm8: D0 /7, D2 /7, C0 /7 ib (R263). -/
def execSarRm8 (rm : RM Reg8) (count : Count) (s : State) : Host.Outcome State Fault Refusal :=
  instr (shift8 .sar rm count) s

/-- SAR r/m16/32 by 1, CL or imm8: D1 /7, D3 /7, C1 /7 ib (R263). -/
def execSarRmv (rm : RM Reg) (count : Count) (s : State) : Host.Outcome State Fault Refusal :=
  instr (shiftV .sar rm count) s

/-- MUL r/m8: F6 /4 (R251). -/
def execMulRm8 (rm : RM Reg8) (s : State) : Host.Outcome State Fault Refusal := instr (onRm8 mulLoc rm) s

/-- MUL r/m16/32: F7 /4 (R251). -/
def execMulRmv (rm : RM Reg) (s : State) : Host.Outcome State Fault Refusal := instr (onRmv mulLoc rm) s

/-- IMUL r/m8: F6 /5 (R252). -/
def execImulRm8 (rm : RM Reg8) (s : State) : Host.Outcome State Fault Refusal := instr (onRm8 imulLoc rm) s

/-- IMUL r/m16/32: F7 /5 (R252). -/
def execImulRmv (rm : RM Reg) (s : State) : Host.Outcome State Fault Refusal := instr (onRmv imulLoc rm) s

/-- DIV r/m8: F6 /6 (R254). -/
def execDivRm8 (rm : RM Reg8) (s : State) : Host.Outcome State Fault Refusal := instr (onRm8 divLoc rm) s

/-- DIV r/m16/32: F7 /6 (R254). -/
def execDivRmv (rm : RM Reg) (s : State) : Host.Outcome State Fault Refusal := instr (onRmv divLoc rm) s

/-- IDIV r/m8: F6 /7 (R255). -/
def execIdivRm8 (rm : RM Reg8) (s : State) : Host.Outcome State Fault Refusal := instr (onRm8 idivLoc rm) s

/-- IDIV r/m16/32: F7 /7 (R255). -/
def execIdivRmv (rm : RM Reg) (s : State) : Host.Outcome State Fault Refusal := instr (onRmv idivLoc rm) s

/-- SETO r/m8: 0F 90 /r (R273). -/
def execSeto (rm : RM Reg8) (s : State) : Host.Outcome State Fault Refusal := instr (setIf .o rm) s

/-- SETNO r/m8: 0F 91 /r (R273). -/
def execSetno (rm : RM Reg8) (s : State) : Host.Outcome State Fault Refusal := instr (setIf .no rm) s

/-- SETB r/m8: 0F 92 /r (R273). -/
def execSetb (rm : RM Reg8) (s : State) : Host.Outcome State Fault Refusal := instr (setIf .b rm) s

/-- SETAE r/m8: 0F 93 /r (R273). -/
def execSetae (rm : RM Reg8) (s : State) : Host.Outcome State Fault Refusal := instr (setIf .ae rm) s

/-- SETE r/m8: 0F 94 /r (R273). -/
def execSete (rm : RM Reg8) (s : State) : Host.Outcome State Fault Refusal := instr (setIf .e rm) s

/-- SETNE r/m8: 0F 95 /r (R273). -/
def execSetne (rm : RM Reg8) (s : State) : Host.Outcome State Fault Refusal := instr (setIf .ne rm) s

/-- SETBE r/m8: 0F 96 /r (R273). -/
def execSetbe (rm : RM Reg8) (s : State) : Host.Outcome State Fault Refusal := instr (setIf .be rm) s

/-- SETA r/m8: 0F 97 /r (R273). -/
def execSeta (rm : RM Reg8) (s : State) : Host.Outcome State Fault Refusal := instr (setIf .a rm) s

/-- SETS r/m8: 0F 98 /r (R273). -/
def execSets (rm : RM Reg8) (s : State) : Host.Outcome State Fault Refusal := instr (setIf .s rm) s

/-- SETNS r/m8: 0F 99 /r (R273). -/
def execSetns (rm : RM Reg8) (s : State) : Host.Outcome State Fault Refusal := instr (setIf .ns rm) s

/-- SETP r/m8: 0F 9A /r (R273). -/
def execSetp (rm : RM Reg8) (s : State) : Host.Outcome State Fault Refusal := instr (setIf .p rm) s

/-- SETNP r/m8: 0F 9B /r (R273). -/
def execSetnp (rm : RM Reg8) (s : State) : Host.Outcome State Fault Refusal := instr (setIf .np rm) s

/-- SETL r/m8: 0F 9C /r (R273). -/
def execSetl (rm : RM Reg8) (s : State) : Host.Outcome State Fault Refusal := instr (setIf .l rm) s

/-- SETGE r/m8: 0F 9D /r (R273). -/
def execSetge (rm : RM Reg8) (s : State) : Host.Outcome State Fault Refusal := instr (setIf .ge rm) s

/-- SETLE r/m8: 0F 9E /r (R273). -/
def execSetle (rm : RM Reg8) (s : State) : Host.Outcome State Fault Refusal := instr (setIf .le rm) s

/-- SETG r/m8: 0F 9F /r (R273). -/
def execSetg (rm : RM Reg8) (s : State) : Host.Outcome State Fault Refusal := instr (setIf .g rm) s

/-- BT r/m16/32,r16/32: 0F A3 /r (R267). -/
def execBtRmvRv (rm : RM Reg) (r : Reg) (s : State) : Host.Outcome State Fault Refusal := instr (bitReg .bt rm r) s

/-- SHLD r/m16/32,r16/32,imm8: 0F A4 /r ib (R264). -/
def execShldImm8 (rm : RM Reg) (r : Reg) (imm : Byte) (s : State) : Host.Outcome State Fault Refusal :=
  instr (shiftDouble .left rm r (.imm imm)) s

/-- SHLD r/m16/32,r16/32,CL: 0F A5 /r (R264). -/
def execShldCl (rm : RM Reg) (r : Reg) (s : State) : Host.Outcome State Fault Refusal :=
  instr (shiftDouble .left rm r .cl) s

/-- BTS r/m16/32,r16/32: 0F AB /r (R268). -/
def execBtsRmvRv (rm : RM Reg) (r : Reg) (s : State) : Host.Outcome State Fault Refusal := instr (bitReg .bts rm r) s

/-- SHRD r/m16/32,r16/32,imm8: 0F AC /r ib (R265). -/
def execShrdImm8 (rm : RM Reg) (r : Reg) (imm : Byte) (s : State) : Host.Outcome State Fault Refusal :=
  instr (shiftDouble .right rm r (.imm imm)) s

/-- SHRD r/m16/32,r16/32,CL: 0F AD /r (R265). -/
def execShrdCl (rm : RM Reg) (r : Reg) (s : State) : Host.Outcome State Fault Refusal :=
  instr (shiftDouble .right rm r .cl) s

/-- IMUL r16/32,r/m16/32: 0F AF /r (R253). -/
def execImulRvRmv (r : Reg) (rm : RM Reg) (s : State) : Host.Outcome State Fault Refusal := instr (imul2 r rm) s

/-- BTR r/m16/32,r16/32: 0F B3 /r (R269). -/
def execBtrRmvRv (rm : RM Reg) (r : Reg) (s : State) : Host.Outcome State Fault Refusal := instr (bitReg .btr rm r) s

/-- BT r/m16/32,imm8: 0F BA /4 ib (R267). -/
def execBtRmvImm8 (rm : RM Reg) (imm : Byte) (s : State) : Host.Outcome State Fault Refusal :=
  instr (bitImm .bt rm imm) s

/-- BTS r/m16/32,imm8: 0F BA /5 ib (R268). -/
def execBtsRmvImm8 (rm : RM Reg) (imm : Byte) (s : State) : Host.Outcome State Fault Refusal :=
  instr (bitImm .bts rm imm) s

/-- BTR r/m16/32,imm8: 0F BA /6 ib (R269). -/
def execBtrRmvImm8 (rm : RM Reg) (imm : Byte) (s : State) : Host.Outcome State Fault Refusal :=
  instr (bitImm .btr rm imm) s

/-- BTC r/m16/32,imm8: 0F BA /7 ib (R270). -/
def execBtcRmvImm8 (rm : RM Reg) (imm : Byte) (s : State) : Host.Outcome State Fault Refusal :=
  instr (bitImm .btc rm imm) s

/-- BTC r/m16/32,r16/32: 0F BB /r (R270). -/
def execBtcRmvRv (rm : RM Reg) (r : Reg) (s : State) : Host.Outcome State Fault Refusal := instr (bitReg .btc rm r) s

/-- BSF r16/32,r/m16/32: 0F BC /r (R271). -/
def execBsf (r : Reg) (rm : RM Reg) (s : State) : Host.Outcome State Fault Refusal := instr (bitScan .forward r rm) s

/-- BSR r16/32,r/m16/32: 0F BD /r (R272). -/
def execBsr (r : Reg) (rm : RM Reg) (s : State) : Host.Outcome State Fault Refusal := instr (bitScan .reverse r rm) s

end Sys2Proof.Machine
end

