-- ==== Sys2Proof/Machine/Prefix.lean ====
section
/-!
DEFINITION. The prefix bytes (30_encoding.md R141, R142, R173): one meaning for each, which records the prefix for the
instruction that follows, and the tests of LOCK and of the repeat prefixes (42_data_movement.md R366, 43_string_rep.md
R379).
-/
namespace Sys2Proof.Machine

/-- Whether an r/m operand is in memory. -/
def isMemory {ρ : Type} : RM ρ → Bool
  | .reg _ => false
  | .mem _ => true

/-- The instructions that LOCK may stand before: the listed ones, with a destination in memory (R366, R173). -/
def lockable : Instr → Bool
  | .addRm8R8 rm _ => isMemory rm
  | .addRmvRv rm _ => isMemory rm
  | .addRm8Imm8 rm _ => isMemory rm
  | .addRmvImm rm _ => isMemory rm
  | .orRm8R8 rm _ => isMemory rm
  | .orRmvRv rm _ => isMemory rm
  | .orRm8Imm8 rm _ => isMemory rm
  | .orRmvImm rm _ => isMemory rm
  | .adcRm8R8 rm _ => isMemory rm
  | .adcRmvRv rm _ => isMemory rm
  | .adcRm8Imm8 rm _ => isMemory rm
  | .adcRmvImm rm _ => isMemory rm
  | .sbbRm8R8 rm _ => isMemory rm
  | .sbbRmvRv rm _ => isMemory rm
  | .sbbRm8Imm8 rm _ => isMemory rm
  | .sbbRmvImm rm _ => isMemory rm
  | .andRm8R8 rm _ => isMemory rm
  | .andRmvRv rm _ => isMemory rm
  | .andRm8Imm8 rm _ => isMemory rm
  | .andRmvImm rm _ => isMemory rm
  | .subRm8R8 rm _ => isMemory rm
  | .subRmvRv rm _ => isMemory rm
  | .subRm8Imm8 rm _ => isMemory rm
  | .subRmvImm rm _ => isMemory rm
  | .xorRm8R8 rm _ => isMemory rm
  | .xorRmvRv rm _ => isMemory rm
  | .xorRm8Imm8 rm _ => isMemory rm
  | .xorRmvImm rm _ => isMemory rm
  | .xchgRm8R8 rm _ => isMemory rm
  | .xchgRmvRv rm _ => isMemory rm
  | .notRm8 rm => isMemory rm
  | .notRmv rm => isMemory rm
  | .negRm8 rm => isMemory rm
  | .negRmv rm => isMemory rm
  | .incRm8 rm => isMemory rm
  | .decRm8 rm => isMemory rm
  | .incRmv rm => isMemory rm
  | .decRmv rm => isMemory rm
  | .btRmvRv rm _ => isMemory rm
  | .btsRmvRv rm _ => isMemory rm
  | .btrRmvRv rm _ => isMemory rm
  | .btRmvImm8 rm _ => isMemory rm
  | .btsRmvImm8 rm _ => isMemory rm
  | .btrRmvImm8 rm _ => isMemory rm
  | .btcRmvImm8 rm _ => isMemory rm
  | .btcRmvRv rm _ => isMemory rm
  | _ => false

/-- The instructions that a repeat prefix may stand before: the string instructions, and with REPNE the ones that
compare (R379). -/
def repeatable (r : Rep) : Instr → Bool
  | .cmpsb => true
  | .cmpsv => true
  | .scasb => true
  | .scasv => true
  | .insb => r = .rep
  | .insv => r = .rep
  | .movsb => r = .rep
  | .movsv => r = .rep
  | .outsb => r = .rep
  | .outsv => r = .rep
  | .stosb => r = .rep
  | .stosv => r = .rep
  | .lodsb => r = .rep
  | .lodsv => r = .rep
  | _ => false

/-- The exception that the prefixes of an instruction raise before it begins: #UD for a LOCK or a repeat prefix where there
may be none, then #GP(0) for LOCK in V86 mode with IOPL below 3 (R173, R366, R379, D21). -/
def prefixFault (s : State) (i : Instr) : Option Exc :=
  if s.pfx.lock && !lockable i then some Exc.ud
  else if s.pfx.rep.any (fun r => !repeatable r i) then some Exc.ud
  else if s.pfx.lock && s.mode == .v86 && decide (s.flags.iopl < 3) then some (Exc.gp 0)
  else none

/-- The state after a prefix byte is seen. -/
def seen (f : Prefixes → Prefixes) (s : State) : Host.Outcome State Fault Refusal := .next { s with pfx := f s.pfx }

/-! ### The meanings -/

/-- ES:: 26 (R141). -/
def execEsOverride (s : State) : Host.Outcome State Fault Refusal := seen (fun p => { p with seg := some .es }) s

/-- CS:: 2E (R141). -/
def execCsOverride (s : State) : Host.Outcome State Fault Refusal := seen (fun p => { p with seg := some .cs }) s

/-- SS:: 36 (R141). -/
def execSsOverride (s : State) : Host.Outcome State Fault Refusal := seen (fun p => { p with seg := some .ss }) s

/-- DS:: 3E (R141). -/
def execDsOverride (s : State) : Host.Outcome State Fault Refusal := seen (fun p => { p with seg := some .ds }) s

/-- FS:: 64 (R141). -/
def execFsOverride (s : State) : Host.Outcome State Fault Refusal := seen (fun p => { p with seg := some .fs }) s

/-- GS:: 65 (R141). -/
def execGsOverride (s : State) : Host.Outcome State Fault Refusal := seen (fun p => { p with seg := some .gs }) s

/-- OPSIZE: 66 (R142). -/
def execOperandSize (s : State) : Host.Outcome State Fault Refusal := seen (fun p => { p with opsize := true }) s

/-- ADDRSIZE: 67 (R142). -/
def execAddressSize (s : State) : Host.Outcome State Fault Refusal := seen (fun p => { p with addrsize := true }) s

/-- LOCK: F0 (R366). -/
def execLock (s : State) : Host.Outcome State Fault Refusal := seen (fun p => { p with lock := true }) s

/-- REPNE: F2 (R378). -/
def execRepne (s : State) : Host.Outcome State Fault Refusal := seen (fun p => { p with rep := some .repne }) s

/-- REP/REPE: F3 (R378). -/
def execRep (s : State) : Host.Outcome State Fault Refusal := seen (fun p => { p with rep := some .rep }) s

end Sys2Proof.Machine
end

