-- ==== Sys2Proof/Machine/String.lean ====
section
/-!
DEFINITION. The string instructions and the repeat prefixes (43_string_rep.md): the shared operations of the family, then one
meaning for each of its instructions. One step of a repeated instruction is one iteration (R378, D31).
-/
namespace Sys2Proof.Machine

/-- The source offset: SI or ESI (R370). -/
def State.srcIndex (s : State) : DWord := s.regW s.asz .esi

/-- The destination offset: DI or EDI (R370). -/
def State.dstIndex (s : State) : DWord := s.regW s.asz .edi

/-- Advance an index register by the size, up or down as DF says (R370). -/
def advance (r : Reg) (sz : Size) : Op Unit := update fun s =>
  let n := BitVec.ofNat 32 sz.bytes
  s.setRegW s.asz r (if s.flags.df then s.reg r - n else s.reg r + n)

/-- MOVS (R371). -/
def movs (sz : Size) : Op Unit := do
  let s ← query id
  let v ← memRead (s.segOr .ds) s.srcIndex sz.bytes
  memWrite .es s.dstIndex sz.bytes v
  advance .esi sz
  advance .edi sz

/-- CMPS: the source minus the destination (R372). -/
def cmps (sz : Size) : Op Unit := do
  let s ← query id
  let a ← memRead (s.segOr .ds) s.srcIndex sz.bytes
  let b ← memRead .es s.dstIndex sz.bytes
  updateFlags fun f => f.sub sz a b false
  advance .esi sz
  advance .edi sz

/-- SCAS: the accumulator minus memory (R373). -/
def scas (sz : Size) : Op Unit := do
  let s ← query id
  let b ← memRead .es s.dstIndex sz.bytes
  updateFlags fun f => f.sub sz (s.acc sz) b false
  advance .edi sz

/-- LODS (R374). -/
def lods (sz : Size) : Op Unit := do
  let s ← query id
  let v ← memRead (s.segOr .ds) s.srcIndex sz.bytes
  update fun s => s.setAcc sz v
  advance .esi sz

/-- STOS (R375). -/
def stos (sz : Size) : Op Unit := do
  let s ← query id
  memWrite .es s.dstIndex sz.bytes (s.acc sz)
  advance .edi sz

/-- INS: the destination is checked before the port is read (R376, D20). -/
def ins (sz : Size) : Op Unit := do
  let s ← query id
  let port := s.gpr.edx.setWidth 16
  checkIo port sz
  checkWrite .es s.dstIndex sz.bytes
  let v ← ioRead port sz
  memWrite .es s.dstIndex sz.bytes v
  advance .edi sz

/-- OUTS: memory is read before the port is written (R377, D20). -/
def outs (sz : Size) : Op Unit := do
  let s ← query id
  let port := s.gpr.edx.setWidth 16
  checkIo port sz
  let v ← memRead (s.segOr .ds) s.srcIndex sz.bytes
  ioWrite port sz v
  advance .esi sz

/-- Whether a repeat prefix ends the repetition of a compare or scan (R378). -/
def Rep.ends (r : Rep) (zf : Bool) : Bool :=
  match r with
  | .rep => !zf
  | .repne => zf

/-- A string primitive under the repeat prefix, if there is one (R378). Between iterations EIP is the first prefix byte. -/
def repeated (compares : Bool) (prim : Op Unit) : Op Unit := do
  let s ← query id
  match s.pfx.rep with
  | none => prim
  | some kind =>
    if s.regW s.asz .ecx = 0 then pure ()
    else do
      prim
      update fun s => s.setRegW s.asz .ecx (s.reg .ecx - 1)
      let s' ← query id
      if (compares && kind.ends s'.flags.zf) || s'.regW s'.asz .ecx == 0 then pure () else setEip s.insnStart

/-- A string instruction of byte size. -/
def string8 (compares : Bool) (prim : Size → Op Unit) : Op Unit := repeated compares (prim .byte)

/-- A string instruction of operand size. -/
def stringV (compares : Bool) (prim : Size → Op Unit) : Op Unit := do
  let s ← query id
  repeated compares (prim s.osz.size)

/-! ### The meanings -/

/-- INSB ES:[(E)DI],DX; byte: 6C (R376). -/
def execInsb (s : State) : Host.Outcome State Fault Refusal := instr (string8 false ins) s

/-- INSW/INSD ES:[(E)DI],DX; word or dword by OperandSize: 6D (R376). -/
def execInsv (s : State) : Host.Outcome State Fault Refusal := instr (stringV false ins) s

/-- OUTSB DX,seg:[(E)SI]; byte: 6E (R377). -/
def execOutsb (s : State) : Host.Outcome State Fault Refusal := instr (string8 false outs) s

/-- OUTSW/OUTSD DX,seg:[(E)SI]; word or dword by OperandSize: 6F (R377). -/
def execOutsv (s : State) : Host.Outcome State Fault Refusal := instr (stringV false outs) s

/-- MOVSB byte: A4 (R371). -/
def execMovsb (s : State) : Host.Outcome State Fault Refusal := instr (string8 false movs) s

/-- MOVSW/MOVSD word or dword by OperandSize: A5 (R371). -/
def execMovsv (s : State) : Host.Outcome State Fault Refusal := instr (stringV false movs) s

/-- CMPSB byte: A6 (R372). -/
def execCmpsb (s : State) : Host.Outcome State Fault Refusal := instr (string8 true cmps) s

/-- CMPSW/CMPSD word or dword by OperandSize: A7 (R372). -/
def execCmpsv (s : State) : Host.Outcome State Fault Refusal := instr (stringV true cmps) s

/-- STOSB byte: AA (R375). -/
def execStosb (s : State) : Host.Outcome State Fault Refusal := instr (string8 false stos) s

/-- STOSW/STOSD word or dword by OperandSize: AB (R375). -/
def execStosv (s : State) : Host.Outcome State Fault Refusal := instr (stringV false stos) s

/-- LODSB byte: AC (R374). -/
def execLodsb (s : State) : Host.Outcome State Fault Refusal := instr (string8 false lods) s

/-- LODSW/LODSD word or dword by OperandSize: AD (R374). -/
def execLodsv (s : State) : Host.Outcome State Fault Refusal := instr (stringV false lods) s

/-- SCASB byte: AE (R373). -/
def execScasb (s : State) : Host.Outcome State Fault Refusal := instr (string8 true scas) s

/-- SCASW/SCASD word or dword by OperandSize: AF (R373). -/
def execScasv (s : State) : Host.Outcome State Fault Refusal := instr (stringV true scas) s

end Sys2Proof.Machine
end

