-- ==== Sys2Proof/Machine/System.lean ====
section
/-!
DEFINITION. System instructions (46_system.md): the shared operations of the family, then one meaning for each of its
instructions, and the coprocessor escape (30_encoding.md R176).
-/
namespace Sys2Proof.Machine

/-- The class A instructions are recognized in protected mode only (R174, R450). -/
def checkRecognized : Op Unit := do
  let s ← query id
  raiseIf (s.mode != .prot) Exc.ud

/-- Read a 16-bit r/m operand whatever the operand size. -/
def readRm16 (rm : RM Reg) : Op Word := do
  let s ← query id
  let v ← readLoc .word (locV s rm)
  pure (v.setWidth 16)

/-- Write a 16-bit r/m operand whatever the operand size; of a register the low half (D29). -/
def writeRm16 (rm : RM Reg) (v : Word) : Op Unit := do
  let s ← query id
  writeLoc .word (v.setWidth 32) (locV s rm)

/-- Set ZF. -/
def setZf (b : Bool) : Op Unit := updateFlags fun f => { f with zf := b }

/-! ### Selector checks (R451 to R461) -/

/-- ARPL; the write is checked whether or not it happens (R452, D20). -/
def adjustRpl (rm : RM Reg) (r : Reg) : Op Unit := do
  checkRecognized
  let s ← query id
  let d ← readRm16 rm
  checkWriteLoc .word (locV s rm)
  let src : Word := (s.reg r).setWidth 16
  if selRpl d < selRpl src then do
    writeRm16 rm (selWithRpl d (selRpl src))
    setZf true
  else setZf false

/-- `Probe(sel)`: the descriptor of a selector, or none; never a fault of the selector (R451). -/
def probe (sel : Word) : Op (Option Desc) := do
  if selNull sel then pure none
  else
    match ← query fun s => s.descAddr sel with
    | some a => do
      let d ← readDesc a
      pure (some d)
    | none => pure none

/-- `Visible(d, sel)`: a conforming code segment, or DPL at least CPL and RPL (R453). -/
def visible (d : Desc) (sel : Word) (cpl : BitVec 2) : Bool :=
  d.isConforming || (decide (cpl ≤ d.dpl) && decide (selRpl sel ≤ d.dpl))

/-- `TypeValidForLAR` (R113, R453). -/
def validForLar (d : Desc) : Bool :=
  d.s || !(d.type == 0 || d.type == 8 || d.type == 10 || d.type == 13)

/-- `TypeValidForLSL` (R113, R454). -/
def validForLsl (d : Desc) : Bool :=
  d.s || d.type == 1 || d.type == 2 || d.type == 3 || d.type == 9 || d.type == 11

/-- The selector operand of LAR and LSL: the low word of an operand of operand size (R453). -/
def readSelector (rm : RM Reg) : Op Word := do
  let s ← query id
  let v ← readLoc s.osz.size (locV s rm)
  pure (v.setWidth 16)

/-- LAR: bits 19:16 of the result are undefined (R453, U12). -/
def loadAccessRights (r : Reg) (rm : RM Reg) : Op Unit := do
  checkRecognized
  let sel ← readSelector rm
  let s ← query id
  match ← probe sel with
  | some d =>
    if validForLar d && visible d sel s.cpl then do
      let u ← drawUndef
      update fun s => s.setRegS s.osz.size r ((d.hi &&& 0x00F0FF00#32) ||| (u &&& 0x000F0000#32))
      setZf true
    else setZf false
  | none => setZf false

/-- LSL (R454). -/
def loadSegmentLimit (r : Reg) (rm : RM Reg) : Op Unit := do
  checkRecognized
  let sel ← readSelector rm
  let s ← query id
  match ← probe sel with
  | some d =>
    if validForLsl d && visible d sel s.cpl then do
      update fun s => s.setRegS s.osz.size r d.limit
      setZf true
    else setZf false
  | none => setZf false

/-- What VERR asks of a descriptor (R460). -/
def readableFrom (d : Desc) (sel : Word) (cpl : BitVec 2) : Bool :=
  (d.isData || d.isReadableCode) && visible d sel cpl

/-- What VERW asks of a descriptor (R461). -/
def writableFrom (d : Desc) (sel : Word) (cpl : BitVec 2) : Bool :=
  d.isWritableData && decide (cpl ≤ d.dpl) && decide (selRpl sel ≤ d.dpl)

/-- VERR and VERW (R460, R461). -/
def verify (test : Desc → Word → BitVec 2 → Bool) (rm : RM Reg) : Op Unit := do
  checkRecognized
  let sel ← readRm16 rm
  let s ← query id
  match ← probe sel with
  | some d => setZf (test d sel s.cpl)
  | none => setZf false

/-! ### Descriptor-table registers (R456 to R463) -/

/-- The six-byte operand of LGDT and LIDT: the limit and the base, 24 bits of it with a 16-bit operand size (R456). -/
def readTable (m : EA) : Op TableReg := do
  checkPrivileged
  let s ← query id
  let seg := s.segOr (defaultSegment m)
  let ea := effectiveOffset s m
  checkSeg seg ea 6 .read
  let lim ← memRead seg ea 2
  let b ← memRead seg (ea + 2) 4
  pure { limit := lim.setWidth 16, base := if s.osz = .w16 then b &&& 0x00FFFFFF#32 else b }

/-- SGDT and SIDT: the base has 24 bits with a 16-bit operand size (R457). -/
def storeTable (t : State → TableReg) (m : EA) : Op Unit := do
  let s ← query id
  let seg := s.segOr (defaultSegment m)
  let ea := effectiveOffset s m
  checkSeg seg ea 6 .write
  memWrite seg ea 2 ((t s).limit.setWidth 32)
  memWrite seg (ea + 2) 4 (if s.osz = .w16 then (t s).base &&& 0x00FFFFFF#32 else (t s).base)

/-- LGDT (R456). -/
def loadGdt (m : EA) : Op Unit := do
  let t ← readTable m
  update fun s => { s with gdtr := t }

/-- LIDT (R456). -/
def loadIdt (m : EA) : Op Unit := do
  let t ← readTable m
  update fun s => { s with idtr := t }

/-- LLDT (R458). -/
def loadLdt (rm : RM Reg) : Op Unit := do
  checkRecognized
  checkPrivileged
  let sel ← readRm16 rm
  if selNull sel then update fun s => { s with ldtr := { s.ldtr with sel := sel, valid := false } }
  else do
    let f ← lookupGdt sel (Exc.gp (selCode sel))
    raiseIf (!f.desc.isSystem 2) (Exc.gp (selCode sel))
    raiseIf (!f.desc.p) (Exc.np (selCode sel))
    update fun s => { s with ldtr := { sel := sel, base := f.desc.base, limit := f.desc.limit, valid := true } }

/-- SLDT (R459). -/
def storeLdt (rm : RM Reg) : Op Unit := do
  checkRecognized
  let s ← query id
  writeRm16 rm s.ldtr.sel

/-- LTR: the descriptor in memory is marked busy (R462). -/
def loadTaskRegister (rm : RM Reg) : Op Unit := do
  checkRecognized
  checkPrivileged
  let sel ← readRm16 rm
  raiseIf (selNull sel) (Exc.gp 0)
  let f ← lookupGdt sel (Exc.gp (selCode sel))
  raiseIf (!f.desc.isAvailableTss) (Exc.gp (selCode sel))
  raiseIf (!f.desc.p) (Exc.np (selCode sel))
  changeAccessRights f.addr fun b => b ||| 2#8
  update fun s => { s with tr := { sel := sel, base := f.desc.base, limit := f.desc.limit, is386 := f.desc.is386 } }

/-- STR (R463). -/
def storeTaskRegister (rm : RM Reg) : Op Unit := do
  checkRecognized
  let s ← query id
  writeRm16 rm s.tr.sel

/-! ### The machine status word and the special registers (R455, R464 to R468) -/

/-- LMSW: the low four bits of the operand; PE is not cleared (R464). -/
def loadMsw (rm : RM Reg) : Op Unit := do
  checkPrivileged
  let v ← readRm16 rm
  update fun s => { s with cr0 := (s.cr0 &&& 0xFFFFFFF1#32) ||| (v.setWidth 32 &&& 0x0000000F#32) }

/-- SMSW (R465). -/
def storeMsw (rm : RM Reg) : Op Unit := do
  let s ← query id
  writeRm16 rm (s.cr0.setWidth 16)

/-- CLTS (R455). -/
def clearTaskSwitched : Op Unit := do
  checkPrivileged
  update fun s => { s with cr0 := s.cr0 &&& 0xFFFFFFF7#32 }

/-- A control register. -/
def State.creg (s : State) : CReg → DWord
  | .cr0 => s.cr0
  | .cr2 => s.cr2
  | .cr3 => s.cr3

/-- The state after a control register is written: every bit is stored (R466, D18). -/
def State.setCreg (s : State) (c : CReg) (v : DWord) : State :=
  match c with
  | .cr0 => { s with cr0 := v }
  | .cr2 => { s with cr2 := v }
  | .cr3 => { s with cr3 := v }

/-- A debug register. -/
def State.dreg (s : State) : DReg → DWord
  | .dr0 => s.dr.dr0
  | .dr1 => s.dr.dr1
  | .dr2 => s.dr.dr2
  | .dr3 => s.dr.dr3
  | .dr6 => s.dr.dr6
  | .dr7 => s.dr.dr7

/-- The state after a debug register is written: plain storage (R49, R467). -/
def State.setDreg (s : State) (d : DReg) (v : DWord) : State :=
  match d with
  | .dr0 => { s with dr := { s.dr with dr0 := v } }
  | .dr1 => { s with dr := { s.dr with dr1 := v } }
  | .dr2 => { s with dr := { s.dr with dr2 := v } }
  | .dr3 => { s with dr := { s.dr with dr3 := v } }
  | .dr6 => { s with dr := { s.dr with dr6 := v } }
  | .dr7 => { s with dr := { s.dr with dr7 := v } }

/-- A test register. -/
def State.treg (s : State) : TReg → DWord
  | .tr6 => s.tr6
  | .tr7 => s.tr7

/-- The state after a test register is written: plain storage (R50, R468). -/
def State.setTreg (s : State) (t : TReg) (v : DWord) : State :=
  match t with
  | .tr6 => { s with tr6 := v }
  | .tr7 => { s with tr7 := v }

/-- A MOV to or from a special register: privileged, 32 bits, the status flags undefined (R466 to R468). -/
def moveSpecial (f : State → State) : Op Unit := do
  checkPrivileged
  update f
  undefFlags StatusMask.all

/-! ### The meanings -/

/-- ARPL r/m16,r16: 63 /r (R452). -/
def execArpl (rm : RM Reg) (r : Reg) (s : State) : Host.Outcome State Fault Refusal := instr (adjustRpl rm r) s

/-- ESC: D8-DF /r (R7, R176): #NM with EM or TS, #MF with
ERROR# active; else the coprocessor would act, which no source describes. -/
def execEsc (_op : BitVec 3) (_ext : BitVec 3) (_rm : RM Reg) (s : State) : Host.Outcome State Fault Refusal :=
  if s.em || s.ts then .next (s.raise Exc.nm)
  else if s.pins.error then .next (s.raise Exc.mf)
  else .refused .coprocessor

/-- SLDT r/m16: 0F 00 /0 (R459). -/
def execSldt (rm : RM Reg) (s : State) : Host.Outcome State Fault Refusal := instr (storeLdt rm) s

/-- STR r/m16: 0F 00 /1 (R463). -/
def execStr (rm : RM Reg) (s : State) : Host.Outcome State Fault Refusal := instr (storeTaskRegister rm) s

/-- LLDT r/m16: 0F 00 /2 (R458). -/
def execLldt (rm : RM Reg) (s : State) : Host.Outcome State Fault Refusal := instr (loadLdt rm) s

/-- LTR r/m16: 0F 00 /3 (R462). -/
def execLtr (rm : RM Reg) (s : State) : Host.Outcome State Fault Refusal := instr (loadTaskRegister rm) s

/-- VERR r/m16: 0F 00 /4 (R460). -/
def execVerr (rm : RM Reg) (s : State) : Host.Outcome State Fault Refusal := instr (verify readableFrom rm) s

/-- VERW r/m16: 0F 00 /5 (R461). -/
def execVerw (rm : RM Reg) (s : State) : Host.Outcome State Fault Refusal := instr (verify writableFrom rm) s

/-- SGDT m: 0F 01 /0 (R457). -/
def execSgdt (m : EA) (s : State) : Host.Outcome State Fault Refusal := instr (storeTable State.gdtr m) s

/-- SIDT m: 0F 01 /1 (R457). -/
def execSidt (m : EA) (s : State) : Host.Outcome State Fault Refusal := instr (storeTable State.idtr m) s

/-- LGDT m16&32: 0F 01 /2 (R456). -/
def execLgdt (m : EA) (s : State) : Host.Outcome State Fault Refusal := instr (loadGdt m) s

/-- LIDT m16&32: 0F 01 /3 (R456). -/
def execLidt (m : EA) (s : State) : Host.Outcome State Fault Refusal := instr (loadIdt m) s

/-- SMSW r/m16: 0F 01 /4 (R465). -/
def execSmsw (rm : RM Reg) (s : State) : Host.Outcome State Fault Refusal := instr (storeMsw rm) s

/-- LMSW r/m16: 0F 01 /6 (R464). -/
def execLmsw (rm : RM Reg) (s : State) : Host.Outcome State Fault Refusal := instr (loadMsw rm) s

/-- LAR r16/32,r/m16/32: 0F 02 /r (R453). -/
def execLar (r : Reg) (rm : RM Reg) (s : State) : Host.Outcome State Fault Refusal := instr (loadAccessRights r rm) s

/-- LSL r16/32,r/m16/32: 0F 03 /r (R454). -/
def execLsl (r : Reg) (rm : RM Reg) (s : State) : Host.Outcome State Fault Refusal := instr (loadSegmentLimit r rm) s

/-- MOV r32,CR0/CR2/CR3: 0F 20 /r (R466). -/
def execMovRdCr (r : Reg) (c : CReg) (s : State) : Host.Outcome State Fault Refusal :=
  instr (moveSpecial fun s => s.setReg r (s.creg c)) s

/-- MOV r32,DR0-3/DR6/DR7: 0F 21 /r (R467). -/
def execMovRdDr (r : Reg) (d : DReg) (s : State) : Host.Outcome State Fault Refusal :=
  instr (moveSpecial fun s => s.setReg r (s.dreg d)) s

/-- MOV CR0/CR2/CR3,r32: 0F 22 /r (R466). -/
def execMovCrRd (c : CReg) (r : Reg) (s : State) : Host.Outcome State Fault Refusal :=
  instr (moveSpecial fun s => s.setCreg c (s.reg r)) s

/-- MOV DR0-3/DR6/DR7,r32: 0F 23 /r (R467). -/
def execMovDrRd (d : DReg) (r : Reg) (s : State) : Host.Outcome State Fault Refusal :=
  instr (moveSpecial fun s => s.setDreg d (s.reg r)) s

/-- MOV r32,TR6/TR7: 0F 24 /r (R468). -/
def execMovRdTr (r : Reg) (t : TReg) (s : State) : Host.Outcome State Fault Refusal :=
  instr (moveSpecial fun s => s.setReg r (s.treg t)) s

/-- MOV TR6/TR7,r32: 0F 26 /r (R468). -/
def execMovTrRd (t : TReg) (r : Reg) (s : State) : Host.Outcome State Fault Refusal :=
  instr (moveSpecial fun s => s.setTreg t (s.reg r)) s

/-- CLTS: 0F 06 (R455). -/
def execClts (s : State) : Host.Outcome State Fault Refusal := instr (clearTaskSwitched) s

end Sys2Proof.Machine
end

