-- ==== Sys2Proof/Machine/Dispatch.lean ====
section
/-!
DEFINITION. The dispatch: one arm for each constructor of `Instr`, one call of its meaning.
-/
namespace Sys2Proof.Machine

/-- The meaning of an instruction. -/
def exec (i : Instr) (s : State) : Host.Outcome State Fault Refusal :=
  match i with
  | .addRm8R8 rm r => Sys2Proof.Machine.execAddRm8R8 rm r s
  | .addRmvRv rm r => Sys2Proof.Machine.execAddRmvRv rm r s
  | .addR8Rm8 r rm => Sys2Proof.Machine.execAddR8Rm8 r rm s
  | .addRvRmv r rm => Sys2Proof.Machine.execAddRvRmv r rm s
  | .addAlImm8 imm => Sys2Proof.Machine.execAddAlImm8 imm s
  | .addEaxImmv imm => Sys2Proof.Machine.execAddEaxImmv imm s
  | .addRm8Imm8 rm imm => Sys2Proof.Machine.execAddRm8Imm8 rm imm s
  | .addRmvImm rm imm => Sys2Proof.Machine.execAddRmvImm rm imm s
  | .orRm8R8 rm r => Sys2Proof.Machine.execOrRm8R8 rm r s
  | .orRmvRv rm r => Sys2Proof.Machine.execOrRmvRv rm r s
  | .orR8Rm8 r rm => Sys2Proof.Machine.execOrR8Rm8 r rm s
  | .orRvRmv r rm => Sys2Proof.Machine.execOrRvRmv r rm s
  | .orAlImm8 imm => Sys2Proof.Machine.execOrAlImm8 imm s
  | .orEaxImmv imm => Sys2Proof.Machine.execOrEaxImmv imm s
  | .orRm8Imm8 rm imm => Sys2Proof.Machine.execOrRm8Imm8 rm imm s
  | .orRmvImm rm imm => Sys2Proof.Machine.execOrRmvImm rm imm s
  | .adcRm8R8 rm r => Sys2Proof.Machine.execAdcRm8R8 rm r s
  | .adcRmvRv rm r => Sys2Proof.Machine.execAdcRmvRv rm r s
  | .adcR8Rm8 r rm => Sys2Proof.Machine.execAdcR8Rm8 r rm s
  | .adcRvRmv r rm => Sys2Proof.Machine.execAdcRvRmv r rm s
  | .adcAlImm8 imm => Sys2Proof.Machine.execAdcAlImm8 imm s
  | .adcEaxImmv imm => Sys2Proof.Machine.execAdcEaxImmv imm s
  | .adcRm8Imm8 rm imm => Sys2Proof.Machine.execAdcRm8Imm8 rm imm s
  | .adcRmvImm rm imm => Sys2Proof.Machine.execAdcRmvImm rm imm s
  | .sbbRm8R8 rm r => Sys2Proof.Machine.execSbbRm8R8 rm r s
  | .sbbRmvRv rm r => Sys2Proof.Machine.execSbbRmvRv rm r s
  | .sbbR8Rm8 r rm => Sys2Proof.Machine.execSbbR8Rm8 r rm s
  | .sbbRvRmv r rm => Sys2Proof.Machine.execSbbRvRmv r rm s
  | .sbbAlImm8 imm => Sys2Proof.Machine.execSbbAlImm8 imm s
  | .sbbEaxImmv imm => Sys2Proof.Machine.execSbbEaxImmv imm s
  | .sbbRm8Imm8 rm imm => Sys2Proof.Machine.execSbbRm8Imm8 rm imm s
  | .sbbRmvImm rm imm => Sys2Proof.Machine.execSbbRmvImm rm imm s
  | .andRm8R8 rm r => Sys2Proof.Machine.execAndRm8R8 rm r s
  | .andRmvRv rm r => Sys2Proof.Machine.execAndRmvRv rm r s
  | .andR8Rm8 r rm => Sys2Proof.Machine.execAndR8Rm8 r rm s
  | .andRvRmv r rm => Sys2Proof.Machine.execAndRvRmv r rm s
  | .andAlImm8 imm => Sys2Proof.Machine.execAndAlImm8 imm s
  | .andEaxImmv imm => Sys2Proof.Machine.execAndEaxImmv imm s
  | .andRm8Imm8 rm imm => Sys2Proof.Machine.execAndRm8Imm8 rm imm s
  | .andRmvImm rm imm => Sys2Proof.Machine.execAndRmvImm rm imm s
  | .subRm8R8 rm r => Sys2Proof.Machine.execSubRm8R8 rm r s
  | .subRmvRv rm r => Sys2Proof.Machine.execSubRmvRv rm r s
  | .subR8Rm8 r rm => Sys2Proof.Machine.execSubR8Rm8 r rm s
  | .subRvRmv r rm => Sys2Proof.Machine.execSubRvRmv r rm s
  | .subAlImm8 imm => Sys2Proof.Machine.execSubAlImm8 imm s
  | .subEaxImmv imm => Sys2Proof.Machine.execSubEaxImmv imm s
  | .subRm8Imm8 rm imm => Sys2Proof.Machine.execSubRm8Imm8 rm imm s
  | .subRmvImm rm imm => Sys2Proof.Machine.execSubRmvImm rm imm s
  | .xorRm8R8 rm r => Sys2Proof.Machine.execXorRm8R8 rm r s
  | .xorRmvRv rm r => Sys2Proof.Machine.execXorRmvRv rm r s
  | .xorR8Rm8 r rm => Sys2Proof.Machine.execXorR8Rm8 r rm s
  | .xorRvRmv r rm => Sys2Proof.Machine.execXorRvRmv r rm s
  | .xorAlImm8 imm => Sys2Proof.Machine.execXorAlImm8 imm s
  | .xorEaxImmv imm => Sys2Proof.Machine.execXorEaxImmv imm s
  | .xorRm8Imm8 rm imm => Sys2Proof.Machine.execXorRm8Imm8 rm imm s
  | .xorRmvImm rm imm => Sys2Proof.Machine.execXorRmvImm rm imm s
  | .cmpRm8R8 rm r => Sys2Proof.Machine.execCmpRm8R8 rm r s
  | .cmpRmvRv rm r => Sys2Proof.Machine.execCmpRmvRv rm r s
  | .cmpR8Rm8 r rm => Sys2Proof.Machine.execCmpR8Rm8 r rm s
  | .cmpRvRmv r rm => Sys2Proof.Machine.execCmpRvRmv r rm s
  | .cmpAlImm8 imm => Sys2Proof.Machine.execCmpAlImm8 imm s
  | .cmpEaxImmv imm => Sys2Proof.Machine.execCmpEaxImmv imm s
  | .cmpRm8Imm8 rm imm => Sys2Proof.Machine.execCmpRm8Imm8 rm imm s
  | .cmpRmvImm rm imm => Sys2Proof.Machine.execCmpRmvImm rm imm s
  | .incRv r => Sys2Proof.Machine.execIncRv r s
  | .decRv r => Sys2Proof.Machine.execDecRv r s
  | .pushRv r => Sys2Proof.Machine.execPushRv r s
  | .popRv r => Sys2Proof.Machine.execPopRv r s
  | .bound r m => Sys2Proof.Machine.execBound r m s
  | .arpl rm r => Sys2Proof.Machine.execArpl rm r s
  | .pushImmv imm => Sys2Proof.Machine.execPushImmv imm s
  | .imulRvRmvImmv r rm imm => Sys2Proof.Machine.execImulRvRmvImmv r rm imm s
  | .pushImm8 imm => Sys2Proof.Machine.execPushImm8 imm s
  | .imulRvRmvImm8 r rm imm => Sys2Proof.Machine.execImulRvRmvImm8 r rm imm s
  | .jo8 rel => Sys2Proof.Machine.execJo8 rel s
  | .jno8 rel => Sys2Proof.Machine.execJno8 rel s
  | .jb8 rel => Sys2Proof.Machine.execJb8 rel s
  | .jae8 rel => Sys2Proof.Machine.execJae8 rel s
  | .je8 rel => Sys2Proof.Machine.execJe8 rel s
  | .jne8 rel => Sys2Proof.Machine.execJne8 rel s
  | .jbe8 rel => Sys2Proof.Machine.execJbe8 rel s
  | .ja8 rel => Sys2Proof.Machine.execJa8 rel s
  | .js8 rel => Sys2Proof.Machine.execJs8 rel s
  | .jns8 rel => Sys2Proof.Machine.execJns8 rel s
  | .jp8 rel => Sys2Proof.Machine.execJp8 rel s
  | .jnp8 rel => Sys2Proof.Machine.execJnp8 rel s
  | .jl8 rel => Sys2Proof.Machine.execJl8 rel s
  | .jge8 rel => Sys2Proof.Machine.execJge8 rel s
  | .jle8 rel => Sys2Proof.Machine.execJle8 rel s
  | .jg8 rel => Sys2Proof.Machine.execJg8 rel s
  | .testRm8R8 rm r => Sys2Proof.Machine.execTestRm8R8 rm r s
  | .testRmvRv rm r => Sys2Proof.Machine.execTestRmvRv rm r s
  | .xchgRm8R8 rm r => Sys2Proof.Machine.execXchgRm8R8 rm r s
  | .xchgRmvRv rm r => Sys2Proof.Machine.execXchgRmvRv rm r s
  | .movRm8R8 rm r => Sys2Proof.Machine.execMovRm8R8 rm r s
  | .movRmvRv rm r => Sys2Proof.Machine.execMovRmvRv rm r s
  | .movR8Rm8 r rm => Sys2Proof.Machine.execMovR8Rm8 r rm s
  | .movRvRmv r rm => Sys2Proof.Machine.execMovRvRmv r rm s
  | .movRmvSreg rm sr => Sys2Proof.Machine.execMovRmvSreg rm sr s
  | .lea r m => Sys2Proof.Machine.execLea r m s
  | .movSregRm16 sr rm => Sys2Proof.Machine.execMovSregRm16 sr rm s
  | .popRmv rm => Sys2Proof.Machine.execPopRmv rm s
  | .xchgEaxRv r => Sys2Proof.Machine.execXchgEaxRv r s
  | .callFarPtr off sel => Sys2Proof.Machine.execCallFarPtr off sel s
  | .movAlMoffs off => Sys2Proof.Machine.execMovAlMoffs off s
  | .movEaxMoffs off => Sys2Proof.Machine.execMovEaxMoffs off s
  | .movMoffsAl off => Sys2Proof.Machine.execMovMoffsAl off s
  | .movMoffsEax off => Sys2Proof.Machine.execMovMoffsEax off s
  | .testAlImm8 imm => Sys2Proof.Machine.execTestAlImm8 imm s
  | .testEaxImmv imm => Sys2Proof.Machine.execTestEaxImmv imm s
  | .movR8Imm8 r imm => Sys2Proof.Machine.execMovR8Imm8 r imm s
  | .movRvImmv r imm => Sys2Proof.Machine.execMovRvImmv r imm s
  | .rolRm8 rm count => Sys2Proof.Machine.execRolRm8 rm count s
  | .rolRmv rm count => Sys2Proof.Machine.execRolRmv rm count s
  | .rorRm8 rm count => Sys2Proof.Machine.execRorRm8 rm count s
  | .rorRmv rm count => Sys2Proof.Machine.execRorRmv rm count s
  | .rclRm8 rm count => Sys2Proof.Machine.execRclRm8 rm count s
  | .rclRmv rm count => Sys2Proof.Machine.execRclRmv rm count s
  | .rcrRm8 rm count => Sys2Proof.Machine.execRcrRm8 rm count s
  | .rcrRmv rm count => Sys2Proof.Machine.execRcrRmv rm count s
  | .salRm8 rm count => Sys2Proof.Machine.execSalRm8 rm count s
  | .salRmv rm count => Sys2Proof.Machine.execSalRmv rm count s
  | .shrRm8 rm count => Sys2Proof.Machine.execShrRm8 rm count s
  | .shrRmv rm count => Sys2Proof.Machine.execShrRmv rm count s
  | .sarRm8 rm count => Sys2Proof.Machine.execSarRm8 rm count s
  | .sarRmv rm count => Sys2Proof.Machine.execSarRmv rm count s
  | .retNearImm n => Sys2Proof.Machine.execRetNearImm n s
  | .les r m => Sys2Proof.Machine.execLes r m s
  | .lds r m => Sys2Proof.Machine.execLds r m s
  | .movRm8Imm8 rm imm => Sys2Proof.Machine.execMovRm8Imm8 rm imm s
  | .movRmvImmv rm imm => Sys2Proof.Machine.execMovRmvImmv rm imm s
  | .enter n level => Sys2Proof.Machine.execEnter n level s
  | .retFarImm n => Sys2Proof.Machine.execRetFarImm n s
  | .int n => Sys2Proof.Machine.execInt n s
  | .esc op ext rm => Sys2Proof.Machine.execEsc op ext rm s
  | .loopne rel => Sys2Proof.Machine.execLoopne rel s
  | .loope rel => Sys2Proof.Machine.execLoope rel s
  | .loop rel => Sys2Proof.Machine.execLoop rel s
  | .jcxz rel => Sys2Proof.Machine.execJcxz rel s
  | .inAlImm8 port => Sys2Proof.Machine.execInAlImm8 port s
  | .inEaxImm8 port => Sys2Proof.Machine.execInEaxImm8 port s
  | .outImm8Al port => Sys2Proof.Machine.execOutImm8Al port s
  | .outImm8Eax port => Sys2Proof.Machine.execOutImm8Eax port s
  | .callRelv rel => Sys2Proof.Machine.execCallRelv rel s
  | .jmpRelv rel => Sys2Proof.Machine.execJmpRelv rel s
  | .jmpFarPtr off sel => Sys2Proof.Machine.execJmpFarPtr off sel s
  | .jmpRel8 rel => Sys2Proof.Machine.execJmpRel8 rel s
  | .testRm8Imm8 rm imm => Sys2Proof.Machine.execTestRm8Imm8 rm imm s
  | .testRmvImmv rm imm => Sys2Proof.Machine.execTestRmvImmv rm imm s
  | .notRm8 rm => Sys2Proof.Machine.execNotRm8 rm s
  | .notRmv rm => Sys2Proof.Machine.execNotRmv rm s
  | .negRm8 rm => Sys2Proof.Machine.execNegRm8 rm s
  | .negRmv rm => Sys2Proof.Machine.execNegRmv rm s
  | .mulRm8 rm => Sys2Proof.Machine.execMulRm8 rm s
  | .mulRmv rm => Sys2Proof.Machine.execMulRmv rm s
  | .imulRm8 rm => Sys2Proof.Machine.execImulRm8 rm s
  | .imulRmv rm => Sys2Proof.Machine.execImulRmv rm s
  | .divRm8 rm => Sys2Proof.Machine.execDivRm8 rm s
  | .divRmv rm => Sys2Proof.Machine.execDivRmv rm s
  | .idivRm8 rm => Sys2Proof.Machine.execIdivRm8 rm s
  | .idivRmv rm => Sys2Proof.Machine.execIdivRmv rm s
  | .incRm8 rm => Sys2Proof.Machine.execIncRm8 rm s
  | .decRm8 rm => Sys2Proof.Machine.execDecRm8 rm s
  | .incRmv rm => Sys2Proof.Machine.execIncRmv rm s
  | .decRmv rm => Sys2Proof.Machine.execDecRmv rm s
  | .callRmv rm => Sys2Proof.Machine.execCallRmv rm s
  | .callFarMem m => Sys2Proof.Machine.execCallFarMem m s
  | .jmpRmv rm => Sys2Proof.Machine.execJmpRmv rm s
  | .jmpFarMem m => Sys2Proof.Machine.execJmpFarMem m s
  | .pushRmv rm => Sys2Proof.Machine.execPushRmv rm s
  | .sldt rm => Sys2Proof.Machine.execSldt rm s
  | .str rm => Sys2Proof.Machine.execStr rm s
  | .lldt rm => Sys2Proof.Machine.execLldt rm s
  | .ltr rm => Sys2Proof.Machine.execLtr rm s
  | .verr rm => Sys2Proof.Machine.execVerr rm s
  | .verw rm => Sys2Proof.Machine.execVerw rm s
  | .sgdt m => Sys2Proof.Machine.execSgdt m s
  | .sidt m => Sys2Proof.Machine.execSidt m s
  | .lgdt m => Sys2Proof.Machine.execLgdt m s
  | .lidt m => Sys2Proof.Machine.execLidt m s
  | .smsw rm => Sys2Proof.Machine.execSmsw rm s
  | .lmsw rm => Sys2Proof.Machine.execLmsw rm s
  | .lar r rm => Sys2Proof.Machine.execLar r rm s
  | .lsl r rm => Sys2Proof.Machine.execLsl r rm s
  | .movRdCr r c => Sys2Proof.Machine.execMovRdCr r c s
  | .movRdDr r d => Sys2Proof.Machine.execMovRdDr r d s
  | .movCrRd c r => Sys2Proof.Machine.execMovCrRd c r s
  | .movDrRd d r => Sys2Proof.Machine.execMovDrRd d r s
  | .movRdTr r t => Sys2Proof.Machine.execMovRdTr r t s
  | .movTrRd t r => Sys2Proof.Machine.execMovTrRd t r s
  | .joNear rel => Sys2Proof.Machine.execJoNear rel s
  | .jnoNear rel => Sys2Proof.Machine.execJnoNear rel s
  | .jbNear rel => Sys2Proof.Machine.execJbNear rel s
  | .jaeNear rel => Sys2Proof.Machine.execJaeNear rel s
  | .jeNear rel => Sys2Proof.Machine.execJeNear rel s
  | .jneNear rel => Sys2Proof.Machine.execJneNear rel s
  | .jbeNear rel => Sys2Proof.Machine.execJbeNear rel s
  | .jaNear rel => Sys2Proof.Machine.execJaNear rel s
  | .jsNear rel => Sys2Proof.Machine.execJsNear rel s
  | .jnsNear rel => Sys2Proof.Machine.execJnsNear rel s
  | .jpNear rel => Sys2Proof.Machine.execJpNear rel s
  | .jnpNear rel => Sys2Proof.Machine.execJnpNear rel s
  | .jlNear rel => Sys2Proof.Machine.execJlNear rel s
  | .jgeNear rel => Sys2Proof.Machine.execJgeNear rel s
  | .jleNear rel => Sys2Proof.Machine.execJleNear rel s
  | .jgNear rel => Sys2Proof.Machine.execJgNear rel s
  | .seto rm => Sys2Proof.Machine.execSeto rm s
  | .setno rm => Sys2Proof.Machine.execSetno rm s
  | .setb rm => Sys2Proof.Machine.execSetb rm s
  | .setae rm => Sys2Proof.Machine.execSetae rm s
  | .sete rm => Sys2Proof.Machine.execSete rm s
  | .setne rm => Sys2Proof.Machine.execSetne rm s
  | .setbe rm => Sys2Proof.Machine.execSetbe rm s
  | .seta rm => Sys2Proof.Machine.execSeta rm s
  | .sets rm => Sys2Proof.Machine.execSets rm s
  | .setns rm => Sys2Proof.Machine.execSetns rm s
  | .setp rm => Sys2Proof.Machine.execSetp rm s
  | .setnp rm => Sys2Proof.Machine.execSetnp rm s
  | .setl rm => Sys2Proof.Machine.execSetl rm s
  | .setge rm => Sys2Proof.Machine.execSetge rm s
  | .setle rm => Sys2Proof.Machine.execSetle rm s
  | .setg rm => Sys2Proof.Machine.execSetg rm s
  | .btRmvRv rm r => Sys2Proof.Machine.execBtRmvRv rm r s
  | .shldImm8 rm r imm => Sys2Proof.Machine.execShldImm8 rm r imm s
  | .shldCl rm r => Sys2Proof.Machine.execShldCl rm r s
  | .btsRmvRv rm r => Sys2Proof.Machine.execBtsRmvRv rm r s
  | .shrdImm8 rm r imm => Sys2Proof.Machine.execShrdImm8 rm r imm s
  | .shrdCl rm r => Sys2Proof.Machine.execShrdCl rm r s
  | .imulRvRmv r rm => Sys2Proof.Machine.execImulRvRmv r rm s
  | .lss r m => Sys2Proof.Machine.execLss r m s
  | .btrRmvRv rm r => Sys2Proof.Machine.execBtrRmvRv rm r s
  | .lfs r m => Sys2Proof.Machine.execLfs r m s
  | .lgs r m => Sys2Proof.Machine.execLgs r m s
  | .movzxRvRm8 r rm => Sys2Proof.Machine.execMovzxRvRm8 r rm s
  | .movzxRdRm16 r rm => Sys2Proof.Machine.execMovzxRdRm16 r rm s
  | .btRmvImm8 rm imm => Sys2Proof.Machine.execBtRmvImm8 rm imm s
  | .btsRmvImm8 rm imm => Sys2Proof.Machine.execBtsRmvImm8 rm imm s
  | .btrRmvImm8 rm imm => Sys2Proof.Machine.execBtrRmvImm8 rm imm s
  | .btcRmvImm8 rm imm => Sys2Proof.Machine.execBtcRmvImm8 rm imm s
  | .btcRmvRv rm r => Sys2Proof.Machine.execBtcRmvRv rm r s
  | .bsf r rm => Sys2Proof.Machine.execBsf r rm s
  | .bsr r rm => Sys2Proof.Machine.execBsr r rm s
  | .movsxRvRm8 r rm => Sys2Proof.Machine.execMovsxRvRm8 r rm s
  | .movsxRdRm16 r rm => Sys2Proof.Machine.execMovsxRdRm16 r rm s
  | .pushEs => Sys2Proof.Machine.execPushEs s
  | .popEs => Sys2Proof.Machine.execPopEs s
  | .pushCs => Sys2Proof.Machine.execPushCs s
  | .pushSs => Sys2Proof.Machine.execPushSs s
  | .popSs => Sys2Proof.Machine.execPopSs s
  | .pushDs => Sys2Proof.Machine.execPushDs s
  | .popDs => Sys2Proof.Machine.execPopDs s
  | .pushFs => Sys2Proof.Machine.execPushFs s
  | .popFs => Sys2Proof.Machine.execPopFs s
  | .pushGs => Sys2Proof.Machine.execPushGs s
  | .popGs => Sys2Proof.Machine.execPopGs s
  | .daa => Sys2Proof.Machine.execDaa s
  | .das => Sys2Proof.Machine.execDas s
  | .aaa => Sys2Proof.Machine.execAaa s
  | .aas => Sys2Proof.Machine.execAas s
  | .esOverride => Sys2Proof.Machine.execEsOverride s
  | .csOverride => Sys2Proof.Machine.execCsOverride s
  | .ssOverride => Sys2Proof.Machine.execSsOverride s
  | .dsOverride => Sys2Proof.Machine.execDsOverride s
  | .fsOverride => Sys2Proof.Machine.execFsOverride s
  | .gsOverride => Sys2Proof.Machine.execGsOverride s
  | .operandSize => Sys2Proof.Machine.execOperandSize s
  | .addressSize => Sys2Proof.Machine.execAddressSize s
  | .lock => Sys2Proof.Machine.execLock s
  | .repne => Sys2Proof.Machine.execRepne s
  | .rep => Sys2Proof.Machine.execRep s
  | .pusha => Sys2Proof.Machine.execPusha s
  | .popa => Sys2Proof.Machine.execPopa s
  | .insb => Sys2Proof.Machine.execInsb s
  | .insv => Sys2Proof.Machine.execInsv s
  | .outsb => Sys2Proof.Machine.execOutsb s
  | .outsv => Sys2Proof.Machine.execOutsv s
  | .nop => Sys2Proof.Machine.execNop s
  | .cbw => Sys2Proof.Machine.execCbw s
  | .cwd => Sys2Proof.Machine.execCwd s
  | .wait => Sys2Proof.Machine.execWait s
  | .pushf => Sys2Proof.Machine.execPushf s
  | .popf => Sys2Proof.Machine.execPopf s
  | .sahf => Sys2Proof.Machine.execSahf s
  | .lahf => Sys2Proof.Machine.execLahf s
  | .movsb => Sys2Proof.Machine.execMovsb s
  | .movsv => Sys2Proof.Machine.execMovsv s
  | .cmpsb => Sys2Proof.Machine.execCmpsb s
  | .cmpsv => Sys2Proof.Machine.execCmpsv s
  | .stosb => Sys2Proof.Machine.execStosb s
  | .stosv => Sys2Proof.Machine.execStosv s
  | .lodsb => Sys2Proof.Machine.execLodsb s
  | .lodsv => Sys2Proof.Machine.execLodsv s
  | .scasb => Sys2Proof.Machine.execScasb s
  | .scasv => Sys2Proof.Machine.execScasv s
  | .retNear => Sys2Proof.Machine.execRetNear s
  | .leave => Sys2Proof.Machine.execLeave s
  | .retFar => Sys2Proof.Machine.execRetFar s
  | .int3 => Sys2Proof.Machine.execInt3 s
  | .into => Sys2Proof.Machine.execInto s
  | .iret => Sys2Proof.Machine.execIret s
  | .aam => Sys2Proof.Machine.execAam s
  | .aad => Sys2Proof.Machine.execAad s
  | .xlat => Sys2Proof.Machine.execXlat s
  | .inAlDx => Sys2Proof.Machine.execInAlDx s
  | .inEaxDx => Sys2Proof.Machine.execInEaxDx s
  | .outDxAl => Sys2Proof.Machine.execOutDxAl s
  | .outDxEax => Sys2Proof.Machine.execOutDxEax s
  | .hlt => Sys2Proof.Machine.execHlt s
  | .cmc => Sys2Proof.Machine.execCmc s
  | .clc => Sys2Proof.Machine.execClc s
  | .stc => Sys2Proof.Machine.execStc s
  | .cli => Sys2Proof.Machine.execCli s
  | .sti => Sys2Proof.Machine.execSti s
  | .cld => Sys2Proof.Machine.execCld s
  | .std => Sys2Proof.Machine.execStd s
  | .clts => Sys2Proof.Machine.execClts s

end Sys2Proof.Machine
end

