-- ==== Sys2Proof/Machine/Boundary.lean ====
section
/-!
DEFINITION. What the machine does at an instruction boundary (60_exceptions.md R510 to R513, R536, R537), RESET
(70_reset_and_hazards.md R560), and the fetch, decoding and execution of one instruction (30_encoding.md R140, R141, R186;
60_exceptions.md R505).
-/
namespace Sys2Proof.Machine

/-! ### The pins and RESET -/

/-- The state with the next sample of the pins taken from the environment's stream; an NMI edge is remembered (R512). -/
def State.sample (s : State) : State :=
  match s.inputs with
  | [] => { s with pins := Pins.idle }
  | p :: rest => { s with inputs := rest, pins := p, nmiPending := s.nmiPending || p.nmi }

/-- The `k`-th value drawn by RESET for a register that R57 leaves undefined. -/
def State.resetDraw (s : State) (k : Nat) : DWord := Config.undef (s.draws + k)

/-- The state after a signal on the RESET pin in the course of a run: the table of R57, with a free value for each register
that it marks U; memory and the environment are kept (R560). R57 calls LDTR and TR unusable until they are loaded. The LDT
register is marked as naming no usable table; TR has no such mark (R44), and what reads through it before LTR (an inner-stack
lookup, an I/O-permission check, a task switch) goes by the free base, limit and kind (DESIGN CHOICE, log entry 9). -/
def State.resetSignal (s : State) : State :=
  { State.reset with
    gpr := { eax := Config.selftestEax, ecx := s.resetDraw 0, edx := Config.edxReset, ebx := s.resetDraw 1,
             esp := s.resetDraw 2, ebp := s.resetDraw 3, esi := s.resetDraw 4, edi := s.resetDraw 5 }
    gdtr := { base := s.resetDraw 6, limit := (s.resetDraw 7).setWidth 16 }
    ldtr := { sel := (s.resetDraw 8).setWidth 16, base := s.resetDraw 9, limit := s.resetDraw 10, valid := false }
    tr := { sel := (s.resetDraw 11).setWidth 16, base := s.resetDraw 12, limit := s.resetDraw 13,
            is386 := (s.resetDraw 14).getLsbD 0 }
    cr2 := s.resetDraw 15
    cr3 := s.resetDraw 16
    dr := { dr0 := s.resetDraw 17, dr1 := s.resetDraw 18, dr2 := s.resetDraw 19, dr3 := s.resetDraw 20,
            dr6 := s.resetDraw 21, dr7 := s.resetDraw 22 }
    tr6 := s.resetDraw 23
    tr7 := s.resetDraw 24
    draws := s.draws + 25
    pins := s.pins
    inputs := s.inputs
    ioWrites := s.ioWrites
    mem := s.mem }

/-! ### Events at a boundary (R510, R512) -/

/-- What is delivered at a boundary: the single-step trap, NMI, or INTR with its vector. -/
inductive Event where
  | trap
  | nmi
  | intr (n : Byte)
deriving DecidableEq, Repr

/-- Whether WAIT is waiting. Its single-step trap comes after it completes. -/
def Run.isWaiting : Run → Bool
  | .waiting _ => true
  | _ => false

/-- The event that is due at the boundary, by the order of steps 2 to 5 of R512. In shutdown only NMI is looked at (R536). -/
def State.eventDue (s : State) : Option Event :=
  if s.trapDue && s.inhibit != .all && !s.run.isWaiting && s.run != .shutdown then some .trap
  else if s.nmiPending && !s.nmiBlocked && s.inhibit != .all then some .nmi
  else if s.run = .shutdown then none
  else if s.flags.ifl && s.inhibit == .none then s.pins.intr.map Event.intr
  else none

/-- The delivery of an event, with EIP as the return address (R510, R512). -/
def State.takeEvent (s : State) (e : Event) : State :=
  let s := { s with trapDue := false, inhibit := .none }
  match e with
  | .trap => s.deliver 1 .exception none s.eip
  | .nmi => { ({ s with nmiPending := false } : State).deliver 2 .external none s.eip with nmiBlocked := true }
  | .intr n => s.deliver n.toNat .external none s.eip

/-! ### Fetch (R141, R186, R505 steps 1 and 2) -/

/-- Up to `n` bytes from an offset in CS, and the exception that the first byte which cannot be fetched would raise. An
offset past 0FFFFFFFFH is a limit violation (D16), and so is a byte beyond the fifteenth. -/
def fetchBytes (s : State) : Nat → Nat → List Byte × Exc
  | 0, _ => ([], Exc.gp 0)
  | n + 1, off =>
    if 4294967296 ≤ off then ([], Exc.gp 0)
    else
      match fetchByte (BitVec.ofNat 32 off) s with
      | .ok b _ => let r := fetchBytes s n (off + 1); (b :: r.1, r.2)
      | .error e _ => ([], e)

/-- An instruction with its length in bytes, or the exception that its fetch or decoding raises. -/
def fetchDecode (s : State) : Except Exc (Decoded × Nat) :=
  let f := fetchBytes s maxLength s.eip.toNat
  match decode s.defaultSize f.1 with
  | .ok d rest =>
    let n := f.1.length - rest.length
    if 4294967296 ≤ s.eip.toNat + n then .error (Exc.gp 0) else .ok (d, n)
  | .more => .error f.2
  | .undefined _ => .error Exc.ud

/-! ### One instruction -/

/-- The outcome with the prefixes of the instruction forgotten. -/
def forgetPrefixes : Host.Outcome State Fault Refusal → Host.Outcome State Fault Refusal
  | .next s => .next { s with pfx := Prefixes.empty }
  | .fault r => .fault r
  | .refused r => .refused r

/-- Run prefixes in order, then an instruction under them; a LOCK or a repeat prefix that may not stand there raises its
exception (R173, R366, R379). -/
def runDecoded (i : Instr) : List Instr → State → Host.Outcome State Fault Refusal
  | [], s =>
    match prefixFault s i with
    | some e => .next (s.raise e)
    | none => exec i s
  | p :: rest, s =>
    match exec p s with
    | .next s' => runDecoded i rest s'
    | .fault r => .fault r
    | .refused r => .refused r

/-- The state in which an instruction is fetched: TF is sampled for the single-step trap (R510), and the first byte is
noted (R503). -/
def State.begin (s : State) : State := { s with trapDue := s.flags.tf, insnStart := s.eip, pfx := Prefixes.empty }

/-- The state in which an instruction of `n` bytes executes: EIP is the offset of the next one (R24). -/
def State.past (s : State) (n : Nat) : State := { s with eip := s.eip + BitVec.ofNat 32 n }

/-- Fetch, decode and execute one instruction (R512 step 7). -/
def executeNext (s : State) : Host.Outcome State Fault Refusal :=
  match fetchDecode s.begin with
  | .ok (d, n) => forgetPrefixes (runDecoded d.instr d.prefixes (s.begin.past n))
  | .error e => .next (s.begin.raise e)

/-- What the machine does at a boundary when no event is delivered: run, or stay halted, shut down or waiting. A WAIT
completes when BUSY# is inactive (R512 step 7, R536, R537). -/
def proceed (s : State) : Host.Outcome State Fault Refusal :=
  match s.run with
  | .running => executeNext s
  | .waiting next => if s.pins.busy then .next s else .next { s with run := .running, eip := next }
  | .halted => .next s
  | .shutdown => .next s

/-- One boundary: RESET, or an event, or the next instruction (R512). -/
def boundary (s : State) : Host.Outcome State Fault Refusal :=
  if s.pins.reset then .next s.resetSignal
  else
    match s.eventDue with
    | some e => .next (s.takeEvent e)
    | none => proceed { s with inhibit := .none }

/-! ### Placing an instruction where the next one is fetched -/

/-- Memory with bytes stored at consecutive physical addresses, modulo 2^32. -/
def Memory.place : List Host.Cell → DWord → List Byte → List Host.Cell
  | m, _, [] => m
  | m, a, b :: rest => Memory.place (Memory.write m a.toNat b) (a + 1) rest

/-- The state with bytes stored at CS:EIP (paging off), and nothing due before the instruction there. -/
def State.placeAtFetch (s : State) (bs : List Byte) : State :=
  { s with
    mem := Memory.place s.mem (s.linear .cs s.eip) bs
    run := .running
    trapDue := false
    nmiPending := false
    inputs := [] }

end Sys2Proof.Machine
end

