-- ==== Sys2Proof/Machine/Step.lean ====
section
/-!
DEFINITION. One step of the machine: the pins are sampled, then the boundary of 60_exceptions.md R512 is passed. A step
delivers one event or executes one instruction, or one iteration of a repeated string instruction.
-/
namespace Sys2Proof.Machine

/-- One step. -/
def step (s : State) : Host.Outcome State Fault Refusal := boundary s.sample

/-- The state with a word of spec/opcode_table.json, and zeros after it, where the next step fetches its instruction. -/
def State.withFetchWord (s : State) (nbits w : Nat) : State := s.placeAtFetch (tableWordPadded nbits w)

end Sys2Proof.Machine
end

