-- ==== Sys2Proof/Safety.lean ====
section
/-!
DEFINITION. The terms in which claims are made: what a safe run is, the invariant of the machine, which accesses are allowed
and what they read and store, and frames.
-/
namespace Sys2Proof.Machine

/-! ### Safe steps and the invariant -/

/-- A step or an instruction is safe when it answers a next state: neither a fault nor a refusal. -/
def Answers (o : Host.Outcome State Fault Refusal) : Prop := ∃ t, o = .next t

/-- The legal combinations of mode and privilege: outside protected mode VM is 0 and CPL is 0; in V86 mode CPL is 3 (R2, R41). -/
def State.legalMode (s : State) : Bool := (s.pe || (!s.flags.vm && s.cpl == 0)) && (!s.flags.vm || s.cpl == 3)

/-- The invariant: memory is in canonical form and the mode and privilege go together. -/
def State.Inv (s : State) : Prop := Memory.wf s.mem = true ∧ s.legalMode = true

/-! ### Allowed accesses -/

/-- The physical addresses of `n` bytes from an offset in a segment, or none where paging refuses one (R100, R118). -/
def State.range (s : State) (k : AccessKind) (seg : SReg) (off : DWord) (n : Nat) : Option (List DWord) :=
  match translateRange k s.user n (s.linear seg off) s with
  | .ok addrs _ => some addrs
  | .error _ _ => none

/-- An access of `n` bytes passes the segment checks and paging (R100). -/
abbrev Allowed (s : State) (k : AccessKind) (seg : SReg) (off : DWord) (n : Nat) : Prop :=
  segFault s.mode seg (s.sreg seg) off n k = none ∧ (s.range k seg off n).isSome

/-- What `n` bytes from an offset in a segment read as. -/
def State.loaded (s : State) (seg : SReg) (off : DWord) (n : Nat) : DWord :=
  valueOf (Memory.readAll s.mem ((s.range .read seg off n).getD []))

/-- The state after `n` bytes are stored from an offset in a segment on. -/
def State.storedAt (s : State) (seg : SReg) (off : DWord) (n : Nat) (v : DWord) : State :=
  { s with mem := Memory.writeAll s.mem ((s.range .write seg off n).getD []) v }

/-- An operand can be read: a register always, a memory operand where the read is allowed. -/
abbrev Readable (s : State) (sz : Size) : Loc → Prop
  | .mem seg off => Allowed s .read seg off sz.bytes
  | .reg8 _ => True
  | .reg _ => True

/-- An operand can be written. -/
abbrev Writable (s : State) (sz : Size) : Loc → Prop
  | .mem seg off => Allowed s .write seg off sz.bytes
  | .reg8 _ => True
  | .reg _ => True

/-- The value of an operand that can be read, zero-extended. -/
def State.value (s : State) (sz : Size) : Loc → DWord
  | .reg8 r => (s.reg8 r).setWidth 32
  | .reg r => s.regS sz r
  | .mem seg off => s.loaded seg off sz.bytes

/-- The state after a value is stored in an operand that can be written: a register, or the bytes at the operand's address. -/
def State.stored (s : State) (sz : Size) (l : Loc) (v : DWord) : State :=
  match l with
  | .reg8 r => s.setReg8 r (v.setWidth 8)
  | .reg r => s.setRegS sz r v
  | .mem seg off => s.storedAt seg off sz.bytes v

/-- The physical addresses that a store to an operand writes: none for a register. -/
def State.storeAddrs (s : State) (sz : Size) : Loc → List DWord
  | .mem seg off => (s.range .write seg off sz.bytes).getD []
  | .reg8 _ => []
  | .reg _ => []

/-! ### Frames -/

/-- Every byte of memory outside a list of addresses is unchanged. -/
def OnlyBytes (addrs : List DWord) (s t : State) : Prop :=
  ∀ a : Nat, (∀ x ∈ addrs, a ≠ x.toNat) → Memory.read t.mem a = Memory.read s.mem a

/-- Every general register outside a list is unchanged. -/
def OnlyRegs (rs : List Reg) (s t : State) : Prop := ∀ r : Reg, r ∉ rs → t.reg r = s.reg r

/-- The state with the status flags of a mask drawn afresh: each becomes a free value (R29). -/
def State.undefined (s : State) (m : StatusMask) : State :=
  { s with flags := s.flags.scramble m (Config.undef s.draws), draws := s.draws + 1 }

/-! ### The stack -/

/-- The stack offset after a push of a width (R300). -/
def State.pushSp (s : State) (w : Width) : DWord := truncTo s.ssz (s.sp - BitVec.ofNat 32 w.bytes)

/-- A push of a width is allowed. -/
abbrev CanPush (s : State) (w : Width) : Prop := Allowed s .write .ss (s.pushSp w) w.bytes

/-- The state after a push (R300). -/
def State.pushed (s : State) (w : Width) (v : DWord) : State :=
  (s.storedAt .ss (s.pushSp w) w.bytes v).setSp (s.pushSp w)

/-- A pop of a width is allowed. -/
abbrev CanPop (s : State) (w : Width) : Prop := Allowed s .read .ss s.sp w.bytes

/-- The value on top of the stack. -/
def State.top (s : State) (w : Width) : DWord := s.loaded .ss s.sp w.bytes

/-- The state after a pop: the stack pointer alone moves (R301). -/
def State.popped (s : State) (w : Width) : State := s.setSp (s.sp + BitVec.ofNat 32 w.bytes)

end Sys2Proof.Machine
end

