-- ==== Sys2Proof/Certificates/Slice0/Obligations.lean ====
section
/-!
DEFINITION. The obligations: what the provers are asked to prove of the model. A claim about an instruction names every
constructor it covers, either itself or through a table of forms (`aluForm`, `shiftForm`, …) that gives for each constructor its
operation, size and operands. Hypotheses are about the state and the operands alone; the conclusion is that `exec` answers a
next state, which is written out, so that everything it does not mention is unchanged. `State.stored`, `State.pushed` and the
rest are in `Sys2Proof/Safety.lean`. A register or a flag that the spec calls undefined is a value of `Config.undef`, of which
nothing is known.
-/
open Sys2Proof Sys2Proof.Machine

namespace Sys2Proof.Claims

/-- The prefix constructors (R141). -/
def prefixInstrs : List Instr :=
  [.esOverride, .csOverride, .ssOverride, .dsOverride, .fsOverride, .gsOverride, .operandSize, .addressSize, .lock, .repne, .rep]

/-- The size attributes after some prefixes in code of a default size (R142). -/
def attrsAfter (default : Width) (ps : List Instr) : Attrs := ps.foldl (fun a p => a.after default p) ⟨default, default⟩

/-- The state in which the next instruction is fetched: the pins sampled, the interrupt shadow over. -/
def atFetch (s : State) : State := ({ s.sample with inhibit := .none } : State).begin

/-- No event is due at the boundary: no single-step trap (or it is held off), no NMI that is not masked or held off, and INTR
absent, disabled or held off (R512, R536). -/
abbrev NothingDue (s : State) : Prop :=
  (s.trapDue = false ∨ s.inhibit = .all ∨ s.run.isWaiting = true ∨ s.run = .shutdown) ∧
    (s.nmiPending = false ∨ s.nmiBlocked = true ∨ s.inhibit = .all) ∧
    (s.pins.intr = none ∨ s.flags.ifl = false ∨ s.inhibit ≠ .none ∨ s.run = .shutdown)

/-- The source of a two-operand instruction. -/
inductive Src where
  | loc (l : Loc)
  | imm (v : DWord)
deriving DecidableEq, Repr

/-- The source can be read. -/
abbrev Src.ready (x : Src) (s : State) (sz : Size) : Prop :=
  match x with
  | .loc l => Readable s sz l
  | .imm _ => True

/-- The value of the source. -/
def Src.val (x : Src) (s : State) (sz : Size) : DWord :=
  match x with
  | .loc l => s.value sz l
  | .imm v => v

/-- A two-operand arithmetic or logical instruction: operation, size, destination, source. -/
structure AluForm where
  op : AluOp
  size : Size
  dst : Loc
  src : Src
deriving DecidableEq, Repr

/-- The 70 two-operand forms (R200 to R213). -/
def aluForm (s : State) : Instr → Option AluForm
  | .addRm8R8 rm r => some ⟨.add, .byte, loc8 s rm, .loc (.reg8 r)⟩
  | .addRmvRv rm r => some ⟨.add, s.osz.size, locV s rm, .loc (.reg r)⟩
  | .addR8Rm8 r rm => some ⟨.add, .byte, .reg8 r, .loc (loc8 s rm)⟩
  | .addRvRmv r rm => some ⟨.add, s.osz.size, .reg r, .loc (locV s rm)⟩
  | .addAlImm8 imm => some ⟨.add, .byte, .reg8 .al, .imm (imm.setWidth 32)⟩
  | .addEaxImmv imm => some ⟨.add, s.osz.size, .reg .eax, .imm (truncSize s.osz.size imm)⟩
  | .addRm8Imm8 rm imm => some ⟨.add, .byte, loc8 s rm, .imm (imm.setWidth 32)⟩
  | .addRmvImm rm imm => some ⟨.add, s.osz.size, locV s rm, .imm (truncSize s.osz.size (immValue imm))⟩
  | .orRm8R8 rm r => some ⟨.or, .byte, loc8 s rm, .loc (.reg8 r)⟩
  | .orRmvRv rm r => some ⟨.or, s.osz.size, locV s rm, .loc (.reg r)⟩
  | .orR8Rm8 r rm => some ⟨.or, .byte, .reg8 r, .loc (loc8 s rm)⟩
  | .orRvRmv r rm => some ⟨.or, s.osz.size, .reg r, .loc (locV s rm)⟩
  | .orAlImm8 imm => some ⟨.or, .byte, .reg8 .al, .imm (imm.setWidth 32)⟩
  | .orEaxImmv imm => some ⟨.or, s.osz.size, .reg .eax, .imm (truncSize s.osz.size imm)⟩
  | .orRm8Imm8 rm imm => some ⟨.or, .byte, loc8 s rm, .imm (imm.setWidth 32)⟩
  | .orRmvImm rm imm => some ⟨.or, s.osz.size, locV s rm, .imm (truncSize s.osz.size (immValue imm))⟩
  | .adcRm8R8 rm r => some ⟨.adc, .byte, loc8 s rm, .loc (.reg8 r)⟩
  | .adcRmvRv rm r => some ⟨.adc, s.osz.size, locV s rm, .loc (.reg r)⟩
  | .adcR8Rm8 r rm => some ⟨.adc, .byte, .reg8 r, .loc (loc8 s rm)⟩
  | .adcRvRmv r rm => some ⟨.adc, s.osz.size, .reg r, .loc (locV s rm)⟩
  | .adcAlImm8 imm => some ⟨.adc, .byte, .reg8 .al, .imm (imm.setWidth 32)⟩
  | .adcEaxImmv imm => some ⟨.adc, s.osz.size, .reg .eax, .imm (truncSize s.osz.size imm)⟩
  | .adcRm8Imm8 rm imm => some ⟨.adc, .byte, loc8 s rm, .imm (imm.setWidth 32)⟩
  | .adcRmvImm rm imm => some ⟨.adc, s.osz.size, locV s rm, .imm (truncSize s.osz.size (immValue imm))⟩
  | .sbbRm8R8 rm r => some ⟨.sbb, .byte, loc8 s rm, .loc (.reg8 r)⟩
  | .sbbRmvRv rm r => some ⟨.sbb, s.osz.size, locV s rm, .loc (.reg r)⟩
  | .sbbR8Rm8 r rm => some ⟨.sbb, .byte, .reg8 r, .loc (loc8 s rm)⟩
  | .sbbRvRmv r rm => some ⟨.sbb, s.osz.size, .reg r, .loc (locV s rm)⟩
  | .sbbAlImm8 imm => some ⟨.sbb, .byte, .reg8 .al, .imm (imm.setWidth 32)⟩
  | .sbbEaxImmv imm => some ⟨.sbb, s.osz.size, .reg .eax, .imm (truncSize s.osz.size imm)⟩
  | .sbbRm8Imm8 rm imm => some ⟨.sbb, .byte, loc8 s rm, .imm (imm.setWidth 32)⟩
  | .sbbRmvImm rm imm => some ⟨.sbb, s.osz.size, locV s rm, .imm (truncSize s.osz.size (immValue imm))⟩
  | .andRm8R8 rm r => some ⟨.and, .byte, loc8 s rm, .loc (.reg8 r)⟩
  | .andRmvRv rm r => some ⟨.and, s.osz.size, locV s rm, .loc (.reg r)⟩
  | .andR8Rm8 r rm => some ⟨.and, .byte, .reg8 r, .loc (loc8 s rm)⟩
  | .andRvRmv r rm => some ⟨.and, s.osz.size, .reg r, .loc (locV s rm)⟩
  | .andAlImm8 imm => some ⟨.and, .byte, .reg8 .al, .imm (imm.setWidth 32)⟩
  | .andEaxImmv imm => some ⟨.and, s.osz.size, .reg .eax, .imm (truncSize s.osz.size imm)⟩
  | .andRm8Imm8 rm imm => some ⟨.and, .byte, loc8 s rm, .imm (imm.setWidth 32)⟩
  | .andRmvImm rm imm => some ⟨.and, s.osz.size, locV s rm, .imm (truncSize s.osz.size (immValue imm))⟩
  | .subRm8R8 rm r => some ⟨.sub, .byte, loc8 s rm, .loc (.reg8 r)⟩
  | .subRmvRv rm r => some ⟨.sub, s.osz.size, locV s rm, .loc (.reg r)⟩
  | .subR8Rm8 r rm => some ⟨.sub, .byte, .reg8 r, .loc (loc8 s rm)⟩
  | .subRvRmv r rm => some ⟨.sub, s.osz.size, .reg r, .loc (locV s rm)⟩
  | .subAlImm8 imm => some ⟨.sub, .byte, .reg8 .al, .imm (imm.setWidth 32)⟩
  | .subEaxImmv imm => some ⟨.sub, s.osz.size, .reg .eax, .imm (truncSize s.osz.size imm)⟩
  | .subRm8Imm8 rm imm => some ⟨.sub, .byte, loc8 s rm, .imm (imm.setWidth 32)⟩
  | .subRmvImm rm imm => some ⟨.sub, s.osz.size, locV s rm, .imm (truncSize s.osz.size (immValue imm))⟩
  | .xorRm8R8 rm r => some ⟨.xor, .byte, loc8 s rm, .loc (.reg8 r)⟩
  | .xorRmvRv rm r => some ⟨.xor, s.osz.size, locV s rm, .loc (.reg r)⟩
  | .xorR8Rm8 r rm => some ⟨.xor, .byte, .reg8 r, .loc (loc8 s rm)⟩
  | .xorRvRmv r rm => some ⟨.xor, s.osz.size, .reg r, .loc (locV s rm)⟩
  | .xorAlImm8 imm => some ⟨.xor, .byte, .reg8 .al, .imm (imm.setWidth 32)⟩
  | .xorEaxImmv imm => some ⟨.xor, s.osz.size, .reg .eax, .imm (truncSize s.osz.size imm)⟩
  | .xorRm8Imm8 rm imm => some ⟨.xor, .byte, loc8 s rm, .imm (imm.setWidth 32)⟩
  | .xorRmvImm rm imm => some ⟨.xor, s.osz.size, locV s rm, .imm (truncSize s.osz.size (immValue imm))⟩
  | .cmpRm8R8 rm r => some ⟨.cmp, .byte, loc8 s rm, .loc (.reg8 r)⟩
  | .cmpRmvRv rm r => some ⟨.cmp, s.osz.size, locV s rm, .loc (.reg r)⟩
  | .cmpR8Rm8 r rm => some ⟨.cmp, .byte, .reg8 r, .loc (loc8 s rm)⟩
  | .cmpRvRmv r rm => some ⟨.cmp, s.osz.size, .reg r, .loc (locV s rm)⟩
  | .cmpAlImm8 imm => some ⟨.cmp, .byte, .reg8 .al, .imm (imm.setWidth 32)⟩
  | .cmpEaxImmv imm => some ⟨.cmp, s.osz.size, .reg .eax, .imm (truncSize s.osz.size imm)⟩
  | .cmpRm8Imm8 rm imm => some ⟨.cmp, .byte, loc8 s rm, .imm (imm.setWidth 32)⟩
  | .cmpRmvImm rm imm => some ⟨.cmp, s.osz.size, locV s rm, .imm (truncSize s.osz.size (immValue imm))⟩
  | .testRm8R8 rm r => some ⟨.test, .byte, loc8 s rm, .loc (.reg8 r)⟩
  | .testRmvRv rm r => some ⟨.test, s.osz.size, locV s rm, .loc (.reg r)⟩
  | .testAlImm8 imm => some ⟨.test, .byte, .reg8 .al, .imm (imm.setWidth 32)⟩
  | .testEaxImmv imm => some ⟨.test, s.osz.size, .reg .eax, .imm (truncSize s.osz.size imm)⟩
  | .testRm8Imm8 rm imm => some ⟨.test, .byte, loc8 s rm, .imm (imm.setWidth 32)⟩
  | .testRmvImmv rm imm => some ⟨.test, s.osz.size, locV s rm, .imm (truncSize s.osz.size imm)⟩
  | _ => none

/-- The state after a two-operand instruction: the result stored where the operation stores one, the flags, AF of a logical
operation free. -/
def AluForm.after (f : AluForm) (s : State) : State :=
  let a := s.value f.size f.dst
  let b := f.src.val s f.size
  let t := if f.op.writes then s.stored f.size f.dst (f.op.result f.size a b s.flags.cf) else s
  let u := { t with flags := f.op.flags f.size a b s.flags }
  if f.op.isLogical then u.undefined { StatusMask.none with af := true } else u

/-- The one-operand instructions. -/
inductive Unary where
  | inc | dec | neg | not
deriving DecidableEq, Repr

/-- The ten forms of INC, DEC, NEG and NOT. -/
def unaryForm (s : State) : Instr → Option (Unary × Size × Loc)
  | .incRv r => some (.inc, s.osz.size, .reg r)
  | .incRm8 rm => some (.inc, .byte, loc8 s rm)
  | .incRmv rm => some (.inc, s.osz.size, locV s rm)
  | .decRv r => some (.dec, s.osz.size, .reg r)
  | .decRm8 rm => some (.dec, .byte, loc8 s rm)
  | .decRmv rm => some (.dec, s.osz.size, locV s rm)
  | .negRm8 rm => some (.neg, .byte, loc8 s rm)
  | .negRmv rm => some (.neg, s.osz.size, locV s rm)
  | .notRm8 rm => some (.not, .byte, loc8 s rm)
  | .notRmv rm => some (.not, s.osz.size, locV s rm)
  | _ => none

/-- The state after a one-operand instruction (R207, R208, R209, R214). -/
def Unary.after (u : Unary) (s : State) (sz : Size) (l : Loc) : State :=
  let a := s.value sz l
  match u with
  | .inc => { s.stored sz l (addResult sz a 1 false) with flags := { s.flags.add sz a 1 false with cf := s.flags.cf } }
  | .dec => { s.stored sz l (subResult sz a 1 false) with flags := { s.flags.sub sz a 1 false with cf := s.flags.cf } }
  | .neg => { s.stored sz l (subResult sz 0 a false) with flags := s.flags.sub sz 0 a false }
  | .not => s.stored sz l (truncSize sz (~~~a))

/-- A shift or rotate: operation, size, operand, masked count. -/
structure ShiftForm where
  op : ShiftOp
  size : Size
  dst : Loc
  count : Nat
deriving DecidableEq, Repr

/-- The fourteen shift and rotate constructors (R256). -/
def shiftForm (s : State) : Instr → Option ShiftForm
  | .rolRm8 rm count => some ⟨.rol, .byte, loc8 s rm, countValue s count⟩
  | .rolRmv rm count => some ⟨.rol, s.osz.size, locV s rm, countValue s count⟩
  | .rorRm8 rm count => some ⟨.ror, .byte, loc8 s rm, countValue s count⟩
  | .rorRmv rm count => some ⟨.ror, s.osz.size, locV s rm, countValue s count⟩
  | .rclRm8 rm count => some ⟨.rcl, .byte, loc8 s rm, countValue s count⟩
  | .rclRmv rm count => some ⟨.rcl, s.osz.size, locV s rm, countValue s count⟩
  | .rcrRm8 rm count => some ⟨.rcr, .byte, loc8 s rm, countValue s count⟩
  | .rcrRmv rm count => some ⟨.rcr, s.osz.size, locV s rm, countValue s count⟩
  | .salRm8 rm count => some ⟨.sal, .byte, loc8 s rm, countValue s count⟩
  | .salRmv rm count => some ⟨.sal, s.osz.size, locV s rm, countValue s count⟩
  | .shrRm8 rm count => some ⟨.shr, .byte, loc8 s rm, countValue s count⟩
  | .shrRmv rm count => some ⟨.shr, s.osz.size, locV s rm, countValue s count⟩
  | .sarRm8 rm count => some ⟨.sar, .byte, loc8 s rm, countValue s count⟩
  | .sarRmv rm count => some ⟨.sar, s.osz.size, locV s rm, countValue s count⟩
  | _ => none

/-- The four double shifts: direction, r/m operand, register, masked count (R264, R265). -/
def doubleForm (s : State) : Instr → Option (DoubleShift × Loc × Reg × Nat)
  | .shldImm8 rm r imm => some (.left, locV s rm, r, imm.toNat % 32)
  | .shldCl rm r => some (.left, locV s rm, r, (s.reg8 .cl).toNat % 32)
  | .shrdImm8 rm r imm => some (.right, locV s rm, r, imm.toNat % 32)
  | .shrdCl rm r => some (.right, locV s rm, r, (s.reg8 .cl).toNat % 32)
  | _ => none

/-- The unit and the bit that a register bit offset names: of a register the offset modulo N; of memory the unit at
EA + (N/8) * floor(offset / N), the offset signed (R266). -/
def registerBit (s : State) (rm : RM Reg) (r : Reg) : Loc × Nat :=
  let sz := s.osz.size
  match locV s rm with
  | .mem seg ea =>
    let off := toSigned sz (s.regS sz r)
    (.mem seg (truncTo s.asz (ea + BitVec.ofInt 32 ((sz.bytes : Int) * (off / (sz.bits : Int))))), (off % (sz.bits : Int)).toNat)
  | l => (l, (s.regS sz r).toNat % sz.bits)

/-- The eight bit-test constructors: operation, unit, bit. -/
def bitForm (s : State) : Instr → Option (BitOp × Loc × Nat)
  | .btRmvRv rm r => some (.bt, registerBit s rm r)
  | .btRmvImm8 rm imm => some (.bt, locV s rm, imm.toNat % s.osz.size.bits)
  | .btsRmvRv rm r => some (.bts, registerBit s rm r)
  | .btsRmvImm8 rm imm => some (.bts, locV s rm, imm.toNat % s.osz.size.bits)
  | .btrRmvRv rm r => some (.btr, registerBit s rm r)
  | .btrRmvImm8 rm imm => some (.btr, locV s rm, imm.toNat % s.osz.size.bits)
  | .btcRmvRv rm r => some (.btc, registerBit s rm r)
  | .btcRmvImm8 rm imm => some (.btc, locV s rm, imm.toNat % s.osz.size.bits)
  | _ => none

/-- What the tested bit becomes. -/
def newBit (op : BitOp) (b : Bool) : Bool :=
  match op with
  | .bt => b
  | .bts => true
  | .btr => false
  | .btc => !b

/-- The sixteen SETcc constructors. -/
def setForm : Instr → Option (Cond × RM Reg8)
  | .seto rm => some (.o, rm)
  | .setno rm => some (.no, rm)
  | .setb rm => some (.b, rm)
  | .setae rm => some (.ae, rm)
  | .sete rm => some (.e, rm)
  | .setne rm => some (.ne, rm)
  | .setbe rm => some (.be, rm)
  | .seta rm => some (.a, rm)
  | .sets rm => some (.s, rm)
  | .setns rm => some (.ns, rm)
  | .setp rm => some (.p, rm)
  | .setnp rm => some (.np, rm)
  | .setl rm => some (.l, rm)
  | .setge rm => some (.ge, rm)
  | .setle rm => some (.le, rm)
  | .setg rm => some (.g, rm)
  | _ => none

/-- The 32 Jcc constructors: condition and offset relative to the next instruction. -/
def jumpForm : Instr → Option (Cond × DWord)
  | .jo8 rel => some (.o, rel.signExtend 32)
  | .joNear rel => some (.o, rel)
  | .jno8 rel => some (.no, rel.signExtend 32)
  | .jnoNear rel => some (.no, rel)
  | .jb8 rel => some (.b, rel.signExtend 32)
  | .jbNear rel => some (.b, rel)
  | .jae8 rel => some (.ae, rel.signExtend 32)
  | .jaeNear rel => some (.ae, rel)
  | .je8 rel => some (.e, rel.signExtend 32)
  | .jeNear rel => some (.e, rel)
  | .jne8 rel => some (.ne, rel.signExtend 32)
  | .jneNear rel => some (.ne, rel)
  | .jbe8 rel => some (.be, rel.signExtend 32)
  | .jbeNear rel => some (.be, rel)
  | .ja8 rel => some (.a, rel.signExtend 32)
  | .jaNear rel => some (.a, rel)
  | .js8 rel => some (.s, rel.signExtend 32)
  | .jsNear rel => some (.s, rel)
  | .jns8 rel => some (.ns, rel.signExtend 32)
  | .jnsNear rel => some (.ns, rel)
  | .jp8 rel => some (.p, rel.signExtend 32)
  | .jpNear rel => some (.p, rel)
  | .jnp8 rel => some (.np, rel.signExtend 32)
  | .jnpNear rel => some (.np, rel)
  | .jl8 rel => some (.l, rel.signExtend 32)
  | .jlNear rel => some (.l, rel)
  | .jge8 rel => some (.ge, rel.signExtend 32)
  | .jgeNear rel => some (.ge, rel)
  | .jle8 rel => some (.le, rel.signExtend 32)
  | .jleNear rel => some (.le, rel)
  | .jg8 rel => some (.g, rel.signExtend 32)
  | .jgNear rel => some (.g, rel)
  | _ => none

/-- MOV between general operands: size, destination, source (R302). -/
def movForm (s : State) : Instr → Option (Size × Loc × Src)
  | .movRm8R8 rm r => some (.byte, loc8 s rm, .loc (.reg8 r))
  | .movRmvRv rm r => some (s.osz.size, locV s rm, .loc (.reg r))
  | .movR8Rm8 r rm => some (.byte, .reg8 r, .loc (loc8 s rm))
  | .movRvRmv r rm => some (s.osz.size, .reg r, .loc (locV s rm))
  | .movR8Imm8 r imm => some (.byte, .reg8 r, .imm (imm.setWidth 32))
  | .movRvImmv r imm => some (s.osz.size, .reg r, .imm imm)
  | .movRm8Imm8 rm imm => some (.byte, loc8 s rm, .imm (imm.setWidth 32))
  | .movRmvImmv rm imm => some (s.osz.size, locV s rm, .imm imm)
  | .movAlMoffs off => some (.byte, .reg .eax, .loc (.mem (s.segOr .ds) off))
  | .movEaxMoffs off => some (s.osz.size, .reg .eax, .loc (.mem (s.segOr .ds) off))
  | .movMoffsAl off => some (.byte, .mem (s.segOr .ds) off, .loc (.reg .eax))
  | .movMoffsEax off => some (s.osz.size, .mem (s.segOr .ds) off, .loc (.reg .eax))
  | _ => none

/-- MOVZX and MOVSX: whether signed, the source size, the register, the source (R305, R306). -/
def extendForm (s : State) : Instr → Option (Bool × Size × Reg × Loc)
  | .movzxRvRm8 r rm => some (false, .byte, r, loc8 s rm)
  | .movzxRdRm16 r rm => some (false, .word, r, locV s rm)
  | .movsxRvRm8 r rm => some (true, .byte, r, loc8 s rm)
  | .movsxRdRm16 r rm => some (true, .word, r, locV s rm)
  | _ => none

/-- IMUL into a register: the register and the two sources (R253). -/
def imulForm (s : State) : Instr → Option (Reg × Src × Src)
  | .imulRvRmv r rm => some (r, .loc (.reg r), .loc (locV s rm))
  | .imulRvRmvImmv r rm imm => some (r, .loc (locV s rm), .imm imm)
  | .imulRvRmvImm8 r rm imm => some (r, .loc (locV s rm), .imm (imm.signExtend 32))
  | _ => none

/-- MUL and IMUL into the accumulator: whether signed, the size, the operand (R251, R252). -/
def mulForm (s : State) : Instr → Option (Bool × Size × Loc)
  | .mulRm8 rm => some (false, .byte, loc8 s rm)
  | .mulRmv rm => some (false, s.osz.size, locV s rm)
  | .imulRm8 rm => some (true, .byte, loc8 s rm)
  | .imulRmv rm => some (true, s.osz.size, locV s rm)
  | _ => none

/-- DIV and IDIV: whether signed, the size, the divisor (R254, R255). -/
def divForm (s : State) : Instr → Option (Bool × Size × Loc)
  | .divRm8 rm => some (false, .byte, loc8 s rm)
  | .divRmv rm => some (false, s.osz.size, locV s rm)
  | .idivRm8 rm => some (true, .byte, loc8 s rm)
  | .idivRmv rm => some (true, s.osz.size, locV s rm)
  | _ => none

/-- A product or a dividend of twice the size as a number, signed or not. -/
def wideValue (signed : Bool) (s : State) (sz : Size) : Int := if signed then s.wideSigned sz else (s.wide sz : Int)

/-- A value of a size as a number, signed or not. -/
def number (signed : Bool) (sz : Size) (v : DWord) : Int := if signed then toSigned sz v else (v.toNat : Int)

/-- Whether a number is a value of a size, signed or not. -/
def fits (signed : Bool) (sz : Size) (n : Int) : Bool :=
  if signed then decide (-(2 ^ (sz.bits - 1)) ≤ n) && decide (n < 2 ^ (sz.bits - 1)) else decide (0 ≤ n) && decide (n < 2 ^ sz.bits)

/-- The halves of the accumulator that a size does not name are as before: bits 31:16 of EAX and EDX for words; those, and all
of EDX, for bytes. -/
def KeepsHalves (sz : Size) (s t : State) : Prop :=
  match sz with
  | .byte => (t.reg .eax).extractLsb' 16 16 = (s.reg .eax).extractLsb' 16 16 ∧ t.reg .edx = s.reg .edx
  | .word => (t.reg .eax).extractLsb' 16 16 = (s.reg .eax).extractLsb' 16 16 ∧
      (t.reg .edx).extractLsb' 16 16 = (s.reg .edx).extractLsb' 16 16
  | .dword => True

/-- A far pointer in memory can be read: all of it is inside the segment, and its two parts (R81, R402). -/
def FarReadable (s : State) (m : EA) : Prop :=
  let seg := s.segOr (defaultSegment m)
  let ea := effectiveOffset s m
  let w := s.osz.bytes
  segFault s.mode seg (s.sreg seg) ea (w + 2) .read = none ∧ Allowed s .read seg ea w ∧
    Allowed s .read seg (ea + BitVec.ofNat 32 w) 2

/-- The offset of a far pointer in memory. -/
def farOffset (s : State) (m : EA) : DWord := s.loaded (s.segOr (defaultSegment m)) (effectiveOffset s m) s.osz.bytes

/-- The selector of a far pointer in memory. -/
def farSelector (s : State) (m : EA) : Word :=
  (s.loaded (s.segOr (defaultSegment m)) (effectiveOffset s m + BitVec.ofNat 32 s.osz.bytes) 2).setWidth 16

/-- Far JMP and CALL: whether a CALL, the selector and the offset, given in the instruction or read from memory (R402). -/
def farForm (s : State) : Instr → Option (Bool × Word × DWord)
  | .jmpFarPtr off sel => some (false, sel, off)
  | .callFarPtr off sel => some (true, sel, off)
  | .jmpFarMem m => some (false, farSelector s m, farOffset s m)
  | .callFarMem m => some (true, farSelector s m, farOffset s m)
  | _ => none

/-- The pointer of a far JMP or CALL can be read, where it is in memory. -/
def FarReady (s : State) : Instr → Prop
  | .jmpFarMem m => FarReadable s m
  | .callFarMem m => FarReadable s m
  | _ => True

/-- The five instructions that load a far pointer (R310). -/
def pointerForm : Instr → Option (SReg × Reg × EA)
  | .les r m => some (.es, r, m)
  | .lds r m => some (.ds, r, m)
  | .lss r m => some (.ss, r, m)
  | .lfs r m => some (.fs, r, m)
  | .lgs r m => some (.gs, r, m)
  | _ => none

/-- PUSH of a general operand: the operand (R320). -/
def pushForm (s : State) : Instr → Option Src
  | .pushRv r => some (.loc (.reg r))
  | .pushImmv imm => some (.imm imm)
  | .pushImm8 imm => some (.imm (imm.signExtend 32))
  | .pushRmv rm => some (.loc (locV s rm))
  | _ => none

/-- PUSH of a segment register (R321). -/
def pushSegForm : Instr → Option SReg
  | .pushEs => some .es
  | .pushCs => some .cs
  | .pushSs => some .ss
  | .pushDs => some .ds
  | .pushFs => some .fs
  | .pushGs => some .gs
  | _ => none

/-- POP of a segment register (R323). -/
def popSegForm : Instr → Option SReg
  | .popEs => some .es
  | .popSs => some .ss
  | .popDs => some .ds
  | .popFs => some .fs
  | .popGs => some .gs
  | _ => none

/-- POP of a general operand (R322). -/
def popForm : Instr → Option (RM Reg)
  | .popRv r => some (.reg r)
  | .popRmv rm => some rm
  | _ => none

/-- The interrupt shadow after a segment register is loaded: everything after SS (R52). -/
def shadow (sr : SReg) (s : State) : State := if sr = .ss then { s with inhibit := .all } else s

/-- Values can be pushed one after another, the first one first. -/
def CanPushAll (w : Width) : List DWord → State → Prop
  | [], _ => True
  | v :: rest, s => CanPush s w ∧ CanPushAll w rest (s.pushed w v)

/-- The state after values are pushed one after another. -/
def pushedAll (w : Width) : List DWord → State → State
  | [], s => s
  | v :: rest, s => pushedAll w rest (s.pushed w v)

/-- Values can be popped one after another. -/
def CanPopAll (w : Width) : Nat → State → Prop
  | 0, _ => True
  | n + 1, s => CanPop s w ∧ CanPopAll w n (s.popped w)

/-- The state after values are popped one after another. -/
def poppedAll (w : Width) : Nat → State → State
  | 0, s => s
  | n + 1, s => poppedAll w n (s.popped w)

/-- The `k`-th value on the stack, the top one the 0th. -/
def stackValue (w : Width) (s : State) (k : Nat) : DWord := (poppedAll w k s).top w

/-- ENTER can copy the pointers of `n` outer frames (R330). -/
def CanCopyFrames (w : Width) : Nat → State → Prop
  | 0, _ => True
  | n + 1, s =>
    let u := s.setRegW w .ebp (s.reg .ebp - BitVec.ofNat 32 w.bytes)
    Allowed u .read .ss (u.regW w .ebp) w.bytes ∧ CanPush u w ∧
      CanCopyFrames w n (u.pushed w (u.loaded .ss (u.regW w .ebp) w.bytes))

/-- The state after ENTER copies the pointers of `n` outer frames. -/
def framesCopied (w : Width) : Nat → State → State
  | 0, s => s
  | n + 1, s =>
    let u := s.setRegW w .ebp (s.reg .ebp - BitVec.ofNat 32 w.bytes)
    framesCopied w n (u.pushed w (u.loaded .ss (u.regW w .ebp) w.bytes))

/-- IN: the port and the size (R340). -/
def inForm (s : State) : Instr → Option (Word × Size)
  | .inAlImm8 p => some (p.setWidth 16, .byte)
  | .inEaxImm8 p => some (p.setWidth 16, s.osz.size)
  | .inAlDx => some (s.dx, .byte)
  | .inEaxDx => some (s.dx, s.osz.size)
  | _ => none

/-- OUT: the port and the size (R341). -/
def outForm (s : State) : Instr → Option (Word × Size)
  | .outImm8Al p => some (p.setWidth 16, .byte)
  | .outImm8Eax p => some (p.setWidth 16, s.osz.size)
  | .outDxAl => some (s.dx, .byte)
  | .outDxEax => some (s.dx, s.osz.size)
  | _ => none

/-- The I/O access check passes (R121). -/
def IoAllowed (s : State) (port : Word) (sz : Size) : Prop := checkIo port sz s = .ok () s

/-- The state after an index register moves by the size, up or down as DF says (R370). -/
def advanced (r : Reg) (sz : Size) (s : State) : State :=
  s.setRegW s.asz r (if s.flags.df then s.reg r - BitVec.ofNat 32 sz.bytes else s.reg r + BitVec.ofNat 32 sz.bytes)

/-- The string instructions: the size, and whether it is a compare or scan, and the primitive (R371 to R377). -/
def stringForm (s : State) : Instr → Option (Size × Bool × (Size → Op Unit))
  | .movsb => some (.byte, false, movs)
  | .movsv => some (s.osz.size, false, movs)
  | .cmpsb => some (.byte, true, cmps)
  | .cmpsv => some (s.osz.size, true, cmps)
  | .scasb => some (.byte, true, scas)
  | .scasv => some (s.osz.size, true, scas)
  | .lodsb => some (.byte, false, lods)
  | .lodsv => some (s.osz.size, false, lods)
  | .stosb => some (.byte, false, stos)
  | .stosv => some (s.osz.size, false, stos)
  | .insb => some (.byte, false, ins)
  | .insv => some (s.osz.size, false, ins)
  | .outsb => some (.byte, false, outs)
  | .outsv => some (s.osz.size, false, outs)
  | _ => none

/-- LOOP, LOOPE, LOOPNE: what they test besides the count. -/
def loopForm : Instr → Option (LoopCond × Byte)
  | .loop rel => some (.always, rel)
  | .loope rel => some (.e, rel)
  | .loopne rel => some (.ne, rel)
  | _ => none

/-- A near jump: the target before it is cut to the operand size. -/
def nearJumpForm (s : State) : Instr → Option Src
  | .jmpRelv rel => some (.imm (s.eip + rel))
  | .jmpRel8 rel => some (.imm (s.eip + rel.signExtend 32))
  | .jmpRmv rm => some (.loc (locV s rm))
  | _ => none

/-- A near call: the target before it is cut to the operand size. -/
def nearCallForm (s : State) : Instr → Option Src
  | .callRelv rel => some (.imm (s.eip + rel))
  | .callRmv rm => some (.loc (locV s rm))
  | _ => none

/-- The exception of the first read that is refused, of reads of the stack at offsets above eSP, each with its size in bytes, in
the order of a list. -/
def firstRefused (s : State) : List (Nat × Nat) → Option Exc
  | [] => none
  | (k, n) :: rest =>
    match stackRead k n s with
    | .ok _ _ => firstRefused s rest
    | .error e _ => some e

/-- What `n` bytes at a linear address read as with supervisor privilege, where paging allows it. -/
def peek (s : State) (lin : DWord) (n : Nat) : Option DWord :=
  match linRead lin n s with
  | .ok v _ => some v
  | .error _ _ => none

/-- `go` is what comes of changing the access-rights byte of the descriptor at a linear address, byte 5 of it, where that byte `b`
can be read and is written at the physical address `x`: the byte alone changes, and no register does. -/
def RightsChanged (s : State) (addr : DWord) (change : Byte → Byte) (go : EStateM.Result Exc State Unit) : Prop :=
  ∀ b x : DWord, peek s (addr + 5) 1 = some b → translate .write false (addr + 5) s = .ok x s →
    let t : State := { s with mem := Memory.write s.mem x.toNat (change (b.setWidth 8)) }
    go = .ok () t ∧ OnlyBytes [x] s t ∧
    (Memory.wf s.mem = true → Memory.read t.mem x.toNat = change (b.setWidth 8)) ∧
    ((s.pe && s.pg) = false → x = addr + 5 ∧ b.setWidth 8 = Memory.read s.mem (addr + 5).toNat)

/-- The descriptor or gate at a linear address. -/
def peekDesc (s : State) (lin : DWord) : Option Desc :=
  match peek s lin 4, peek s (lin + 4) 4 with
  | some lo, some hi => some ⟨lo, hi⟩
  | _, _ => none

/-- What the two doublewords of a descriptor or gate say (R110, R113, R115), and what a segment register holds once it is loaded
from them, the accessed bit set (R39, R117). -/
def DescriptorFields (d : Desc) : Prop :=
  let bit := fun k => d.hi.getLsbD k
  let limit20 : BitVec 20 := d.hi.extractLsb' 16 4 ++ d.lo.extractLsb' 0 16
  let dpl : BitVec 2 := d.hi.extractLsb' 13 2
  let type : BitVec 4 := d.hi.extractLsb' 8 4
  d.base = d.hi.extractLsb' 24 8 ++ d.hi.extractLsb' 0 8 ++ d.lo.extractLsb' 16 16 ∧
  d.limit = (if bit 23 then limit20 ++ 0xFFF#12 else limit20.setWidth 32) ∧
  d.p = bit 15 ∧ d.dpl = dpl ∧
  d.isCode = (bit 12 && bit 11) ∧ d.isConforming = (bit 12 && bit 11 && bit 10) ∧ d.isReadableCode = (bit 12 && bit 11 && bit 9) ∧
  d.isData = (bit 12 && !bit 11) ∧ d.isWritableData = (bit 12 && !bit 11 && bit 9) ∧
  (∀ t, d.isSystem t = (!bit 12 && type == t)) ∧
  (d.isAvailableTss = true ↔ bit 12 = false ∧ type ∈ [0x1#4, 0x9#4]) ∧ (d.isBusyTss = true ↔ bit 12 = false ∧ type ∈ [0x3#4, 0xB#4]) ∧
  (d.isIntOrTrapGate = true ↔ bit 12 = false ∧ type ∈ [0x6#4, 0x7#4, 0xE#4, 0xF#4]) ∧
  (d.isInterruptGate = true ↔ bit 12 = false ∧ type ∈ [0x6#4, 0xE#4]) ∧
  d.is386 = bit 11 ∧ d.gateWidth = (if bit 11 then .w32 else .w16) ∧
  d.gateSelector = d.lo.extractLsb' 16 16 ∧
  d.gateOffset = (if bit 11 then d.hi.extractLsb' 16 16 else 0#16) ++ d.lo.extractLsb' 0 16 ∧
  d.gateCount = (d.hi.extractLsb' 0 5).toNat ∧
  ∀ sel : Word, d.toSeg sel =
    { sel := sel, base := d.base, limit := d.limit, p := bit 15, dpl := dpl, s := bit 12, type := type ||| 1#4, db := bit 22,
      g := bit 23, valid := true }

/-- What a selector says (R111, R112): RPL, table, index; when it is null; its error code; and where its descriptor lies, if
inside its table. -/
def SelectorFields (s : State) (sel : Word) : Prop :=
  let offset := 8 * (sel.extractLsb' 3 13).toNat
  selRpl sel = sel.extractLsb' 0 2 ∧ selTi sel = sel.getLsbD 2 ∧ (selNull sel = true ↔ sel.toNat ≤ 3) ∧
  selCode sel = sel.extractLsb' 2 14 ++ 0#2 ∧
  s.descAddr sel =
    if sel.getLsbD 2 then
      if s.ldtr.valid = true ∧ offset + 7 ≤ s.ldtr.limit.toNat then some (s.ldtr.base + BitVec.ofNat 32 offset) else none
    else if offset + 7 ≤ s.gdtr.limit.toNat then some (s.gdtr.base + BitVec.ofNat 32 offset) else none

/-- What becomes of an instruction that loads segment register `sr` with a selector in protected mode (R117): `s` is the state
before it, `p` that with its pops made, `fin` what it does once the register is loaded, and `go` its outcome. -/
def SegLoad (s p : State) (sr : SReg) (sel : Word) (fin : State → State) (go : Host.Outcome State Fault Refusal) : Prop :=
  let gp := Exc.gp (selCode sel)
  (selNull sel = true → go = if sr = .ss then .next (s.raise (Exc.gp 0))
    else .next (fin (p.setSreg sr { p.sreg sr with sel := sel, valid := false }))) ∧
  (selNull sel = false → s.descAddr sel = none → go = .next (s.raise gp)) ∧
  (∀ a d, selNull sel = false → s.descAddr sel = some a → peekDesc s a = some d →
    let kind := (d.isData || d.isReadableCode) = true
    let level := d.isConforming = true ∨ (selRpl sel ≤ d.dpl ∧ s.cpl ≤ d.dpl)
    let stack := selRpl sel = s.cpl ∧ d.isWritableData = true ∧ d.dpl = s.cpl
    (sr ≠ .ss → ¬(kind ∧ level) → go = .next (s.raise gp)) ∧
    (sr ≠ .ss → kind → level → d.p = false → go = .next (s.raise (Exc.np (selCode sel)))) ∧
    (sr = .ss → ¬stack → go = .next (s.raise gp)) ∧
    (sr = .ss → stack → d.p = false → go = .next (s.raise (Exc.ss (selCode sel)))) ∧
    ((if sr = .ss then stack else kind ∧ level) → d.p = true → ∀ u, setAccessed ⟨a, d⟩ p = .ok () u →
      go = .next (fin (u.setSreg sr (d.toSeg sel)))))

/-- The state in which a handler begins in real-address mode: FLAGS, CS and the return offset pushed, IF and TF cleared, CS:IP
from the vector (R434). -/
def realEntry (s : State) (ret off sel : DWord) : State :=
  { (pushedAll .w16 [s.flags.image, s.selD .cs, ret] s).load8086 .cs (sel.setWidth 16) with
    eip := off
    flags := { s.flags with ifl := false, tf := false }
    run := .running }

/-- A vector of the real-mode table can be taken: it is inside the limit, and the three words can be pushed. -/
def RealVector (s : State) (n : Nat) (ret off sel : DWord) : Prop :=
  4 * n + 3 ≤ s.idtr.limit.toNat ∧ peek s (s.idtr.base + BitVec.ofNat 32 (4 * n)) 2 = some off ∧
    peek s (s.idtr.base + BitVec.ofNat 32 (4 * n + 2)) 2 = some sel ∧
    CanPushAll .w16 [s.flags.image, s.selD .cs, ret] s

/-- A vector of the protected-mode table leads through a present interrupt or trap gate to a present code segment `c`. -/
def GateVector (s : State) (n : Nat) (g : Desc) (c : Found) : Prop :=
  8 * n + 7 ≤ s.idtr.limit.toNat ∧ peekDesc s (s.idtr.base + BitVec.ofNat 32 (8 * n)) = some g ∧
    g.isIntOrTrapGate = true ∧ g.p = true ∧ selNull g.gateSelector = false ∧ s.descAddr g.gateSelector = some c.addr ∧
    peekDesc s c.addr = some c.desc ∧ c.desc.isCode = true ∧ c.desc.p = true ∧
    g.gateOffset.toNat ≤ c.desc.limit.toNat

/-- The offset of the stack pointer of a level in the current TSS, and the bytes of the pointer (R116, R412). -/
def innerStackField (s : State) (level : BitVec 2) : Nat × Nat :=
  if s.tr.is386 then (4 + 8 * level.toNat, 4) else (2 + 4 * level.toNat, 2)

/-- The stack pointer and selector of a level lie inside the limit of the current TSS (R412). -/
abbrev InnerStackInTss (s : State) (level : BitVec 2) : Prop :=
  let f := innerStackField s level
  f.1 + f.2 + 1 ≤ s.tr.limit.toNat

/-- The current TSS gives for a level the stack selector `ss` and the pointer `sp`, the selector after the pointer (R412). -/
abbrev InnerPointer (s : State) (level : BitVec 2) (ss : Word) (sp : DWord) : Prop :=
  let o := innerStackField s level
  InnerStackInTss s level ∧ peek s (s.tr.base + BitVec.ofNat 32 o.1) o.2 = some sp ∧
    peek s (s.tr.base + BitVec.ofNat 32 (o.1 + o.2)) 2 = some (ss.setWidth 32)

/-- The current TSS gives for a level the stack selector `ss` and the pointer `sp`, and `f` is the descriptor of `ss`: writable
data of that level, with the level as the RPL of `ss`, present (R411, R439). -/
abbrev InnerStack (s : State) (level : BitVec 2) (ss : Word) (sp : DWord) (f : Found) : Prop :=
  InnerPointer s level ss sp ∧ selNull ss = false ∧
    s.descAddr ss = some f.addr ∧ peekDesc s f.addr = some f.desc ∧ selRpl ss = level ∧ f.desc.dpl = level ∧
    f.desc.isWritableData = true ∧ f.desc.p = true

/-- Parameter `j` of a CALL to an inner level, number 0 on top of the old stack: the offset it is read from (R411). -/
def paramOffset (s : State) (w : Width) (j : Nat) : DWord := truncTo s.ssz (s.sp + BitVec.ofNat 32 (j * w.bytes))

/-- The parameters below number `n` on the old stack of `s` are copied by pushes that lead from `p` to `q`, the last one first, each
read in the state that the pushes before it left (R411). -/
def ParamsCopied (s : State) (w : Width) : Nat → State → State → Prop
  | 0, p, q => q = p
  | j + 1, p, q =>
    segFault s.mode .ss s.seg.ss (paramOffset s w j) w.bytes .read = none ∧
      ∃ v, peek p (s.linear .ss (paramOffset s w j)) w.bytes = some v ∧ CanPush p w ∧ ParamsCopied s w j (p.pushed w v) q

/-- A selector names a present code segment to return to at a level: nonconforming of that DPL, or conforming of at most it. -/
abbrev ReturnCode (s : State) (sel : Word) (level : BitVec 2) (addr : DWord) (d : Desc) : Prop :=
  selNull sel = false ∧ s.descAddr sel = some addr ∧ peekDesc s addr = some d ∧ d.isCode = true ∧
    (if d.isConforming then d.dpl ≤ level else d.dpl = level) ∧ d.p = true

/-- A selector names a present writable data segment of a level, to be the stack of that level after a return. -/
abbrev ReturnStack (s : State) (sel : Word) (level : BitVec 2) (addr : DWord) (d : Desc) : Prop :=
  selNull sel = false ∧ s.descAddr sel = some addr ∧ peekDesc s addr = some d ∧ selRpl sel = level ∧
    d.isWritableData = true ∧ d.dpl = level ∧ d.p = true

/-- A data-segment register after a return to a level: null if it holds data or nonconforming code of lower DPL (R418). -/
def keptAt (level : BitVec 2) (g : SegReg) : SegReg :=
  if g.valid = true ∧ (g.isCode = false ∨ g.type.getLsbD 2 = false) ∧ g.dpl < level then { g with sel := 0, valid := false } else g

/-- The state after a return to an outer level: CS:EIP, SS:(E)SP, CPL, and the data-segment registers (R417, R418, R440). -/
def returnedOut (s : State) (level : BitVec 2) (cs : SegReg) (eip : DWord) (ss : SegReg) (sp : DWord) : State :=
  ({ s with
    cpl := level
    eip := eip
    seg := { cs := cs, ss := ss, es := keptAt level s.seg.es, ds := keptAt level s.seg.ds, fs := keptAt level s.seg.fs,
             gs := keptAt level s.seg.gs } } : State).setSp sp

/-- What an instruction that switches tasks comes to: an exception of the switch is taken where it leaves the machine; after a
switch, an EIP beyond the limit of the new CS raises `limit` in the new task (R413, R414, R447, R545). -/
def SwitchOutcome (s : State) (new : Found) (sel : Word) (kind : SwitchKind) (limit : Exc)
    (go : Host.Outcome State Fault Refusal) : Prop :=
  (∀ e u, switchTasks new sel kind s.eip s = .error e u → go = .next (u.raise e)) ∧
  (∀ t, switchTasks new sel kind s.eip s = .ok () t →
    go = .next (if t.seg.cs.limit.toNat < t.eip.toNat then t.raise limit else t))

/-- The fields that are saved in the TSS being left, as offset, bytes and value: EIP, EFLAGS (NT clear in the image for IRET) and
the general registers in slots of four bytes from 20H in an 80386 TSS, or of two from 0EH in an 80286 TSS; then the selectors in
slots of the same size, FS and GS in an 80386 TSS only (R116, R546 step 2). -/
def savedFields (s : State) (kind : SwitchKind) (ret : DWord) : List (Nat × Nat × DWord) :=
  let slot := if s.tr.is386 then 4 else 2
  let first := if s.tr.is386 then 0x20 else 0x0E
  let image := { s.flags with nt := s.flags.nt && decide (kind ≠ SwitchKind.iret) }.image
  let words := [ret, image] ++ [Reg.eax, .ecx, .edx, .ebx, .esp, .ebp, .esi, .edi].map s.reg
  let selectors := ([SReg.es, .cs, .ss, .ds] ++ if s.tr.is386 then [SReg.fs, .gs] else []).map s.selD
  (words.zipIdx.map fun p => (first + slot * p.2, slot, p.1)) ++
    selectors.zipIdx.map fun p => (first + slot * (words.length + p.2), 2, p.1)

/-- Fields stored in a TSS one after another. -/
def storeFields (base : DWord) : List (Nat × Nat × DWord) → Op Unit
  | [] => pure ()
  | f :: rest => do
    linWrite (base + BitVec.ofNat 32 f.1) f.2.1 f.2.2
    storeFields base rest

/-- The busy bit of the TSS descriptor at a linear address: bit 1 of its sixth byte, the other bits kept (R115, R542). -/
def setBusy (addr : DWord) (busy : Bool) : Op Unit := do
  let b ← linRead (addr + 5) 1
  linWrite (addr + 5) 1 (if busy then b ||| 0x02#32 else b &&& 0xFD#32)

/-- Steps 2 to 6 of R546 as one operation: the old task saved, its descriptor marked not busy unless the switch nests, the new
one busy unless it is an IRET, TR loaded, and with nesting the old selector stored as the back link. -/
def leaveTask (new : Found) (sel : Word) (kind : SwitchKind) (ret : DWord) : Op Unit := do
  let s ← query id
  storeFields s.tr.base (savedFields s kind ret)
  if kind = .nest then pure () else setBusy (s.gdtr.base + BitVec.ofNat 32 (selOffset s.tr.sel)) false
  if kind = .iret then pure () else setBusy new.addr true
  update fun s => { s with tr := { sel := sel, base := new.desc.base, limit := new.desc.limit, is386 := new.desc.is386 } }
  if kind = .nest then linWrite new.desc.base 2 (s.tr.sel.setWidth 32) else pure ()

/-- The bytes that a task switch writes with paging off, before it reads the new TSS: the saved fields of the old one, the two
access-rights bytes, and the back link (R546). -/
def switchBytes (s : State) (new : Found) (kind : SwitchKind) : List DWord :=
  (if s.tr.is386 then (List.range 0x3E).map fun j => s.tr.base + BitVec.ofNat 32 (0x20 + j)
    else (List.range 0x1C).map fun j => s.tr.base + BitVec.ofNat 32 (0x0E + j)) ++
  (if kind = .nest then [new.desc.base, new.desc.base + 1] else [s.gdtr.base + BitVec.ofNat 32 (selOffset s.tr.sel) + 5]) ++
  (if kind = .iret then [] else [new.addr + 5])

/-- The registers of `t` are those that the memory of `s` holds in an 80386 TSS at `base`, NT set besides when nested (R116,
R546 step 7). -/
def Image386 (s t : State) (base : DWord) (nested : Bool) : Prop :=
  let holds := fun (off n : Nat) (v : DWord) => peek s (base + BitVec.ofNat 32 off) n = some v
  (∃ v, holds 0x24 4 v ∧ t.flags = { Flags.ofImage v with nt := (Flags.ofImage v).nt || nested }) ∧
    holds 0x20 4 t.eip ∧ holds 0x28 4 t.gpr.eax ∧ holds 0x2C 4 t.gpr.ecx ∧ holds 0x30 4 t.gpr.edx ∧ holds 0x34 4 t.gpr.ebx ∧
    holds 0x38 4 t.gpr.esp ∧ holds 0x3C 4 t.gpr.ebp ∧ holds 0x40 4 t.gpr.esi ∧ holds 0x44 4 t.gpr.edi ∧
    holds 0x48 2 (t.selD .es) ∧ holds 0x4C 2 (t.selD .cs) ∧ holds 0x50 2 (t.selD .ss) ∧ holds 0x54 2 (t.selD .ds) ∧
    holds 0x58 2 (t.selD .fs) ∧ holds 0x5C 2 (t.selD .gs) ∧ holds 0x60 2 (t.ldtr.sel.setWidth 32)

/-- The same for an 80286 TSS: words, the upper halves of the general registers free, FS and GS null (R116, R543, R546 step 7). -/
def Image286 (s t : State) (base : DWord) (nested : Bool) : Prop :=
  let holds := fun (off : Nat) (v : DWord) => peek s (base + BitVec.ofNat 32 off) 2 = some v
  (∃ v, holds 0x10 v ∧ t.flags = { Flags.ofImage v with nt := (Flags.ofImage v).nt || nested }) ∧
    holds 0x0E t.eip ∧ holds 0x12 (t.regW .w16 .eax) ∧ holds 0x14 (t.regW .w16 .ecx) ∧ holds 0x16 (t.regW .w16 .edx) ∧
    holds 0x18 (t.regW .w16 .ebx) ∧ holds 0x1A (t.regW .w16 .esp) ∧ holds 0x1C (t.regW .w16 .ebp) ∧
    holds 0x1E (t.regW .w16 .esi) ∧ holds 0x20 (t.regW .w16 .edi) ∧ holds 0x22 (t.selD .es) ∧ holds 0x24 (t.selD .cs) ∧
    holds 0x26 (t.selD .ss) ∧ holds 0x28 (t.selD .ds) ∧ holds 0x2A (t.ldtr.sel.setWidth 32) ∧
    (t.sreg .fs).sel = 0 ∧ (t.sreg .gs).sel = 0

/-- The instructions that only level 0 may execute, in protected and V86 mode, whose class is B (R450, R361). -/
def isPrivileged : Instr → Bool
  | .lgdt _ => true
  | .lidt _ => true
  | .lmsw _ => true
  | .clts => true
  | .hlt => true
  | .movRdCr _ _ => true
  | .movRdDr _ _ => true
  | .movRdTr _ _ => true
  | .movCrRd _ _ => true
  | .movDrRd _ _ => true
  | .movTrRd _ _ => true
  | _ => false

/-- The instructions of class A, recognized in protected mode only (R174, R450). -/
def isProtectedOnly : Instr → Bool
  | .arpl _ _ => true
  | .lar _ _ => true
  | .lsl _ _ => true
  | .verr _ => true
  | .verw _ => true
  | .lldt _ => true
  | .sldt _ => true
  | .ltr _ => true
  | .str _ => true
  | _ => false

/-- A MOV to or from a special register: what it does to the registers (R466 to R468). -/
def specialForm : Instr → Option (State → State)
  | .movRdCr r c => some fun s => s.setReg r (s.creg c)
  | .movRdDr r d => some fun s => s.setReg r (s.dreg d)
  | .movRdTr r t => some fun s => s.setReg r (s.treg t)
  | .movCrRd c r => some fun s => s.setCreg c (s.reg r)
  | .movDrRd d r => some fun s => s.setDreg d (s.reg r)
  | .movTrRd t r => some fun s => s.setTreg t (s.reg r)
  | _ => none

/-- LAR, LSL, VERR, VERW: the selector's operand, and the state after a descriptor is found. -/
def probeForm (s : State) : Instr → Option (Size × RM Reg × (Desc → Word → State))
  | .lar r rm => some (s.osz.size, rm, fun d sel =>
      if validForLar d && visible d sel s.cpl then
        { s.setRegS s.osz.size r ((d.hi &&& 0x00F0FF00#32) ||| (Config.undef s.draws &&& 0x000F0000#32)) with
          draws := s.draws + 1, flags := { s.flags with zf := true } }
      else { s with flags := { s.flags with zf := false } })
  | .lsl r rm => some (s.osz.size, rm, fun d sel =>
      if validForLsl d && visible d sel s.cpl then
        { s.setRegS s.osz.size r d.limit with flags := { s.flags with zf := true } }
      else { s with flags := { s.flags with zf := false } })
  | .verr rm => some (.word, rm, fun d sel =>
      { s with flags := { s.flags with zf := (d.isData || d.isReadableCode) && visible d sel s.cpl } })
  | .verw rm => some (.word, rm, fun d sel =>
      { s with flags := { s.flags with
          zf := d.isWritableData && decide (s.cpl ≤ d.dpl) && decide (selRpl sel ≤ d.dpl) } })
  | _ => none

/-- What a prefix constructor records (R141). -/
def prefixForm : Instr → Option (Prefixes → Prefixes)
  | .esOverride => some fun p => { p with seg := some .es }
  | .csOverride => some fun p => { p with seg := some .cs }
  | .ssOverride => some fun p => { p with seg := some .ss }
  | .dsOverride => some fun p => { p with seg := some .ds }
  | .fsOverride => some fun p => { p with seg := some .fs }
  | .gsOverride => some fun p => { p with seg := some .gs }
  | .operandSize => some fun p => { p with opsize := true }
  | .addressSize => some fun p => { p with addrsize := true }
  | .lock => some fun p => { p with lock := true }
  | .repne => some fun p => { p with rep := some .repne }
  | .rep => some fun p => { p with rep := some .rep }
  | _ => none

end Sys2Proof.Claims

open Sys2Proof.Claims

/-- Words written out from the encoding tables decode to their instructions. Eight byte strings written out bit by bit
from the opcode tables decode, in code of the given default size, to the instruction that they stand for: ADD EAX,EBX;
MOV CL,7; SHL DX,3; PUSH with a 66 prefix; REP MOVSB; JNE with an 8-bit offset; MOV EAX,[EBX+ESI*4+8]; LGDT [1234H].
Rests on: 30_encoding.md R180 to R185. -/
def Obligations.DecodeKnownWords : Prop :=
  decode .w32 [0x01, 0xD8] = .ok ⟨[], .addRmvRv (.reg .eax) .ebx⟩ [] ∧
  decode .w16 [0xB1, 0x07] = .ok ⟨[], .movR8Imm8 .cl 7⟩ [] ∧
  decode .w16 [0xC1, 0xE2, 0x03] = .ok ⟨[], .salRmv (.reg .edx) (.imm 3)⟩ [] ∧
  decode .w16 [0x66, 0x68, 0x78, 0x56, 0x34, 0x12] = .ok ⟨[.operandSize], .pushImmv 0x12345678⟩ [] ∧
  decode .w16 [0xF3, 0xA4] = .ok ⟨[.rep], .movsb⟩ [] ∧
  decode .w16 [0x75, 0xFE] = .ok ⟨[], .jne8 0xFE⟩ [] ∧
  decode .w32 [0x8B, 0x44, 0xB3, 0x08] = .ok ⟨[], .movRvRmv .eax (.mem (.a32 (some .ebx) (some (.esi, .x4)) 8))⟩ [] ∧
  decode .w16 [0x0F, 0x01, 0x16, 0x34, 0x12] = .ok ⟨[], .lgdt (.a16 none 0x1234)⟩ []

/-- Decoding the encoding of a well-formed instruction, with any prefixes before it, gives it and them back. For every
instruction that is not a prefix byte and every pair of size attributes under which it is well formed, the decoder
reads the encoder's bytes back as that instruction, with every operand at every value the encoding admits, and leaves
the bytes after it. For every list of prefixes, in any order and number, and every instruction well formed under the
size attributes that those prefixes give in code of a default size, decoding the prefix bytes and the instruction's
bytes gives the prefixes in order and the instruction, and leaves the bytes after them.
Rests on: 30_encoding.md R140 to R186, 30_encoding.md R141, 30_encoding.md R142, 30_encoding.md R186. -/
def Obligations.DecodeEncodeRoundTrip : Prop :=
  (∀ (a : Attrs) (i : Instr) (rest : List Byte), i.wf a = true → i ∉ prefixInstrs →
      decodeOpcode a (encode a i ++ rest) = .ok i rest) ∧
  (∀ (default : Width) (ps : List Instr) (i : Instr) (rest : List Byte),
      (∀ p ∈ ps, p ∈ prefixInstrs) → i ∉ prefixInstrs → i.wf (attrsAfter default ps) = true →
      decode default ((ps.map (encode ⟨default, default⟩)).flatten ++ (encode (attrsAfter default ps) i ++ rest)) =
        .ok ⟨ps, i⟩ rest)

/-- State.reset holds what the spec says RESET leaves, and RESET in the course of a run leaves it too, the undefined
registers free. After reset the machine is in real-address mode with MSW 0, CPL 0, IDTR base 0 and limit 3FFH, EFLAGS
00000002H, running, NMI unmasked and no shadow. CS has selector F000H, base FFFF0000H and limit FFFFH, EIP is FFF0H,
and so the linear address of the first instruction byte is 0FFFFFFF0H. SS, DS, ES, FS and GS have selector 0, base 0
and limit FFFFH and are usable, present, writable, expand-up and byte-granular with B = 0. EFLAGS, the segment
registers and the split of the address into CS base and EIP are the spec's decision D9; the hidden attributes that R57
and R40 do not list are the model's (DESIGN CHOICE, log entry 6), and so are EDX (PRESUMED, log entry 7) and EAX
(DESIGN CHOICE, log entry 8). Of the values that State.reset holds in the registers which R57 marks U (log entry 5)
nothing is claimed. In any run state, a step that samples RESET gives a running machine in real-address mode with the
reset values of EIP, CS and the data-segment registers, EFLAGS, IDTR, CR0, CPL, EAX and EDX; memory is unchanged; and
every register that R57 marks U holds a free value of its own: ECX, EBX, ESP, EBP, ESI, EDI, GDTR, LDTR (which is
marked unusable), TR (which is not), CR2, CR3, DR0 to DR3, DR6, DR7, TR6 and TR7 (in the order of the model's draws;
these and the marks of LDTR and TR are DESIGN CHOICE, log entry 9).
Rests on: 10_state.md R57, 70_reset_and_hazards.md R560, 70_reset_and_hazards.md R561. -/
def Obligations.ResetLeavesStatedValues : Prop :=
  (State.reset.mode = .real ∧ State.reset.cr0 = 0 ∧ State.reset.cpl = 0 ∧
    State.reset.idtr = { base := 0, limit := 0x03FF } ∧ State.reset.flags.image = 0x00000002#32 ∧
    State.reset.eip = 0x0000FFF0#32 ∧ State.reset.linear .cs State.reset.eip = 0xFFFFFFF0#32 ∧
    (let cs := State.reset.seg.cs; cs.sel = 0xF000#16 ∧ cs.base = 0xFFFF0000#32 ∧ cs.limit = 0x0000FFFF#32) ∧
    (let r := State.reset.seg
      ∀ g ∈ [r.ss, r.ds, r.es, r.fs, r.gs], g.sel = 0 ∧ g.base = 0 ∧ g.limit = 0x0000FFFF#32 ∧ g.p = true ∧
        (g.s = true ∧ g.type.getLsbD 3 = false ∧ g.type.getLsbD 2 = false ∧ g.type.getLsbD 1 = true) ∧
        g.g = false ∧ g.db = false ∧ g.valid = true) ∧
    State.reset.gpr.eax = Config.selftestEax ∧ State.reset.gpr.edx = Config.edxReset ∧
    State.reset.run = .running ∧ State.reset.nmiBlocked = false ∧ State.reset.inhibit = .none) ∧
  (∀ s : State, s.sample.pins.reset = true → ∃ t, step s = .next t ∧ t.mem = s.mem ∧ t.eip = 0x0000FFF0#32 ∧
      t.seg = State.reset.seg ∧ t.flags = Flags.reset ∧ t.idtr = { base := 0, limit := 0x03FF } ∧ t.cr0 = 0 ∧ t.cpl = 0 ∧
      t.gpr.eax = Config.selftestEax ∧ t.gpr.edx = Config.edxReset ∧ t.run = .running ∧ t.inhibit = .none ∧
      t.nmiBlocked = false ∧
      (let u := fun k => Config.undef (s.draws + k);
        t.gpr.ecx = u 0 ∧ t.gpr.ebx = u 1 ∧ t.gpr.esp = u 2 ∧ t.gpr.ebp = u 3 ∧ t.gpr.esi = u 4 ∧ t.gpr.edi = u 5 ∧
        t.gdtr = { base := u 6, limit := (u 7).setWidth 16 } ∧
        t.ldtr = { sel := (u 8).setWidth 16, base := u 9, limit := u 10, valid := false } ∧
        t.tr = { sel := (u 11).setWidth 16, base := u 12, limit := u 13, is386 := (u 14).getLsbD 0 } ∧
        t.cr2 = u 15 ∧ t.cr3 = u 16 ∧
        t.dr = { dr0 := u 17, dr1 := u 18, dr2 := u 19, dr3 := u 20, dr6 := u 21, dr7 := u 22 } ∧
        t.tr6 = u 23 ∧ t.tr7 = u 24 ∧ t.draws = s.draws + 25))

/-- The invariant holds at reset. Memory at reset is in canonical form, and the mode and privilege level go together.
Rests on: 00_scope.md R2, 10_state.md R41, 20_memory.md R83. -/
def Obligations.ResetMeetsInvariant : Prop :=
  State.reset.Inv

/-- Every step keeps memory canonical and the mode and privilege level legal. For every state that meets the invariant, if
a step answers a next state then that state meets it: memory is in canonical form; outside protected mode VM is 0 and
CPL is 0; in V86 mode CPL is 3. The step may execute any instruction, take any exception or interrupt, switch tasks or
see RESET.
Rests on: 10_state.md R41, 00_scope.md R2, 20_memory.md R83. -/
def Obligations.StepKeepsInvariant : Prop :=
  ∀ s t : State, s.Inv → step s = .next t → t.Inv

/-- With no event due, a step executes the instruction that the bytes at CS:EIP decode to. When no event is due and the
machine is running, and the bytes fetched at CS:EIP decode to an instruction with its prefixes, of n bytes, the step
runs that instruction under those prefixes in the state whose EIP is past it, and then forgets the prefixes; with no
prefix, the step is exec of the instruction.
Rests on: 30_encoding.md R186, 10_state.md R24, 60_exceptions.md R512. -/
def Obligations.StepRunsDecodedInstruction : Prop :=
  ∀ (s : State) (d : Decoded) (rest : List Byte),
    let f := fetchBytes (atFetch s) maxLength (atFetch s).eip.toNat
    let n := f.1.length - rest.length
    s.sample.pins.reset = false → NothingDue s.sample → s.sample.run = .running →
    decode (atFetch s).defaultSize f.1 = .ok d rest → (atFetch s).eip.toNat + n < 4294967296 →
    step s = forgetPrefixes (runDecoded d.instr d.prefixes ((atFetch s).past n)) ∧
    (d.prefixes = [] → step s = forgetPrefixes (exec d.instr ((atFetch s).past n)))

/-- Bytes that are no instruction raise #UD with EIP at the first byte; a byte that cannot be fetched raises its own
exception, 13 beyond the limit. When no event is due and the machine is running: if the decoder rejects the bytes at
CS:EIP, the step delivers exception 6 with the saved EIP at the first byte; if it needs a byte that cannot be fetched,
the step delivers the exception of that byte. The bytes are those that can be fetched one after another from CS:EIP
on, at most fifteen; the exception is vector 13, code 0, beyond the fifteenth byte, and for an offset past 0FFFFFFFFH
(the spec's decision D16); otherwise it is the one that fetching the next byte raises, which is vector 13, code 0,
where that byte is beyond the CS limit. An instruction that is decoded but ends past 0FFFFFFFEH, so that EIP would
wrap, raises 13 as well (D16).
Rests on: 30_encoding.md R140, 30_encoding.md R170, 30_encoding.md R186, 10_state.md R25, 60_exceptions.md R504, 60_exceptions.md R505. -/
def Obligations.StepRaisesUndefinedOpcode : Prop :=
  ∀ (s : State) (why : Reject),
    let q := atFetch s
    let f := fetchBytes q maxLength q.eip.toNat
    let k := q.eip.toNat + f.1.length
    let next := fetchByte (BitVec.ofNat 32 k) q
    s.sample.pins.reset = false → NothingDue s.sample → s.sample.run = .running →
    (decode q.defaultSize f.1 = .undefined why → step s = .next (q.raise Exc.ud)) ∧
    (decode q.defaultSize f.1 = .more → step s = .next (q.raise f.2)) ∧
    (∀ d rest, decode q.defaultSize f.1 = .ok d rest → 4294967296 ≤ q.eip.toNat + (f.1.length - rest.length) →
      step s = .next (q.raise (Exc.gp 0))) ∧
    (f.1.length ≤ maxLength ∧ ∀ j b, f.1[j]? = some b →
      q.eip.toNat + j < 4294967296 ∧ ∃ u, fetchByte (BitVec.ofNat 32 (q.eip.toNat + j)) q = .ok b u) ∧
    (f.1.length = maxLength → f.2 = Exc.gp 0) ∧
    (f.1.length < maxLength → 4294967296 ≤ k → f.2 = Exc.gp 0) ∧
    (f.1.length < maxLength → k < 4294967296 → (∃ u, next = .error f.2 u) ∧ (∀ e u, next = .error e u → f.2 = e) ∧
      (∀ e, segFault q.mode .cs (q.sreg .cs) (BitVec.ofNat 32 k) 1 .execute = some e → f.2 = e ∧ e = Exc.gp 0 ∧ e.vector = 13))

/-- A step serves RESET, the single-step trap, NMI and INTR in that order, and otherwise runs, stays halted or waits. With
the pins sampled: RESET resets. Otherwise, unless shut down, a due single-step trap is delivered if the shadow is not
"all"; else a pending unmasked NMI if the shadow is not "all", which masks NMI; else INTR with its vector if IF is 1
and there is no shadow. In shutdown only NMI is served. Nothing is served where no trap is due (or it is held off by
the shadow "all", by a WAIT that waits, or by shutdown), no NMI is pending unmasked (or it is held off by the shadow
"all"), and INTR is absent, IF is 0, there is a shadow, or the machine is shut down: then a running machine executes
its next instruction, a halted or shut-down one stays so, and a waiting one completes when BUSY# is inactive. The trap
of a waiting WAIT comes after it completes (log entry 29).
Rests on: 60_exceptions.md R510, 60_exceptions.md R512, 60_exceptions.md R536, 60_exceptions.md R537, 10_state.md R52. -/
def Obligations.BoundaryServesEventsInOrder : Prop :=
  ∀ s : State, let p := s.sample
    let q : State := { p with trapDue := false, inhibit := .none }
    (p.pins.reset = true → step s = .next p.resetSignal) ∧
    (p.pins.reset = false → p.run ≠ .shutdown → p.run.isWaiting = false → p.trapDue = true → p.inhibit ≠ .all →
      step s = .next (q.deliver 1 .exception none p.eip)) ∧
    (p.pins.reset = false → (p.trapDue = false ∨ p.run.isWaiting = true ∨ p.run = .shutdown) → p.nmiPending = true →
      p.nmiBlocked = false → p.inhibit ≠ .all →
      step s = .next { ({ q with nmiPending := false } : State).deliver 2 .external none p.eip with nmiBlocked := true }) ∧
    (∀ n, p.pins.reset = false → p.run ≠ .shutdown → (p.trapDue = false ∨ p.run.isWaiting = true) →
      (p.nmiPending = false ∨ p.nmiBlocked = true) → p.flags.ifl = true → p.inhibit = .none → p.pins.intr = some n →
      step s = .next (q.deliver n.toNat .external none p.eip)) ∧
    (p.pins.reset = false →
      (p.trapDue = false ∨ p.inhibit = .all ∨ p.run.isWaiting = true ∨ p.run = .shutdown) →
      (p.nmiPending = false ∨ p.nmiBlocked = true ∨ p.inhibit = .all) →
      (p.pins.intr = none ∨ p.flags.ifl = false ∨ p.inhibit ≠ .none ∨ p.run = .shutdown) →
      (p.run = .running → step s = executeNext { p with inhibit := .none }) ∧
      (p.run = .halted ∨ p.run = .shutdown → step s = .next { p with inhibit := .none }) ∧
      (∀ next, p.run = .waiting next → step s = .next (if p.pins.busy then { p with inhibit := .none } else
        { p with inhibit := .none, run := .running, eip := next })))

/-- A store writes its bytes, the low-order one lowest, at consecutive addresses, and nothing else; a load reads them
back. With paging off, the physical addresses of an access of n bytes are the n consecutive linear ones from base plus
offset, modulo 2^32. An access of 1, 2 or 4 bytes stores byte k of the value at address k of them and changes no other
byte and nothing but memory; loading the same bytes afterwards gives the value cut to the size; canonical memory stays
canonical. With paging on, no byte outside the translated addresses changes.
Rests on: 20_memory.md R80, 20_memory.md R85, 20_memory.md R100, 20_memory.md R118. -/
def Obligations.MemoryStoreBytes : Prop :=
  ∀ (s : State) (seg : SReg) (off : DWord) (n : Nat) (v : DWord),
    OnlyBytes ((s.range .write seg off n).getD []) s (s.storedAt seg off n v) ∧
    (Memory.wf s.mem = true → Memory.wf (s.storedAt seg off n v).mem = true) ∧
    ((s.pe && s.pg) = false →
      (∀ k, s.range k seg off n = some ((List.range n).map fun j => s.linear seg off + BitVec.ofNat 32 j)) ∧
      (Memory.wf s.mem = true → n = 1 ∨ n = 2 ∨ n = 4 →
        (∀ j, j < n → Memory.read (s.storedAt seg off n v).mem (s.linear seg off + BitVec.ofNat 32 j).toNat = byteOf v j) ∧
        (s.storedAt seg off n v).loaded seg off n = if n = 1 then v &&& 0xFF#32 else if n = 2 then v &&& 0xFFFF#32 else v))

/-- When an access through a segment register violates the segment, and which exception it is; and what a page fault
reports. For an access of n bytes, n at least 1. In V86 mode: a violation exactly when the last byte is past 0FFFFH.
In protected mode: a register holding a null selector is a violation (for SS and CS, of which R104 says nothing, this
is the model's choice, log entry 16); an expand-up segment is violated exactly when the last byte is past the limit;
an expand-down one when the offset is not above the limit or the last byte is past 0FFFFFFFFH (B = 1) or 0FFFFH;
within the limit, a write is refused unless the segment is writable data and a read unless it is readable, with vector
13. A limit violation is vector 12 through SS and 13 otherwise, with code 0. In real-address mode the limit left from
protected mode stays in force for every register and is the only test through CS (R101, R572); through another
register that still holds the attributes of protected mode a write needs writable data and a read a readable segment
(R573; how R101 and R573 go together is log entry 17). With paging on, where translation answers a page fault,
exception 14 carries the linear address, and a code whose bit 1 is set for a write and bit 2 for an access at CPL 3;
bit 0 and the bits above are what Translate answers (log entry 14).
Rests on: 20_memory.md R101, 20_memory.md R102, 20_memory.md R104, 20_memory.md R118, 10_state.md R40, 60_exceptions.md R501, 70_reset_and_hazards.md R571, 70_reset_and_hazards.md R573, 70_reset_and_hazards.md R572. -/
def Obligations.SegmentLimitAndRightsChecks : Prop :=
  (∀ (r : SReg) (g : SegReg) (off : DWord) (n : Nat) (k : AccessKind), 1 ≤ n →
    let last := off.toNat + n - 1
    let bad := if r = .ss then Exc.ss 0 else Exc.gp 0
    let inside := (g.isExpandDown = false ∧ last ≤ g.limit.toNat) ∨
      (g.isExpandDown = true ∧ g.limit.toNat < off.toNat ∧ last ≤ (if g.db then 0xFFFFFFFF else 0xFFFF))
    (segFault .v86 r g off n k = if last ≤ 0xFFFF then none else some bad) ∧
    (g.valid = false → segFault .prot r g off n k = some bad) ∧
    (g.valid = true → ¬inside → segFault .prot r g off n k = some bad) ∧
    (g.valid = true → inside → segFault .prot r g off n k =
      if (k = .write ∧ g.isWritable = false) ∨ (k = .read ∧ g.isReadable = false) then some (Exc.gp 0) else none) ∧
    (¬inside → segFault .real r g off n k = some bad) ∧
    (inside → segFault .real r g off n k =
      if r ≠ .cs ∧ ((k = .write ∧ g.isWritable = false) ∨ (k = .read ∧ g.isReadable = false)) then some bad else none)) ∧
  (∀ g : SegReg, (g.isCode = true ↔ g.s = true ∧ g.type.getLsbD 3 = true) ∧
    (g.isExpandDown = true ↔ g.isCode = false ∧ g.type.getLsbD 2 = true) ∧
    (g.isWritable = true ↔ g.isCode = false ∧ g.type.getLsbD 1 = true) ∧
    (g.isReadable = true ↔ g.isCode = false ∨ g.type.getLsbD 1 = true)) ∧
  (∀ (s : State) (k : AccessKind) (user : Bool) (lin : DWord), translate k user lin s =
    if s.pe = true ∧ s.pg = true then
      match Config.translate s.cr3 s.mem lin k user with
      | .phys a => .ok a s
      | .pageFault protection upper => .error ⟨14, some (pageFaultCode protection k user upper), some lin, false⟩ s
    else .ok lin s) ∧
  (∀ (protection : Bool) (k : AccessKind) (user : Bool) (upper : BitVec 13), let c := pageFaultCode protection k user upper
    c.getLsbD 0 = protection ∧ c.getLsbD 1 = decide (k = .write) ∧ c.getLsbD 2 = user ∧ c.extractLsb' 3 13 = upper)

/-- The 16-bit and byte registers are parts of the 32-bit registers; a write to a part keeps the rest. A 16-bit register
is bits 15:0 of its general register and a write to it keeps bits 31:16; AL, CL, DL and BL are bits 7:0 and AH, CH, DH
and BH bits 15:8 of EAX, ECX, EDX and EBX, and a write to it keeps the other 24 bits; a 32-bit write replaces the
register; no write changes another general register or anything else of the state. (That a write to a part keeps the
rest is marked by the spec as general knowledge.)
Rests on: 10_state.md R21, 10_state.md R22. -/
def Obligations.RegisterPartsAreViews : Prop :=
  ∀ (s : State) (r r' : Reg) (b : Reg8) (v : DWord) (x : Byte),
    (s.regW .w16 r = ((s.reg r).extractLsb' 0 16).setWidth 32) ∧
    ((s.setRegW .w16 r v).reg r = (s.reg r).extractLsb' 16 16 ++ v.extractLsb' 0 16) ∧
    ((s.setRegW .w32 r v).reg r = v) ∧
    (r' ≠ r → ∀ w, (s.setRegW w r v).reg r' = s.reg r') ∧
    (s.reg8 b = if isHighByte b then (s.reg (wholeReg b)).extractLsb' 8 8 else (s.reg (wholeReg b)).extractLsb' 0 8) ∧
    ((s.setReg8 b x).reg (wholeReg b) =
      if isHighByte b then (s.reg (wholeReg b)).extractLsb' 16 16 ++ x ++ (s.reg (wholeReg b)).extractLsb' 0 8
      else (s.reg (wholeReg b)).extractLsb' 8 24 ++ x) ∧
    (r' ≠ wholeReg b → (s.setReg8 b x).reg r' = s.reg r') ∧
    (∀ w, s.setRegW w r v = { s with gpr := (s.setRegW w r v).gpr }) ∧
    (s.setReg8 b x = { s with gpr := (s.setReg8 b x).gpr }) ∧
    wholeReg .al = .eax ∧ wholeReg .cl = .ecx ∧ wholeReg .dl = .edx ∧ wholeReg .bl = .ebx ∧
    wholeReg .ah = .eax ∧ wholeReg .ch = .ecx ∧ wholeReg .dh = .edx ∧ wholeReg .bh = .ebx ∧
    (∀ b ∈ [Reg8.ah, .ch, .dh, .bh], isHighByte b = true) ∧ (∀ b ∈ [Reg8.al, .cl, .dl, .bl], isHighByte b = false)

/-- A 16-bit effective address wraps at 2^16 and a 32-bit one at 2^32; BP, EBP and ESP as a base select SS. The offset of
a 16-bit form is the sum of its registers and displacement modulo 2^16, the one of a 32-bit form the sum of base,
index times scale and displacement modulo 2^32. Without an override the segment is SS when the base is BP, EBP or ESP
and DS otherwise.
Rests on: 30_encoding.md R152, 30_encoding.md R153, 30_encoding.md R154, 20_memory.md R105. -/
def Obligations.EffectiveAddressForms : Prop :=
  ∀ (s : State) (d : Word) (e : DWord) (b : Reg) (i : Reg) (k : Scale),
    let r := fun x => (s.reg x).toNat
    let f : Nat := match k with
      | .x1 => 1
      | .x2 => 2
      | .x4 => 4
      | .x8 => 8
    (effectiveOffset s (.a16 none d)).toNat = d.toNat ∧
    (effectiveOffset s (.a16 (some .bxSi) d)).toNat = (r .ebx + r .esi + d.toNat) % 65536 ∧
    (effectiveOffset s (.a16 (some .bxDi) d)).toNat = (r .ebx + r .edi + d.toNat) % 65536 ∧
    (effectiveOffset s (.a16 (some .bpSi) d)).toNat = (r .ebp + r .esi + d.toNat) % 65536 ∧
    (effectiveOffset s (.a16 (some .bpDi) d)).toNat = (r .ebp + r .edi + d.toNat) % 65536 ∧
    (effectiveOffset s (.a16 (some .si) d)).toNat = (r .esi + d.toNat) % 65536 ∧
    (effectiveOffset s (.a16 (some .di) d)).toNat = (r .edi + d.toNat) % 65536 ∧
    (effectiveOffset s (.a16 (some .bp) d)).toNat = (r .ebp + d.toNat) % 65536 ∧
    (effectiveOffset s (.a16 (some .bx) d)).toNat = (r .ebx + d.toNat) % 65536 ∧
    (effectiveOffset s (.a32 none none e)) = e ∧
    (effectiveOffset s (.a32 (some b) none e)).toNat = (r b + e.toNat) % 4294967296 ∧
    (effectiveOffset s (.a32 none (some (i, k)) e)).toNat = (r i * f + e.toNat) % 4294967296 ∧
    (effectiveOffset s (.a32 (some b) (some (i, k)) e)).toNat = (r b + r i * f + e.toNat) % 4294967296 ∧
    (∀ x, defaultSegment (.a16 x d) =
      if x = some .bp ∨ x = some .bpSi ∨ x = some .bpDi then .ss else .ds) ∧
    (∀ x y, defaultSegment (.a32 x y e) = if x = some .ebp ∨ x = some .esp then .ss else .ds) ∧
    (∀ q z, ({ s with pfx := { s.pfx with seg := some q } } : State).segOr z = q) ∧
    (s.pfx.seg = none → ∀ z, s.segOr z = z)

/-- The status flags of addition and subtraction, as numbers. For operands of a size and a carry: after an addition CF
says that the unsigned sum does not fit, OF that the signed sum does not fit, AF that the low digits carry, ZF that
the result is zero, SF is its top bit and PF its low byte's even parity; after a subtraction CF says that there is a
borrow, OF that the signed difference does not fit, AF that the low digits borrow. No other flag changes. (R36 is the
spec's own rule, its decision D15.)
Rests on: 10_state.md R36. -/
def Obligations.AddSubtractFlags : Prop :=
  ∀ (f : Flags) (sz : Size) (a b : DWord) (c : Bool), a.toNat < 2 ^ sz.bits → b.toNat < 2 ^ sz.bits →
    let sum := a.toNat + b.toNat + c.toNat
    let ssum := toSigned sz a + toSigned sz b + c.toNat
    let sdiff := toSigned sz a - toSigned sz b - c.toNat
    let fadd := f.add sz a b c
    let fsub := f.sub sz a b c
    (addResult sz a b c).toNat = sum % 2 ^ sz.bits ∧
    (subResult sz a b c).toNat = (a.toNat + 2 ^ (sz.bits + 1) - b.toNat - c.toNat) % 2 ^ sz.bits ∧
    fadd.cf = decide (2 ^ sz.bits ≤ sum) ∧ fadd.ofl = !fits true sz ssum ∧
    fadd.af = decide (16 ≤ a.toNat % 16 + b.toNat % 16 + c.toNat) ∧
    fadd.zf = decide (sum % 2 ^ sz.bits = 0) ∧ fadd.sf = (addResult sz a b c).getLsbD (sz.bits - 1) ∧
    fadd.pf = decide (((List.range 8).countP fun j => (addResult sz a b c).getLsbD j) % 2 = 0) ∧
    fsub.cf = decide (a.toNat < b.toNat + c.toNat) ∧ fsub.ofl = !fits true sz sdiff ∧
    fsub.af = decide (a.toNat % 16 < b.toNat % 16 + c.toNat) ∧
    fsub.zf = decide ((subResult sz a b c).toNat = 0) ∧ fsub.sf = (subResult sz a b c).getLsbD (sz.bits - 1) ∧
    fsub.pf = decide (((List.range 8).countP fun j => (subResult sz a b c).getLsbD j) % 2 = 0) ∧
    fadd = { f with cf := fadd.cf, pf := fadd.pf, af := fadd.af, zf := fadd.zf, sf := fadd.sf, ofl := fadd.ofl } ∧
    fsub = { f with cf := fsub.cf, pf := fsub.pf, af := fsub.af, zf := fsub.zf, sf := fsub.sf, ofl := fsub.ofl }

/-- The EFLAGS image holds every flag at its bit, the fixed bits read 1, 0, 0, 0, 0, and loading it back gives the flags.
Loading the image of the flags gives the flags; bit 1 of an image is 1 and bits 3, 5, 15 and 31:18 are 0, whatever was
loaded; and each other bit of a doubleword survives a load and a store.
Rests on: 10_state.md R26, 10_state.md R28. -/
def Obligations.FlagsImageFixedBits : Prop :=
  ∀ (f : Flags) (v : DWord),
    Flags.ofImage f.image = f ∧ f.image.getLsbD 1 = true ∧ f.image.getLsbD 3 = false ∧ f.image.getLsbD 5 = false ∧
    f.image.getLsbD 15 = false ∧ (∀ j, 18 ≤ j → f.image.getLsbD j = false) ∧
    (Flags.ofImage v).image = (v &&& 0x00037FD5#32) ||| 0x00000002#32 ∧
    f.image.getLsbD 0 = f.cf ∧ f.image.getLsbD 2 = f.pf ∧ f.image.getLsbD 4 = f.af ∧ f.image.getLsbD 6 = f.zf ∧
    f.image.getLsbD 7 = f.sf ∧ f.image.getLsbD 8 = f.tf ∧ f.image.getLsbD 9 = f.ifl ∧ f.image.getLsbD 10 = f.df ∧
    f.image.getLsbD 11 = f.ofl ∧ f.image.extractLsb' 12 2 = f.iopl ∧ f.image.getLsbD 14 = f.nt ∧
    f.image.getLsbD 16 = f.rf ∧ f.image.getLsbD 17 = f.vm

/-- ADD, ADC, SUB, SBB, CMP, AND, OR, XOR and TEST complete with the result stored, the flags set and nothing else
changed. For each of the 70 two-operand forms: when the source and the destination can be read, and the destination
written where the operation stores a result, exec answers the state with the result of the operation on the two values
(and CF) stored in the destination, none stored for CMP and TEST, and the flags of the operation; AF of a logical
operation is free. Every byte of memory outside the destination is as before.
Rests on: 40_arith_logic.md R202 to R213. -/
def Obligations.TwoOperandResult : Prop :=
  ∀ (i : Instr) (s : State) (f : AluForm), aluForm s i = some f → f.src.ready s f.size → Readable s f.size f.dst →
    (f.op.writes = true → Writable s f.size f.dst) →
    exec i s = .next (f.after s) ∧
    OnlyBytes (if f.op.writes then s.storeAddrs f.size f.dst else []) s (f.after s)

/-- What each two-operand operation computes, as numbers and bits, and which flags each sets. For operands of a size: ADD,
ADC, SUB and SBB give the sum or difference, with the carry where the operation takes it, modulo 2^N; AND, OR and XOR
act bit by bit; the result of TEST is that of AND, and the result of CMP that of SUB. The arithmetic operations set
the flags of addition or subtraction; the logical ones clear CF and OF, set ZF, SF and PF from the result and keep the
other flags.
Rests on: 40_arith_logic.md R202 to R213. -/
def Obligations.TwoOperandValues : Prop :=
  ∀ (f : Flags) (sz : Size) (a b : DWord) (c : Bool), a.toNat < 2 ^ sz.bits → b.toNat < 2 ^ sz.bits →
    let m := 2 ^ sz.bits
    (AluOp.add.result sz a b c).toNat = (a.toNat + b.toNat) % m ∧
    (AluOp.adc.result sz a b c).toNat = (a.toNat + b.toNat + c.toNat) % m ∧
    (AluOp.sub.result sz a b c).toNat = (a.toNat + m - b.toNat) % m ∧
    (AluOp.sbb.result sz a b c).toNat = (a.toNat + 2 * m - b.toNat - c.toNat) % m ∧
    (∀ j, (AluOp.and.result sz a b c).getLsbD j = (a.getLsbD j && b.getLsbD j)) ∧
    (∀ j, (AluOp.or.result sz a b c).getLsbD j = (a.getLsbD j || b.getLsbD j)) ∧
    (∀ j, (AluOp.xor.result sz a b c).getLsbD j = (a.getLsbD j ^^ b.getLsbD j)) ∧
    AluOp.test.result sz a b c = AluOp.and.result sz a b c ∧ AluOp.cmp.result sz a b c = AluOp.sub.result sz a b c ∧
    AluOp.add.flags sz a b f = f.add sz a b false ∧ AluOp.adc.flags sz a b f = f.add sz a b f.cf ∧
    AluOp.sub.flags sz a b f = f.sub sz a b false ∧ AluOp.sbb.flags sz a b f = f.sub sz a b f.cf ∧
    AluOp.cmp.flags sz a b f = f.sub sz a b false ∧
    (∀ op ∈ [AluOp.and, AluOp.or, AluOp.xor, AluOp.test],
      let r := op.result sz a b c
      op.flags sz a b f = { f with cf := false, ofl := false, zf := decide (r = 0), sf := r.getLsbD (sz.bits - 1),
                                   pf := decide (((List.range 8).countP fun j => r.getLsbD j) % 2 = 0) })

/-- INC, DEC, NEG and NOT complete with the result stored; INC and DEC keep CF, NOT keeps every flag. For each of the ten
forms: when the operand can be read and written, exec answers the state with the operand plus 1, minus 1, negated or
complemented, at the operand's size; INC and DEC set the flags of the addition or subtraction of 1 but keep CF; NEG
sets those of the subtraction from 0; NOT sets none. Every byte of memory outside the operand is as before.
Rests on: 40_arith_logic.md R207, 40_arith_logic.md R208, 40_arith_logic.md R209, 40_arith_logic.md R214. -/
def Obligations.OneOperandResult : Prop :=
  ∀ (i : Instr) (s : State) (u : Unary) (sz : Size) (l : Loc), unaryForm s i = some (u, sz, l) → Readable s sz l →
    Writable s sz l → exec i s = .next (u.after s sz l) ∧ OnlyBytes (s.storeAddrs sz l) s (u.after s sz l)

/-- CBW, CWDE, CWD and CDQ extend the sign of the accumulator and change no flag and nothing else. CBW makes AX the sign
extension of AL and keeps bits 31:16 of EAX; CWDE makes EAX that of AX; CWD fills DX, and CDQ EDX, with the top bit of
AX or EAX, CWD keeping bits 31:16 of EDX. No flag, no other register and no byte of memory changes. Their opcodes are
98 and 99.
Rests on: R215, R216. -/
def Obligations.SignConversionResult : Prop :=
  (∀ w, decode w [0x98] = .ok ⟨[], .cbw⟩ [] ∧ decode w [0x99] = .ok ⟨[], .cwd⟩ []) ∧
  ∀ s : State,
    (∃ t, exec .cbw s = .next t ∧ t = { s with gpr := t.gpr } ∧ OnlyRegs [.eax] s t ∧
      (s.osz = .w16 → (t.reg .eax).extractLsb' 0 16 = (s.reg8 .al).signExtend 16 ∧
        (t.reg .eax).extractLsb' 16 16 = (s.reg .eax).extractLsb' 16 16) ∧
      (s.osz = .w32 → t.reg .eax = ((s.reg .eax).extractLsb' 0 16).signExtend 32)) ∧
    (∃ t, exec .cwd s = .next t ∧ t = { s with gpr := t.gpr } ∧ OnlyRegs [.edx] s t ∧
      (s.osz = .w16 → (t.reg .edx).extractLsb' 0 16 = (if (s.reg .eax).getLsbD 15 then 0xFFFF#16 else 0#16) ∧
        (t.reg .edx).extractLsb' 16 16 = (s.reg .edx).extractLsb' 16 16) ∧
      (s.osz = .w32 → t.reg .edx = if (s.reg .eax).getLsbD 31 then 0xFFFFFFFF#32 else 0#32))

/-- AAA, AAS, AAD, AAM, DAA and DAS complete with the adjusted AL and AH and the flags of their listings. Each completes
in every state. AAA and AAS adjust AL by 6 and AH by 1 when the low digit exceeds 9 or AF is set, clear the high digit
of AL, and set AF and CF to whether they adjusted; AAD makes AL = AH * 10 + AL and AH 0; AAM divides AL by 10 into AH
and AL; DAA and DAS make the two tests of their listings. SF, ZF and PF follow AL for AAD, AAM, DAA and DAS; the flags
the spec leaves undefined are free; only EAX, bits 15:0, and the flags change.
Rests on: 40_arith_logic.md R217 to R222. -/
def Obligations.DecimalAdjustResult : Prop :=
  ∀ s : State,
    let al := s.reg8 .al
    let ah := s.reg8 .ah
    let adj := decide (9 < al.toNat % 16) || s.flags.af
    let u := Config.undef s.draws
    let only := fun t : State => t = { s with gpr := t.gpr, flags := t.flags, draws := t.draws } ∧ OnlyRegs [.eax] s t ∧
      (t.reg .eax).extractLsb' 16 16 = (s.reg .eax).extractLsb' 16 16
    let ascii := fun (i : Instr) (lo hi : Byte) => ∃ t, exec i s = .next t ∧ only t ∧
      t.reg8 .al = (if adj then lo else al) &&& 0x0F#8 ∧ t.reg8 .ah = (if adj then hi else ah) ∧
      t.flags = { s.flags with af := adj, cf := adj, ofl := u.getLsbD 11, sf := u.getLsbD 7, zf := u.getLsbD 6,
                               pf := u.getLsbD 2 }
    let product := fun (i : Instr) (lo hi : Byte) => ∃ t, exec i s = .next t ∧ only t ∧ t.reg8 .al = lo ∧ t.reg8 .ah = hi ∧
      t.flags = { s.flags.szp .byte (lo.setWidth 32) with ofl := u.getLsbD 11, af := u.getLsbD 4, cf := u.getLsbD 0 }
    let packed := fun (i : Instr) (f : Byte → Byte → Byte) =>
      let a1 := if adj then f al 6 else al
      let c := decide (0x9F < a1.toNat) || s.flags.cf
      let a2 := if c then f a1 0x60 else a1
      ∃ t, exec i s = .next t ∧ only t ∧ t.reg8 .al = a2 ∧ t.reg8 .ah = ah ∧ t.draws = s.draws ∧
        t.flags = { s.flags.szp .byte (a2.setWidth 32) with af := adj, cf := c }
    ascii .aaa (al + 6) (ah + 1) ∧ ascii .aas (al - 6) (ah - 1) ∧
    product .aad (BitVec.ofNat 8 (ah.toNat * 10 + al.toNat)) 0 ∧
    product .aam (BitVec.ofNat 8 (al.toNat % 10)) (BitVec.ofNat 8 (al.toNat / 10)) ∧
    packed .daa (fun a b => a + b) ∧ packed .das (fun a b => a - b)

/-- MUL and IMUL complete with the product, CF and OF saying whether its high half matters. When the operand can be read,
exec answers a state in which AX, DX:AX or EDX:EAX is the unsigned or signed product of AL, AX or EAX and the operand;
CF and OF are set exactly when the product is no value of the operand's size, unsigned or signed; SF, ZF, AF and PF
are free; the other flags, the other registers, the register halves not written, and memory are as before. When the
r/m operand can be read, exec answers a state in which the register, at the operand size, is the signed product of the
two sources modulo 2^N; CF and OF are set exactly when the product is no signed value of N bits; SF, ZF, AF and PF are
free; everything else, the upper half of the register for a 16-bit size among it, is as before.
Rests on: 41_muldiv_shift_bit.md R251, 41_muldiv_shift_bit.md R252, 41_muldiv_shift_bit.md R253. -/
def Obligations.MultiplyResult : Prop :=
  (∀ (i : Instr) (s : State) (signed : Bool) (sz : Size) (l : Loc), mulForm s i = some (signed, sz, l) → Readable s sz l →
      ∃ t, exec i s = .next t ∧
        let p := number signed sz (s.acc sz) * number signed sz (s.value sz l)
        let c := !fits signed sz p
        wideValue signed t sz = p ∧
        t.flags = ({ s.flags with cf := c, ofl := c } : Flags).scramble mulUndef (Config.undef s.draws) ∧
        t = { s with gpr := t.gpr, flags := t.flags, draws := s.draws + 1 } ∧ OnlyRegs [.eax, .edx] s t ∧ KeepsHalves sz s t) ∧
  (∀ (i : Instr) (s : State) (r : Reg) (x y : Src), imulForm s i = some (r, x, y) → x.ready s s.osz.size →
      y.ready s s.osz.size →
      ∃ t, exec i s = .next t ∧
        let sz := s.osz.size
        let p := toSigned sz (x.val s sz) * toSigned sz (y.val s sz)
        let c := !fits true sz p
        toSigned sz (t.reg r) = Int.bmod p (2 ^ sz.bits) ∧
        t.flags = ({ s.flags with cf := c, ofl := c } : Flags).scramble mulUndef (Config.undef s.draws) ∧
        t = { s with gpr := t.gpr, flags := t.flags, draws := s.draws + 1 } ∧ OnlyRegs [r] s t ∧
        (sz = .word → (t.reg r).extractLsb' 16 16 = (s.reg r).extractLsb' 16 16))

/-- DIV and IDIV complete with quotient and remainder when the quotient fits; else interrupt 0 with nothing changed. When
the operand can be read: if the divisor is not 0 and the quotient, rounded toward 0, is a value of the operand's size
(unsigned for DIV, signed for IDIV), exec answers a state whose quotient and remainder registers hold them, all six
status flags free and nothing else changed; if the divisor is 0 or the quotient does not fit, interrupt 0 is taken
from the unchanged state.
Rests on: 41_muldiv_shift_bit.md R254, 41_muldiv_shift_bit.md R255. -/
def Obligations.DivideResultAndError : Prop :=
  ∀ (i : Instr) (s : State) (signed : Bool) (sz : Size) (l : Loc), divForm s i = some (signed, sz, l) → Readable s sz l →
    let d := number signed sz (s.value sz l)
    let n := wideValue signed s sz
    (d ≠ 0 → fits signed sz (Int.tdiv n d) = true →
      ∃ t, exec i s = .next t ∧
        number signed sz (t.acc sz) = Int.tdiv n d ∧
        number signed sz (if sz = .byte then (t.reg8 .ah).setWidth 32 else t.regS sz .edx) = Int.tmod n d ∧
        t.flags = s.flags.scramble StatusMask.all (Config.undef s.draws) ∧
        t = { s with gpr := t.gpr, flags := t.flags, draws := s.draws + 1 } ∧ OnlyRegs [.eax, .edx] s t ∧
        KeepsHalves sz s t) ∧
    (d = 0 ∨ fits signed sz (Int.tdiv n d) = false → exec i s = .next (s.raise (Exc.plain 0)))

/-- The shifts and rotates complete, whatever the count, with the operand and CF stepped as often as the masked count
says. For each of the 14 constructors and every count operand: when the operand can be read and written, exec answers
the state with the operand and CF stepped COUNT times, COUNT the low five bits of the count; OF by the operation's
rule when COUNT is 1 and free otherwise; a shift by at least 1 sets SF, ZF and PF and leaves AF free, a rotate keeps
them. Every byte of memory outside the operand is as before.
Rests on: 41_muldiv_shift_bit.md R256 to R263. -/
def Obligations.ShiftRotateResult : Prop :=
  ∀ (i : Instr) (s : State) (f : ShiftForm), shiftForm s i = some f → Readable s f.size f.dst → Writable s f.size f.dst →
    let v := s.value f.size f.dst
    let vc := f.op.steps f.size f.count (v, s.flags.cf)
    let fl := if f.op.isRotate || f.count == 0 then s.flags else s.flags.szp f.size vc.1
    let t : State := { s.stored f.size f.dst vc.1 with
      flags := { fl with cf := vc.2, ofl := if f.count = 1 then f.op.overflow f.size v vc.1 vc.2 else s.flags.ofl } }
    exec i s = .next (t.undefined
      { StatusMask.none with ofl := f.count != 1, af := !f.op.isRotate && f.count != 0 }) ∧
    OnlyBytes (s.storeAddrs f.size f.dst) s t

/-- What the repeated steps of the shifts and rotates come to, as numbers and bits, and OF for a count of 1. For a value
of N bits and a count n: SHL gives the value times 2^n modulo 2^N and, n at least 1, bit N of the product as CF; SHR
divides by 2^n and SAR divides the signed value by 2^n rounding down, CF the last bit shifted out; ROL and ROR move
bit j to bit j + n or j - n modulo N, CF the low or top bit of the result; RCL and RCR do so with CF as bit N of N +
1. For such a value and a count of 1, OF is: for ROL, RCL and SHL the top bit of the result XOR CF (for all three,
whether the operand's top two bits differ); for ROR and RCR the XOR of the result's top two bits; for SHR the
operand's top bit; for SAR 0.
Rests on: 41_muldiv_shift_bit.md R257 to R263. -/
def Obligations.ShiftRotateValues : Prop :=
  (∀ (sz : Size) (n : Nat) (v : DWord) (c : Bool), v.toNat < 2 ^ sz.bits →
    let N := sz.bits
    let w : Nat → Bool := fun j => if j = N then c else v.getLsbD j
    let out := fun op : ShiftOp => op.steps sz n (v, c)
    (out .sal).1.toNat = v.toNat * 2 ^ n % 2 ^ N ∧ (1 ≤ n → (out .sal).2 = (v.toNat * 2 ^ n).testBit N) ∧
    (out .shr).1.toNat = v.toNat / 2 ^ n ∧ (1 ≤ n → (out .shr).2 = v.toNat.testBit (n - 1)) ∧
    toSigned sz (out .sar).1 = toSigned sz v / 2 ^ n ∧
    (1 ≤ n → (out .sar).2 = decide (toSigned sz v / 2 ^ (n - 1) % 2 = 1)) ∧
    (∀ j, j < N → (out .rol).1.getLsbD ((j + n) % N) = v.getLsbD j) ∧ (1 ≤ n → (out .rol).2 = (out .rol).1.getLsbD 0) ∧
    (∀ j, j < N → (out .ror).1.getLsbD j = v.getLsbD ((j + n) % N)) ∧
    (1 ≤ n → (out .ror).2 = (out .ror).1.getLsbD (N - 1)) ∧
    (∀ j, j ≤ N → (if (j + n) % (N + 1) = N then (out .rcl).2 else (out .rcl).1.getLsbD ((j + n) % (N + 1))) = w j) ∧
    (∀ j, j ≤ N → (if j = N then (out .rcr).2 else (out .rcr).1.getLsbD j) = w ((j + n) % (N + 1)))) ∧
  (∀ (sz : Size) (v : DWord) (c : Bool), v.toNat < 2 ^ sz.bits →
    let N := sz.bits
    let top := fun x : DWord => x.getLsbD (N - 1)
    let next := fun x : DWord => x.getLsbD (N - 2)
    let once := fun op : ShiftOp => op.steps sz 1 (v, c)
    let oflow := fun op : ShiftOp => op.overflow sz v (once op).1 (once op).2
    oflow .rol = (top (once .rol).1 ^^ (once .rol).2) ∧ oflow .ror = (top (once .ror).1 ^^ next (once .ror).1) ∧
    oflow .rcl = (top (once .rcl).1 ^^ (once .rcl).2) ∧ oflow .rcr = (top (once .rcr).1 ^^ next (once .rcr).1) ∧
    oflow .sal = (top (once .sal).1 ^^ (once .sal).2) ∧ oflow .shr = top v ∧ oflow .sar = false ∧
    oflow .sal = (top v ^^ next v) ∧ oflow .rol = (top v ^^ next v) ∧ oflow .rcl = (top v ^^ next v) ∧
    oflow .ror = (top v ^^ v.getLsbD 0) ∧ oflow .rcr = (top v ^^ c))

/-- SHLD and SHRD complete for every count: nothing for 0, the shifted pair below N, a free result and flags at N or more.
When the operand can be read and written: with a masked count of 0 nothing changes; with a count n below the operand
size SHLD gives bit j from bit j - n of the operand, or from the register's top n bits below n, and SHRD bit j from
bit j + n, or from the register's low n bits; CF is the last bit shifted out, SF, ZF and PF follow the result, AF and
OF are free; with a 16-bit operand and a count of 16 or more the result and the six flags are free. The register
operand is not changed.
Rests on: 41_muldiv_shift_bit.md R264, 41_muldiv_shift_bit.md R265. -/
def Obligations.DoubleShiftResult : Prop :=
  ∀ (i : Instr) (s : State) (d : DoubleShift) (l : Loc) (r : Reg) (n : Nat), doubleForm s i = some (d, l, r, n) →
    Readable s s.osz.size l → Writable s s.osz.size l →
    let sz := s.osz.size
    let N := sz.bits
    let v := s.value sz l
    let x := s.regS sz r
    (n = 0 → exec i s = .next s) ∧
    (0 < n → n < N → ∃ y : DWord,
      (∀ j, y.getLsbD j = (decide (j < N) && match d with
        | .left => if j < n then x.getLsbD (N - n + j) else v.getLsbD (j - n)
        | .right => if j + n < N then v.getLsbD (j + n) else x.getLsbD (j + n - N))) ∧
      exec i s = .next (({ s.stored sz l y with flags := { s.flags.szp sz y with cf := (match d with
          | .left => v.getLsbD (N - n)
          | .right => v.getLsbD (n - 1)) } } : State).undefined { StatusMask.none with af := true, ofl := true })) ∧
    (N ≤ n → exec i s = .next (({ s.stored sz l (truncSize sz (Config.undef s.draws)) with draws := s.draws + 1 } : State).undefined
      StatusMask.all)) ∧
    (∀ y, OnlyBytes (s.storeAddrs sz l) s (s.stored sz l y))

/-- BT, BTS, BTR and BTC complete with CF the tested bit and that one bit of the operand left, set, reset or complemented.
For each of the eight forms: when the unit that holds the bit can be read, and written but for BT, exec answers the
state with CF the bit and the unit rewritten with that bit left, set, cleared or complemented and every other bit
kept; BT writes nothing. For a register bit offset the unit in memory is the one at EA plus N/8 times the signed
offset divided by N, rounded down. No other flag changes, nor any byte of memory outside the unit.
Rests on: 41_muldiv_shift_bit.md R266 to R270. -/
def Obligations.BitTestResult : Prop :=
  ∀ (i : Instr) (s : State) (op : BitOp) (l : Loc) (k : Nat), bitForm s i = some (op, l, k) → Readable s s.osz.size l →
    (op ≠ .bt → Writable s s.osz.size l) →
    let v := s.value s.osz.size l
    ∃ y : DWord, (∀ j, y.getLsbD j = if j = k then newBit op (v.getLsbD k) else v.getLsbD j) ∧ k < s.osz.size.bits ∧
      let t : State := { (if op = .bt then s else s.stored s.osz.size l y) with flags := { s.flags with cf := v.getLsbD k } }
      exec i s = .next t ∧ OnlyBytes (if op = .bt then [] else s.storeAddrs s.osz.size l) s t

/-- BSF and BSR complete with the least or greatest set bit and ZF 0, or with ZF 1 and a free register when there is none.
When the source can be read: if it is 0, ZF is 1 and the register, at the operand size, holds a free value; otherwise
ZF is 0 and the register holds the index of a set bit of the source with no set bit below it (BSF) or above it (BSR).
No other flag and no other register changes.
Rests on: 41_muldiv_shift_bit.md R271, 41_muldiv_shift_bit.md R272. -/
def Obligations.BitScanResult : Prop :=
  ∀ (s : State) (r : Reg) (rm : RM Reg), let sz := s.osz.size
    let v := s.value sz (locV s rm)
    let found := fun k : Nat => ({ s.setRegS sz r (BitVec.ofNat 32 k) with flags := { s.flags with zf := false } } : State)
    Readable s sz (locV s rm) →
    (v = 0 → ∀ i ∈ [Instr.bsf r rm, Instr.bsr r rm],
      exec i s = .next { s.setRegS sz r (Config.undef s.draws) with
        draws := s.draws + 1, flags := { s.flags with zf := true } }) ∧
    (v ≠ 0 → (∃ k, k < sz.bits ∧ v.getLsbD k = true ∧ (∀ j, j < k → v.getLsbD j = false) ∧
        exec (.bsf r rm) s = .next (found k)) ∧
      (∃ k, k < sz.bits ∧ v.getLsbD k = true ∧ (∀ j, k < j → v.getLsbD j = false) ∧
        exec (.bsr r rm) s = .next (found k)))

/-- SETcc stores 1 or 0 by its condition and changes nothing else; each condition and its negation are the spec table. For
each of the sixteen SETcc: when the byte operand can be written, exec answers the state with 1 there if the condition
holds and 0 if not, every other byte of memory and everything else unchanged. The conditions are those of the table:
O, B, E, BE, S, P, L and LE by the flags, and each odd one the negation of the even one before it.
Rests on: 41_muldiv_shift_bit.md R273, 10_state.md R37. -/
def Obligations.SetConditionResult : Prop :=
  ∀ (i : Instr) (s : State) (c : Cond) (rm : RM Reg8), setForm i = some (c, rm) → Writable s .byte (loc8 s rm) →
    let t := s.stored .byte (loc8 s rm) (if c.holds s.flags then 1 else 0)
    exec i s = .next t ∧ OnlyBytes (s.storeAddrs .byte (loc8 s rm)) s t ∧
    ∀ f : Flags, Cond.o.holds f = f.ofl ∧ Cond.b.holds f = f.cf ∧ Cond.e.holds f = f.zf ∧
      Cond.be.holds f = (f.cf || f.zf) ∧ Cond.s.holds f = f.sf ∧ Cond.p.holds f = f.pf ∧
      Cond.l.holds f = (f.sf ^^ f.ofl) ∧ Cond.le.holds f = (f.zf || (f.sf ^^ f.ofl)) ∧
      Cond.no.holds f = !Cond.o.holds f ∧ Cond.ae.holds f = !Cond.b.holds f ∧ Cond.ne.holds f = !Cond.e.holds f ∧
      Cond.a.holds f = !Cond.be.holds f ∧ Cond.ns.holds f = !Cond.s.holds f ∧ Cond.np.holds f = !Cond.p.holds f ∧
      Cond.ge.holds f = !Cond.l.holds f ∧ Cond.g.holds f = !Cond.le.holds f

/-- MOV between general operands completes with the source stored in the destination and nothing else changed. For each of
the twelve forms: when the source can be read and the destination written, exec answers the state with the source's
value stored in the destination; no flag and no byte of memory outside the destination changes.
Rests on: 42_data_movement.md R302. -/
def Obligations.MoveResult : Prop :=
  ∀ (i : Instr) (s : State) (sz : Size) (l : Loc) (x : Src), movForm s i = some (sz, l, x) → x.ready s sz → Writable s sz l →
    exec i s = .next (s.stored sz l (x.val s sz)) ∧ OnlyBytes (s.storeAddrs sz l) s (s.stored sz l (x.val s sz))

/-- MOVZX, MOVSX, LEA, XLAT and XCHG complete with the extended value, the offset, the table byte or the exchanged
operands. When the source can be read, MOVZX and MOVSX put its zero- or sign-extended value into the register at the
operand size. LEA always puts the offset of its operand there, cut or zero-extended. XLAT, when the byte can be read,
puts the byte at (E)BX + AL, at the address size, into AL. Only that register changes, not its upper half for a 16-bit
size. When the r/m operand can be read and written, XCHG stores the register's old value in it and its old value in
the register; no flag and no byte of memory outside the operand changes. The form with the accumulator exchanges EAX
or AX with the register.
Rests on: 42_data_movement.md R305, 42_data_movement.md R306, 42_data_movement.md R308, 42_data_movement.md R309, 42_data_movement.md R307. -/
def Obligations.ExtendAddressExchangeResult : Prop :=
  ((∀ (i : Instr) (s : State) (signed : Bool) (sz : Size) (r : Reg) (l : Loc), extendForm s i = some (signed, sz, r, l) →
      Readable s sz l → ∃ y : DWord, exec i s = .next (s.setRegS s.osz.size r y) ∧
        number signed s.osz.size y = number signed sz (s.value sz l)) ∧
    (∀ (s : State) (r : Reg) (m : EA), exec (.lea r m) s = .next (s.setRegS s.osz.size r (effectiveOffset s m))) ∧
    (∀ s : State, let off := truncTo s.asz (s.gpr.ebx + (s.reg8 .al).setWidth 32)
      Allowed s .read (s.segOr .ds) off 1 →
      exec .xlat s = .next (s.setReg8 .al ((s.loaded (s.segOr .ds) off 1).setWidth 8)))) ∧
  (∀ (s : State) (r : Reg) (b : Reg8) (x : RM Reg) (y : RM Reg8), let sz := s.osz.size
      (Readable s sz (locV s x) → Writable s sz (locV s x) →
        exec (.xchgRmvRv x r) s = .next ((s.stored sz (locV s x) (s.regS sz r)).setRegS sz r (s.value sz (locV s x))) ∧
        OnlyBytes (s.storeAddrs sz (locV s x)) s (s.stored sz (locV s x) (s.regS sz r))) ∧
      (Readable s .byte (loc8 s y) → Writable s .byte (loc8 s y) →
        exec (.xchgRm8R8 y b) s = .next ((s.stored .byte (loc8 s y) ((s.reg8 b).setWidth 32)).setReg8 b
          ((s.value .byte (loc8 s y)).setWidth 8)) ∧
        OnlyBytes (s.storeAddrs .byte (loc8 s y)) s (s.stored .byte (loc8 s y) ((s.reg8 b).setWidth 32))) ∧
      exec (.xchgEaxRv r) s = .next ((s.setRegS sz r (s.regS sz .eax)).setRegS sz .eax (s.regS sz r)))

/-- MOV from a segment register in any mode, and MOV and far-pointer loads into one outside protected mode. MOV from a
segment register stores the selector as a word, or in the low half of a 32-bit register whose upper half is then free.
Outside protected mode, MOV into a segment register and LES, LDS, LSS, LFS and LGS load the selector with a base of 16
times it (and in V86 mode limit FFFFH as writable data, present, of DPL 3: the spec's decision D19); MOV into SS holds
off events for one boundary; the far-pointer loads also put the offset into the register. Nothing else changes.
Rests on: 42_data_movement.md R303, 42_data_movement.md R304, 42_data_movement.md R310, 10_state.md R40, 10_state.md R52. -/
def Obligations.SegmentRegisterMoves8086 : Prop :=
  (∀ (s : State) (sr : SReg) (r : Reg), s.osz = .w32 → exec (.movRmvSreg (.reg r) sr) s =
    .next { s.setReg r (setLow16 (Config.undef s.draws) (s.selD sr)) with draws := s.draws + 1 }) ∧
  (∀ (s : State) (sr : SReg) (rm : RM Reg), (s.osz = .w16 ∨ isMemory rm = true) → Writable s .word (locV s rm) →
    exec (.movRmvSreg rm sr) s = .next (s.stored .word (locV s rm) (s.selD sr)) ∧
    OnlyBytes (s.storeAddrs .word (locV s rm)) s (s.stored .word (locV s rm) (s.selD sr))) ∧
  (∀ (s : State) (sr : SReg) (rm : RM Reg), s.mode ≠ .prot → Readable s .word (locV s rm) →
    exec (.movSregRm16 sr rm) s = .next (shadow sr (s.load8086 sr ((s.value .word (locV s rm)).setWidth 16)))) ∧
  (∀ (i : Instr) (s : State) (sr : SReg) (r : Reg) (m : EA), pointerForm i = some (sr, r, m) → s.mode ≠ .prot →
    FarReadable s m →
    exec i s = .next ((s.load8086 sr (farSelector s m)).setRegS s.osz.size r (farOffset s m))) ∧
  (∀ (s : State) (sr : SReg) (sel : Word), ((s.load8086 sr sel).sreg sr).sel = sel ∧
    ((s.load8086 sr sel).sreg sr).base.toNat = 16 * sel.toNat ∧
    (s.pe = true → (s.load8086 sr sel).sreg sr = v86Segment sel) ∧
    (s.pe = false → ((s.load8086 sr sel).sreg sr).limit = (s.sreg sr).limit)) ∧
  (∀ sel : Word, let g := v86Segment sel
    g.sel = sel ∧ g.base.toNat = 16 * sel.toNat ∧ g.limit = 0x0000FFFF#32 ∧ g.p = true ∧ g.dpl = 3 ∧ g.valid = true ∧
      (g.s = true ∧ g.type.getLsbD 3 = false ∧ g.type.getLsbD 1 = true))

/-- What a selector and a descriptor say, what loading a segment register in protected mode requires and leaves, and
which exception each failure takes. A descriptor's two doublewords give its base, its limit (20 bits, with G set
followed by twelve ones), P, DPL, S, type, D/B and G, and as a gate its selector, offset and count (the layout is
R110's to R115's, which the spec takes from general knowledge, 93_implementation_defined.md G16 and G17); a selector
gives RPL, table and index, is null for 0 to 3, and names the descriptor at 8 times its index where that lies inside
its table. Setting the accessed bit of a descriptor that has it set does nothing; of one that has it clear it sets bit
0 of the byte at its address plus 5, where that byte can be read and written, and changes no other bit, byte or
register. In protected mode, for MOV into a segment register from a register or memory, POP of a segment register, and
LES, LDS, LSS, LFS and LGS, when the operand can be read. A null selector loads DS, ES, FS or GS as unusable and
raises #GP(0) for SS. A selector outside its table raises #GP(selector). For DS, ES, FS, GS a descriptor that is data
or readable code, allowed to the privilege level and present loads the register after its accessed bit is set; a wrong
type or level raises #GP(selector) and a not-present one #NP(selector). SS needs writable data of DPL and RPL equal to
CPL; not present raises #SS(selector). Once the register is loaded, MOV and POP of SS hold off events for one
boundary, POP has raised (E)SP, and the far-pointer loads put the offset into the register; where an exception is
raised none of this is done.
Rests on: 20_memory.md R117, 42_data_movement.md R304, 42_data_movement.md R310, 42_data_movement.md R323, 20_memory.md R110, 20_memory.md R111, 20_memory.md R113, 20_memory.md R115. -/
def Obligations.SegmentRegisterLoadProtected : Prop :=
  (∀ d : Desc, DescriptorFields d) ∧ (∀ (s : State) (sel : Word), SelectorFields s sel) ∧
  (∀ (s : State) (f : Found), if f.desc.hi.getLsbD 8 then setAccessed f s = .ok () s
    else RightsChanged s f.addr (fun b => b ||| 0x01#8) (setAccessed f s)) ∧
  (∀ (s : State) (sr : SReg) (rm : RM Reg), s.mode = .prot → Readable s .word (locV s rm) →
    SegLoad s s sr ((s.value .word (locV s rm)).setWidth 16) (shadow sr) (exec (.movSregRm16 sr rm) s)) ∧
  (∀ (i : Instr) (s : State) (sr : SReg), popSegForm i = some sr → s.mode = .prot → CanPop s s.osz →
    SegLoad s (s.popped s.osz) sr ((s.top s.osz).setWidth 16) (shadow sr) (exec i s)) ∧
  (∀ (i : Instr) (s : State) (sr : SReg) (r : Reg) (m : EA), pointerForm i = some (sr, r, m) → s.mode = .prot → FarReadable s m →
    SegLoad s s sr (farSelector s m) (fun u => u.setRegS s.osz.size r (farOffset s m)) (exec i s))

/-- PUSH completes with the value below the old top of the stack, (E)SP lowered, and nothing else changed. When the
operand can be read and the push is allowed, the four general forms and the six segment-register forms lower (E)SP by
the operand size and store the value there, the value of ESP being the one before; a 32-bit push of a segment register
has a free upper half. No other byte of memory and no flag changes.
Rests on: 42_data_movement.md R300, 42_data_movement.md R320, 42_data_movement.md R321. -/
def Obligations.PushResult : Prop :=
  (∀ (i : Instr) (s : State) (x : Src), pushForm s i = some x → x.ready s s.osz.size → CanPush s s.osz →
    exec i s = .next (s.pushed s.osz (match x with
      | .loc (.reg r) => s.reg r
      | y => y.val s s.osz.size))) ∧
  (∀ (i : Instr) (s : State) (sr : SReg), pushSegForm i = some sr → CanPush s s.osz →
    (s.osz = .w16 → exec i s = .next (s.pushed .w16 (s.selD sr))) ∧
    (s.osz = .w32 → exec i s = .next { s.pushed .w32 (setLow16 (Config.undef s.draws) (s.selD sr)) with draws := s.draws + 1 })) ∧
  (∀ (s : State) (w : Width) (v : DWord), CanPush s w →
    OnlyBytes ((s.range .write .ss (s.pushSp w) w.bytes).getD []) s (s.pushed w v) ∧ OnlyRegs [.esp] s (s.pushed w v) ∧
    (s.pushed w v).sp = truncTo s.ssz (s.sp - BitVec.ofNat 32 w.bytes))

/-- POP completes with the top of the stack in the operand, (E)SP raised first; into a segment register outside protected
mode. When the pop is allowed, (E)SP is raised by the operand size and the old top of the stack stored in the operand,
whose address, if it uses ESP, sees the raised value, when that can be written; POP into a segment register outside
protected mode loads the selector, POP SS holding off events for one boundary. No byte of memory outside the operand
changes.
Rests on: 42_data_movement.md R301, 42_data_movement.md R322, 42_data_movement.md R323. -/
def Obligations.PopResult : Prop :=
  (∀ (i : Instr) (s : State) (x : RM Reg), popForm i = some x → CanPop s s.osz →
    let u := s.popped s.osz
    Writable u s.osz.size (locV u x) →
    exec i s = .next (u.stored s.osz.size (locV u x) (s.top s.osz)) ∧
    OnlyBytes (u.storeAddrs s.osz.size (locV u x)) s (u.stored s.osz.size (locV u x) (s.top s.osz))) ∧
  (∀ (i : Instr) (s : State) (sr : SReg), popSegForm i = some sr → s.mode ≠ .prot → CanPop s s.osz →
    exec i s = .next (shadow sr ((s.popped s.osz).load8086 sr ((s.top s.osz).setWidth 16)))) ∧
  (∀ (s : State) (w : Width), (s.popped w).sp = truncTo s.ssz (s.sp + BitVec.ofNat 32 w.bytes) ∧ OnlyRegs [.esp] s (s.popped w) ∧
    (s.popped w).mem = s.mem)

/-- PUSHA, POPA, ENTER, LEAVE and BOUND complete as their listings say; PUSHA without room is 13 outside protected mode
(log entry 19). PUSHA pushes (E)AX, (E)CX, (E)DX, (E)BX, the (E)SP from before, (E)BP, (E)SI and (E)DI when the eight
pushes are allowed; outside protected mode lack of room for all eight raises interrupt 13 with nothing pushed (for
stack pointers other than those that R324 names this is DEDUCED, log entry 19). In protected mode the first of the
eight pushes that lies outside the stack segment limit raises #SS(0), the pushes before it undone. POPA pops (E)DI,
(E)SI, (E)BP, discards one value, and pops (E)BX, (E)DX, (E)CX and (E)AX when the eight pops are allowed; with one of
them outside the stack segment it raises #SS(0), interrupt 12, with nothing popped (each checked where it is made,
DEDUCED, log entry 18, and before the paging of any, DESIGN CHOICE, log entry 37). Memory is not changed by POPA.
ENTER pushes (E)BP, for a level above 0 (modulo 32) copies level - 1 frame pointers and pushes the new one, sets (E)BP
to the stack pointer after the first push and lowers (E)SP by the locals, when its accesses are allowed. LEAVE sets
(E)SP from (E)BP and pops (E)BP. BOUND, when its bounds can be read, does nothing if the signed index is within them
and raises interrupt 5 from the unchanged state if not.
Rests on: 42_data_movement.md R324, 42_data_movement.md R325, 42_data_movement.md R330, 42_data_movement.md R331, 42_data_movement.md R332. -/
def Obligations.PushAllAndFrameResult : Prop :=
  (∀ s : State, let w := s.osz
      let regs := [s.gpr.eax, s.gpr.ecx, s.gpr.edx, s.gpr.ebx, s.gpr.esp, s.gpr.ebp, s.gpr.esi, s.gpr.edi]
      let v := stackValue w s
      ((s.mode = .prot ∨ s.hasRoom w.bytes 8 = true) → CanPushAll w regs s → exec .pusha s = .next (pushedAll w regs s)) ∧
      (s.mode ≠ .prot → s.hasRoom w.bytes 8 = false → exec .pusha s = .next (s.raise (Exc.gp 0))) ∧
      (∀ k < 8, let u := pushedAll w (regs.take k) s
        s.mode = .prot → CanPushAll w (regs.take k) s → segFault u.mode .ss u.seg.ss (u.pushSp w) w.bytes .write = some (Exc.ss 0) →
        exec .pusha s = .next (s.raise (Exc.ss 0))) ∧
      (CanPopAll w 8 s → exec .popa s = .next ((((((((poppedAll w 8 s).setRegW w .edi (v 0)).setRegW w .esi (v 1)).setRegW w .ebp
        (v 2)).setRegW w .ebx (v 4)).setRegW w .edx (v 5)).setRegW w .ecx (v 6)).setRegW w .eax (v 7))) ∧
      (s.holdsItems w.bytes 8 = false → exec .popa s = .next (s.raise (Exc.ss 0)))) ∧
  ((∀ (s : State) (n : Word) (level : Byte), let w := s.osz
      let p := s.pushed w (s.reg .ebp)
      let k := level.toNat % 32
      let c := framesCopied w (k - 1) p
      CanPush s w → (k ≠ 0 → CanCopyFrames w (k - 1) p ∧ CanPush c w) →
      let u := if k = 0 then p else c.pushed w p.sp
      exec (.enter n level) s = .next ((u.setRegW w .ebp p.sp).setSp (u.sp - n.setWidth 32))) ∧
    (∀ s : State, let u := s.setSp (s.reg .ebp)
      CanPop u s.osz → exec .leave s = .next ((u.popped s.osz).setRegW s.osz .ebp (u.top s.osz))) ∧
    (∀ (s : State) (r : Reg) (m : EA), let sz := s.osz.size
      let seg := s.segOr (defaultSegment m)
      let ea := effectiveOffset s m
      let hi := ea + BitVec.ofNat 32 sz.bytes
      segFault s.mode seg (s.sreg seg) ea (2 * sz.bytes) .read = none → Allowed s .read seg ea sz.bytes →
      Allowed s .read seg hi sz.bytes →
      let x := toSigned sz (s.reg r)
      exec (.bound r m) s = .next
        (if toSigned sz (s.loaded seg ea sz.bytes) ≤ x ∧ x ≤ toSigned sz (s.loaded seg hi sz.bytes) then s
         else s.raise (Exc.plain 5))))

/-- PUSHF, POPF, LAHF and SAHF complete with the flags moved; IOPL and IF change only with the privilege; V86 needs IOPL
3. Unless the machine is in V86 mode with IOPL below 3, where they raise #GP(0): PUSHF pushes the flags image, and
POPF loads CF, PF, AF, ZF, SF, TF, DF, OF and NT, IOPL only at CPL 0, IF only when CPL is at most IOPL, and never VM
or RF. LAHF puts bits 7:0 of the image into AH; SAHF loads SF, ZF, AF, PF and CF from AH. Nothing else changes. In V86
mode with IOPL 3 the image that PUSHF pushes shows VM and RF as they stand (DEDUCED, log entry 23: R326 and D29,
against R575).
Rests on: 42_data_movement.md R326 to R329, 60_exceptions.md R550. -/
def Obligations.FlagsOnStackAndInAh : Prop :=
  ∀ s : State, let v := s.top s.osz
    let ah := s.reg8 .ah
    let new := Flags.ofImage v
    (s.mode = .v86 → s.flags.iopl < 3 → exec .pushf s = .next (s.raise (Exc.gp 0)) ∧ exec .popf s = .next (s.raise (Exc.gp 0))) ∧
    ((s.mode ≠ .v86 ∨ s.flags.iopl = 3) →
      (CanPush s s.osz → exec .pushf s = .next (s.pushed s.osz s.flags.image)) ∧
      (CanPop s s.osz → exec .popf s = .next { s.popped s.osz with flags := { new with
          iopl := if s.pe = false ∨ s.cpl = 0 then new.iopl else s.flags.iopl
          ifl := if s.pe = false ∨ s.cpl ≤ s.flags.iopl then new.ifl else s.flags.ifl
          rf := s.flags.rf
          vm := s.flags.vm } })) ∧
    exec .lahf s = .next (s.setReg8 .ah (s.flags.image.extractLsb' 0 8)) ∧
    exec .sahf s = .next { s with flags := { s.flags with sf := ah.getLsbD 7, zf := ah.getLsbD 6, af := ah.getLsbD 4,
                                                          pf := ah.getLsbD 2, cf := ah.getLsbD 0 } }

/-- IN and OUT complete where the I/O check passes: a free value in the accumulator, or the write recorded; else #GP(0).
For each form of IN and OUT: where the check passes, IN puts what the environment answers, a free value of the size,
into AL, AX or EAX, and OUT records the port, the size and the accumulator's value; nothing else changes. The check
passes in real-address mode, and in protected mode when CPL is at most IOPL, whatever the port; where it raises an
exception, the instruction takes it from the unchanged state.
Rests on: 42_data_movement.md R340, 42_data_movement.md R341, 20_memory.md R84, 20_memory.md R121. -/
def Obligations.PortInputOutputResult : Prop :=
  (∀ (i : Instr) (s : State) (p : Word) (sz : Size), inForm s i = some (p, sz) →
    (IoAllowed s p sz → exec i s = .next { s.setAcc sz (truncSize sz (Config.ioIn p sz s.draws)) with draws := s.draws + 1 }) ∧
    (∀ e, checkIo p sz s = .error e s → exec i s = .next (s.raise e))) ∧
  (∀ (i : Instr) (s : State) (p : Word) (sz : Size), outForm s i = some (p, sz) →
    (IoAllowed s p sz → exec i s = .next { s with ioWrites := s.ioWrites ++ [⟨p, sz, s.acc sz⟩] }) ∧
    (∀ e, checkIo p sz s = .error e s → exec i s = .next (s.raise e))) ∧
  (∀ (s : State) (p : Word) (sz : Size),
    (s.mode = .real ∨ (s.mode = .prot ∧ s.cpl ≤ s.flags.iopl) → IoAllowed s p sz) ∧
    (s.mode = .v86 ∨ (s.mode = .prot ∧ s.flags.iopl < s.cpl) → s.tr.is386 = false →
      checkIo p sz s = .error (Exc.gp 0) s))

/-- Where the bit map is consulted, a port access is allowed exactly when every bit of it is 0 and inside the TSS limit.
In V86 mode, or in protected mode with CPL above IOPL, with an 80386 TSS and paging off: let P be the word at TSS base
+ 66H. For a port access of n bytes that does not run past port 65535, the access is allowed if both bytes of the word
that begins at P + port / 8 start inside the TSS limit rule (that offset + 1 at most the limit) and the n bits from
bit port mod 8 of that word are all 0; otherwise it raises #GP(0).
Rests on: 20_memory.md R122. -/
def Obligations.IoPermissionBitMap : Prop :=
  ∀ (s : State) (p : Word) (sz : Size), (s.mode = .v86 ∨ (s.mode = .prot ∧ s.flags.iopl < s.cpl)) → s.tr.is386 = true →
    s.pg = false → p.toNat + sz.bytes ≤ 65536 →
    let mapAt := Memory.read s.mem (s.tr.base + 0x66#32).toNat
    let mapHi := Memory.read s.mem (s.tr.base + 0x67#32).toNat
    let off := p.toNat / 8 + (mapAt.toNat + 256 * mapHi.toNat)
    let lo := Memory.read s.mem (s.tr.base + BitVec.ofNat 32 off).toNat
    let hi := Memory.read s.mem (s.tr.base + BitVec.ofNat 32 off + 1#32).toNat
    let bits := lo.toNat + 256 * hi.toNat
    checkIo p sz s =
      if off + 1 ≤ s.tr.limit.toNat ∧ (∀ j, j < sz.bytes → bits.testBit (p.toNat % 8 + j) = false) then .ok () s
      else .error (Exc.gp 0) s

/-- CLC, STC, CMC, CLD, STD and NOP complete in every state with that one flag changed, or nothing. In every state CLC
clears CF, STC sets it, CMC complements it, CLD clears DF, STD sets it and NOP does nothing; no other flag, register
or byte of memory changes. Their opcodes are F8, F9, F5, FC, FD and 90.
Rests on: R350, R351, R352, R353, R354, R360. -/
def Obligations.FlagControlResult : Prop :=
  (∀ w, decode w [0xF8] = .ok ⟨[], .clc⟩ [] ∧ decode w [0xF9] = .ok ⟨[], .stc⟩ [] ∧ decode w [0xF5] = .ok ⟨[], .cmc⟩ [] ∧
    decode w [0xFC] = .ok ⟨[], .cld⟩ [] ∧ decode w [0xFD] = .ok ⟨[], .std⟩ [] ∧ decode w [0x90] = .ok ⟨[], .nop⟩ []) ∧
  ∀ s : State,
    exec .clc s = .next { s with flags := { s.flags with cf := false } } ∧
    exec .stc s = .next { s with flags := { s.flags with cf := true } } ∧
    exec .cmc s = .next { s with flags := { s.flags with cf := !s.flags.cf } } ∧
    exec .cld s = .next { s with flags := { s.flags with df := false } } ∧
    exec .std s = .next { s with flags := { s.flags with df := true } } ∧
    exec .nop s = .next s

/-- CLI and STI need CPL at most IOPL, HLT needs CPL 0; WAIT traps, waits or completes by MP, TS, ERROR# and BUSY#. In
real-address mode, and elsewhere when CPL is at most IOPL, CLI clears IF and STI sets it, with a shadow against INTR
if it was 0; otherwise each raises #GP(0). HLT halts in real-address mode and at CPL 0, and raises #GP(0) otherwise.
WAIT raises #NM with MP and TS set, else #MF with ERROR# active; else with BUSY# active it waits at its own address
(R537, the spec's decision D25) with the offset of the next instruction kept in the run state (the form of that state
is the model's, DESIGN CHOICE, log entry 29), and otherwise does nothing.
Rests on: 42_data_movement.md R355, 42_data_movement.md R356, 42_data_movement.md R361, 42_data_movement.md R364, 60_exceptions.md R537. -/
def Obligations.InterruptFlagHaltWaitResult : Prop :=
  ∀ s : State,
    let allowed := s.pe = false ∨ s.cpl ≤ s.flags.iopl
    (allowed → exec .cli s = .next { s with flags := { s.flags with ifl := false } } ∧
      exec .sti s = .next { s with flags := { s.flags with ifl := true },
                                   inhibit := if s.flags.ifl then s.inhibit else .intr }) ∧
    (¬allowed → exec .cli s = .next (s.raise (Exc.gp 0)) ∧ exec .sti s = .next (s.raise (Exc.gp 0))) ∧
    ((s.pe = false ∨ s.cpl = 0) → exec .hlt s = .next { s with run := .halted }) ∧
    (s.pe = true → s.cpl ≠ 0 → exec .hlt s = .next (s.raise (Exc.gp 0))) ∧
    (s.mp = true → s.ts = true → exec .wait s = .next (s.raise Exc.nm)) ∧
    ((s.mp && s.ts) = false → s.pins.error = true → exec .wait s = .next (s.raise Exc.mf)) ∧
    ((s.mp && s.ts) = false → s.pins.error = false → s.pins.busy = true →
      exec .wait s = .next { s with run := .waiting s.eip, eip := s.insnStart }) ∧
    ((s.mp && s.ts) = false → s.pins.error = false → s.pins.busy = false → exec .wait s = .next s)

/-- Each string instruction without a repeat prefix completes with one element moved or compared and its indices advanced.
Without a repeat prefix, when their accesses are allowed: MOVS stores the element at the source in ES at the
destination; CMPS sets the flags of source minus destination, SCAS those of accumulator minus destination; LODS loads
the accumulator; STOS stores it; INS stores what the port answers, OUTS writes the element to the port. The source
index is (E)SI in DS or the override's segment, the destination index (E)DI in ES; those used move by the size, up if
DF is 0, else down. No other byte of memory changes.
Rests on: 43_string_rep.md R370 to R377. -/
def Obligations.StringOperationResult : Prop :=
  ∀ (i : Instr) (s : State) (sz : Size) (b : Bool) (f : Size → Op Unit), stringForm s i = some (sz, b, f) →
    s.pfx.rep = none →
    let src := s.regW s.asz .esi
    let dst := s.regW s.asz .edi
    let q := s.segOr .ds
    let n := sz.bytes
    let port := s.dx
    let x := s.loaded q src n
    let y := s.loaded .es dst n
    let both := fun t => advanced .edi sz (advanced .esi sz t)
    let rd := Allowed s .read q src n
    let rdES := Allowed s .read .es dst n
    let wr := Allowed s .write .es dst n
    let input := truncSize sz (Config.ioIn port sz s.draws)
    ((i = .movsb ∨ i = .movsv) → rd → wr → exec i s = .next (both (s.storedAt .es dst n x))) ∧
    ((i = .cmpsb ∨ i = .cmpsv) → rd → rdES → exec i s = .next (both { s with flags := s.flags.sub sz x y false })) ∧
    ((i = .scasb ∨ i = .scasv) → rdES →
      exec i s = .next (advanced .edi sz { s with flags := s.flags.sub sz (s.acc sz) y false })) ∧
    ((i = .lodsb ∨ i = .lodsv) → rd → exec i s = .next (advanced .esi sz (s.setAcc sz x))) ∧
    ((i = .stosb ∨ i = .stosv) → wr → exec i s = .next (advanced .edi sz (s.storedAt .es dst n (s.acc sz)))) ∧
    ((i = .insb ∨ i = .insv) → IoAllowed s port sz → wr →
      exec i s = .next (advanced .edi sz { s.storedAt .es dst n input with draws := s.draws + 1 })) ∧
    ((i = .outsb ∨ i = .outsv) → IoAllowed s port sz → rd →
      exec i s = .next (advanced .esi sz { s with ioWrites := s.ioWrites ++ [⟨port, sz, truncSize sz x⟩] })) ∧
    (∀ v, OnlyBytes ((s.range .write .es dst n).getD []) s (s.storedAt .es dst n v))

/-- Under a repeat prefix one step is one iteration: nothing at count 0, else the element, the count, and back or on.
Under a repeat prefix, a string instruction with (E)CX 0 does nothing. Otherwise, when its element operation completes
with a state u, (E)CX of u is lowered by 1; if it is then 0, or the instruction compares and ZF ends the repetition
(ZF 0 under REPE, 1 under REPNE), the instruction is complete, and else EIP goes back to its first prefix byte. When
the element operation raises an exception, it is taken from the state before this iteration.
Rests on: 43_string_rep.md R378, 43_string_rep.md R379. -/
def Obligations.StringRepeatResult : Prop :=
  ∀ (i : Instr) (s : State) (sz : Size) (b : Bool) (f : Size → Op Unit) (k : Rep), stringForm s i = some (sz, b, f) →
    s.pfx.rep = some k →
    (s.regW s.asz .ecx = 0 → exec i s = .next s) ∧
    (s.regW s.asz .ecx ≠ 0 → ∀ u, f sz s = .ok () u →
      let t := u.setRegW u.asz .ecx (u.reg .ecx - 1)
      let finished := t.regW t.asz .ecx = 0 ∨ (b = true ∧ u.flags.zf = match k with
        | .rep => false
        | .repne => true)
      (finished → exec i s = .next t) ∧ (¬finished → exec i s = .next { t with eip := s.insnStart })) ∧
    (s.regW s.asz .ecx ≠ 0 → ∀ e u, f sz s = .error e u → exec i s = .next (s.raise e))

/-- Jcc, JCXZ and the LOOPs complete: not taken EIP goes on, taken it is the target cut to the operand size, or #GP(0)
beyond CS. For each of the 32 Jcc and for JCXZ: with the condition false (for JCXZ, with (E)CX at the address size not
0) nothing changes; with it true EIP becomes the offset of the next instruction plus the displacement, cut to 16 bits
for a 16-bit operand size, and nothing else changes; in protected mode a target past the CS limit raises #GP(0)
instead. Each lowers CX or ECX (by the address size) by 1; if the count is then 0 or, for LOOPE and LOOPNE, ZF is not
1 or 0, execution goes on; otherwise EIP becomes the target, or in protected mode beyond the CS limit #GP(0) is raised
from the state before, the count not lowered. No flag changes.
Rests on: 44_control_transfer.md R390 to R393, 44_control_transfer.md R394, 44_control_transfer.md R395, 44_control_transfer.md R396. -/
def Obligations.ConditionalJumpAndLoopResult : Prop :=
  (∀ s : State,
      let jump := fun (rel : DWord) => let t := truncTo s.osz (s.eip + rel)
        if s.mode = .prot ∧ s.seg.cs.limit.toNat < t.toNat then s.raise (Exc.gp 0) else { s with eip := t }
      (∀ (i : Instr) (c : Cond) (rel : DWord), jumpForm i = some (c, rel) →
        exec i s = .next (if c.holds s.flags then jump rel else s)) ∧
      (∀ rel : Byte, exec (.jcxz rel) s = .next (if s.regW s.asz .ecx = 0 then jump (rel.signExtend 32) else s))) ∧
  (∀ (i : Instr) (s : State) (c : LoopCond) (rel : Byte), loopForm i = some (c, rel) →
      let u := s.setRegW s.asz .ecx (s.reg .ecx - 1)
      let t := truncTo s.osz (s.eip + rel.signExtend 32)
      let zfOk := match c with
        | .always => true
        | .e => s.flags.zf
        | .ne => !s.flags.zf
      exec i s = .next (if u.regW s.asz .ecx ≠ 0 ∧ zfOk = true then
        (if s.mode = .prot ∧ s.seg.cs.limit.toNat < t.toNat then s.raise (Exc.gp 0) else { u with eip := t }) else u))

/-- Near JMP, CALL and RET complete with EIP at the target, the return offset pushed or popped; beyond CS they raise
#GP(0). With t the target cut to the operand size and, in protected mode, inside the CS limit: a near JMP sets EIP to
t; a near CALL, when the push is allowed, pushes the offset of the next instruction and sets EIP to t; a near RET pops
EIP and then raises (E)SP by its immediate. Beyond the limit in protected mode each raises #GP(0) from the unchanged
state. A memory operand must be readable.
Rests on: 44_control_transfer.md R390, 44_control_transfer.md R397 to R401. -/
def Obligations.NearJumpCallReturnResult : Prop :=
  ∀ s : State, let w := s.osz
    let beyond := fun t : DWord => s.mode = .prot ∧ s.seg.cs.limit.toNat < t.toNat
    (∀ (i : Instr) (x : Src), nearJumpForm s i = some x → x.ready s w.size →
      let t := truncTo w (x.val s w.size)
      exec i s = .next (if beyond t then s.raise (Exc.gp 0) else { s with eip := t })) ∧
    (∀ (i : Instr) (x : Src), nearCallForm s i = some x → x.ready s w.size → CanPush s w →
      let t := truncTo w (x.val s w.size)
      exec i s = .next (if beyond t then s.raise (Exc.gp 0) else { s.pushed w s.eip with eip := t })) ∧
    (∀ (i : Instr) (n : Word), (i = .retNearImm n ∨ (i = .retNear ∧ n = 0)) → CanPop s w →
      let t := truncTo w (s.top w)
      let u := s.popped w
      exec i s = .next (if beyond t then s.raise (Exc.gp 0) else { u.setSp (u.sp + n.setWidth 32) with eip := t }))

/-- Outside protected mode far JMP, CALL and RET complete with CS:EIP loaded as an 8086 does, CS and EIP pushed or popped.
In real-address and V86 mode: a far JMP loads CS with the selector (base 16 times it) and EIP with the offset cut to
the operand size; a far CALL first pushes CS and the offset of the next instruction when both pushes are allowed; a
far RET pops the offset and the selector when both pops are allowed and raises (E)SP by its immediate. A CALL without
room for both pushes, and a RET with an item outside the stack segment, raise #SS(0), interrupt 12, with nothing done.
The indirect forms read the pointer from memory, when it can be read. Each push and pop is checked where it will be
made (DEDUCED, log entry 18), and before the paging of any of them (DESIGN CHOICE, log entry 37).
Rests on: 44_control_transfer.md R402 to R405. -/
def Obligations.FarTransfer8086Result : Prop :=
  ∀ s : State, s.mode ≠ .prot → let w := s.osz
    let go := fun (u : State) (sel : Word) (off : DWord) => ({ u.load8086 .cs sel with eip := truncTo w off } : State)
    let frame := [s.selD .cs, s.eip]
    (∀ off sel, exec (.jmpFarPtr off sel) s = .next (go s sel off)) ∧
    (∀ m, FarReadable s m → exec (.jmpFarMem m) s = .next (go s (farSelector s m) (farOffset s m))) ∧
    (CanPushAll w frame s →
      (∀ off sel, exec (.callFarPtr off sel) s = .next (go (pushedAll w frame s) sel off)) ∧
      (∀ m, FarReadable s m →
        exec (.callFarMem m) s = .next (go (pushedAll w frame s) (farSelector s m) (farOffset s m)))) ∧
    (∀ (i : Instr) (n : Word), (i = .retFarImm n ∨ (i = .retFar ∧ n = 0)) → CanPopAll w 2 s →
      let u := go (poppedAll w 2 s) ((stackValue w s 1).setWidth 16) (stackValue w s 0)
      exec i s = .next (u.setSp (u.sp + n.setWidth 32))) ∧
    (s.hasRoom w.bytes 2 = false →
      (∀ off sel, exec (.callFarPtr off sel) s = .next (s.raise (Exc.ss 0))) ∧
      (∀ m, FarReadable s m → exec (.callFarMem m) s = .next (s.raise (Exc.ss 0)))) ∧
    (s.holdsItems w.bytes 2 = false → ∀ (i : Instr) (n : Word), (i = .retFarImm n ∨ i = .retFar) →
      exec i s = .next (s.raise (Exc.ss 0)))

/-- Far JMP, CALL and RET in protected mode that switch no task: the checks of the code segment or gate, the frame,
CS:EIP, and the other stack. In protected mode, the pointer of a far JMP or CALL in the instruction or in readable
memory. To a code segment: a nonconforming one needs DPL equal to CPL and RPL at most CPL, a conforming one DPL at
most CPL, else #GP(selector); then presence, else #NP(selector); for CALL room for two values, else #SS(0); the offset
in the limit, else #GP(0). CALL pushes CS and the next offset; CS is loaded with CPL as its RPL, its accessed bit set,
EIP is the offset. Null raises #GP(0), outside its table #GP(selector). Through a call gate: gate DPL at least CPL and
RPL, gate present; the gate's code selector not null, inside its table, naming present code of DPL at most CPL (JMP:
equal unless conforming); the offset and the size are the gate's. A CALL to nonconforming code of lower DPL takes the
stack that the TSS gives (4 + 8*DPL in an 80386, 2 + 4*DPL in an 80286 TSS) and pushes there SS, (E)SP, the copied
parameters, CS and the next offset; CPL becomes the DPL. RET far: the frame, its offsets cut to the stack address
size, with the CS word inside the stack limit, RPL at least CPL, else #GP(selector). To the same level: CS:EIP loaded,
(E)SP raised by two values and the immediate. To an outer level: SS:(E)SP loaded from beyond the parameters too, CPL
is the RPL, and each of ES, FS, GS, DS that the new level may not use is made null. Nothing else changes. The
parameters are copied last first, each read after the pushes before it, and where the last cannot be read its
exception is raised with the pushes undone (DEDUCED, log entry 28). Room is checked push by push and a return frame as
one range (DEDUCED, log entry 18), a page fault of a push coming after the offset test (DESIGN CHOICE, log entry 37).
RET reads the offset after the descriptor tests (DESIGN CHOICE, log entry 38).
Rests on: 44_control_transfer.md R402, 44_control_transfer.md R406 to R412, 44_control_transfer.md R415 to R418, 44_control_transfer.md R419. -/
def Obligations.FarTransferProtectedResult : Prop :=
  ∀ s : State, s.mode = .prot →
    let frame := [s.selD .cs, s.eip]
    (∀ (i : Instr) (call : Bool) (sel : Word) (off : DWord), farForm s i = some (call, sel, off) → FarReady s i →
      let go := exec i s
      let fault := fun e : Exc => go = .next (s.raise e)
      let enter := fun (u : State) (cs : Word) (d : Desc) (t : DWord) =>
        go = .next { u.setSreg .cs (d.toSeg (selWithRpl cs s.cpl)) with eip := t }
      (selNull sel = true → fault (Exc.gp 0)) ∧
      (selNull sel = false → s.descAddr sel = none → fault (Exc.gp (selCode sel))) ∧
      (∀ a d, selNull sel = false → s.descAddr sel = some a → peekDesc s a = some d →
        (d.isCode = true →
          let t := truncTo s.osz off
          let ok := if d.isConforming then d.dpl ≤ s.cpl else d.dpl = s.cpl ∧ selRpl sel ≤ s.cpl
          (¬ok → fault (Exc.gp (selCode sel))) ∧
          (ok → d.p = false → fault (Exc.np (selCode sel))) ∧
          (ok → d.p = true → call → s.hasRoom s.osz.bytes 2 = false → fault (Exc.ss 0)) ∧
          (ok → d.p = true → (call → s.hasRoom s.osz.bytes 2 = true) → d.limit.toNat < t.toNat → fault (Exc.gp 0)) ∧
          (ok → d.p = true → t.toNat ≤ d.limit.toNat →
            (¬call → ∀ u, setAccessed ⟨a, d⟩ s = .ok () u → enter u sel d t) ∧
            (call → CanPushAll s.osz frame s → ∀ u, setAccessed ⟨a, d⟩ (pushedAll s.osz frame s) = .ok () u → enter u sel d t))) ∧
        ((d.isSystem 4 = true ∨ d.isSystem 12 = true) →
          let cs := d.gateSelector
          let w := d.gateWidth
          let t := d.gateOffset
          let open' := s.cpl ≤ d.dpl ∧ selRpl sel ≤ d.dpl
          (¬open' → fault (Exc.gp (selCode sel))) ∧
          (open' → d.p = false → fault (Exc.np (selCode sel))) ∧
          (open' → d.p = true → selNull cs = true → fault (Exc.gp 0)) ∧
          (open' → d.p = true → selNull cs = false → s.descAddr cs = none → fault (Exc.gp (selCode cs))) ∧
          (∀ b c, open' → d.p = true → selNull cs = false → s.descAddr cs = some b → peekDesc s b = some c →
            let ok := c.isCode = true ∧ c.dpl ≤ s.cpl ∧ (call ∨ c.isConforming = true ∨ c.dpl = s.cpl)
            let same := c.isConforming = true ∨ c.dpl = s.cpl
            (¬ok → fault (Exc.gp (selCode cs))) ∧
            (ok → c.p = false → fault (Exc.np (selCode cs))) ∧
            (ok → c.p = true → call → same → s.hasRoom w.bytes 2 = false → fault (Exc.ss 0)) ∧
            (ok → c.p = true → same → (call → s.hasRoom w.bytes 2 = true) → c.limit.toNat < t.toNat → fault (Exc.gp 0)) ∧
            (ok → c.p = true → same → t.toNat ≤ c.limit.toNat →
              (¬call → ∀ u, setAccessed ⟨b, c⟩ s = .ok () u → enter u cs c t) ∧
              (call → CanPushAll w frame s → ∀ u, setAccessed ⟨b, c⟩ (pushedAll w frame s) = .ok () u → enter u cs c t)) ∧
            (ok → c.p = true → ¬same → ¬InnerStackInTss s c.dpl → fault (Exc.ts (selCode s.tr.sel))) ∧
            (∀ (ss : Word) (sp : DWord) (f : Found) (x : State), ok → c.p = true → ¬same →
              InnerStack s c.dpl ss sp f → stackRoom .prot (f.desc.toSeg ss) w.bytes (d.gateCount + 4) (spFor (f.desc.toSeg ss) sp) = true →
              t.toNat ≤ c.limit.toNat → setAccessed f s = .ok () x →
              let old := [s.selD .ss, s.gpr.esp]
              let inner := x.withStack f ss sp c.dpl
              CanPushAll w old inner →
              (∀ y u, ParamsCopied s w d.gateCount (pushedAll w old inner) y → CanPushAll w frame y →
                setAccessed ⟨b, c⟩ (pushedAll w frame y) = .ok () u →
                go = .next { u.setSreg .cs (c.toSeg (selWithRpl cs c.dpl)) with eip := t }) ∧
              (∀ k e, d.gateCount = k + 1 → segFault s.mode .ss s.seg.ss (paramOffset s w k) w.bytes .read = some e →
                go = .next (x.raise e))))))) ∧
    (∀ (i : Instr) (n : Word), (i = .retFarImm n ∨ (i = .retFar ∧ n = 0)) →
      let w := s.osz
      let slot := fun k : Nat => truncTo s.ssz (s.sp + BitVec.ofNat 32 k)
      let at' := fun (k n : Nat) => s.loaded .ss (slot k) n
      let ok := fun (k n : Nat) => Allowed s .read .ss (slot k) n
      let whole := fun n => segFault s.mode .ss s.seg.ss s.sp n .read
      let rs : Word := (at' w.bytes 2).setWidth 16
      (∀ e, whole (w.bytes + 2) = some e → exec i s = .next (s.raise e)) ∧
      (whole (w.bytes + 2) = none → ok w.bytes 2 →
        (selRpl rs < s.cpl → exec i s = .next (s.raise (Exc.gp (selCode rs)))) ∧
        (∀ a d u, selRpl rs = s.cpl → ReturnCode s rs s.cpl a d → whole (2 * w.bytes) = none → ok 0 w.bytes →
          (at' 0 w.bytes).toNat ≤ d.limit.toNat → setAccessed ⟨a, d⟩ s = .ok () u →
          exec i s = .next (({ u.setSreg .cs (d.toSeg rs) with eip := at' 0 w.bytes } : State).setSp
            (s.sp + BitVec.ofNat 32 (2 * w.bytes) + n.setWidth 32))) ∧
        (∀ a d b f x u, let sp := 2 * w.bytes + n.toNat
          let nss : Word := (at' (sp + w.bytes) 2).setWidth 16
          s.cpl < selRpl rs → whole (4 * w.bytes + n.toNat) = none → ReturnCode s rs (selRpl rs) a d → ok sp w.bytes →
          ok (sp + w.bytes) 2 → ReturnStack s nss (selRpl rs) b f → ok 0 w.bytes → (at' 0 w.bytes).toNat ≤ d.limit.toNat →
          setAccessed ⟨a, d⟩ s = .ok () x → setAccessed ⟨b, f⟩ x = .ok () u →
          exec i s = .next (returnedOut u (selRpl rs) (d.toSeg rs) (at' 0 w.bytes) (f.toSeg nss) (at' sp w.bytes)))))

/-- INT, INT 3, INTO in every mode; exceptions and IRET outside protected mode: FLAGS, CS, IP pushed and the vector
entered, and popped back. In real-address mode, when vector n is inside the IDTR limit and the three words can be
pushed: INT n, INT 3 (n = 3) and INTO with OF set (n = 4) push FLAGS, CS and the offset of the next instruction and
load CS:IP from the table, IF and TF cleared; an exception, with a code or without, does the same with the offset of
the first byte of the instruction, and no code is pushed: #SS enters vector 12 and #GP vector 13. A vector beyond the
limit is taken as vector 8 by INT n when that one can be. In every mode: INTO with OF clear does nothing; otherwise
these three are one delivery of their vector as a software interrupt without a code (in protected and V86 mode the
deliveries of ProtectedEntrySameLevel, ProtectedEntryInnerLevel and GateChecksOfDelivery), and what that raises is
raised by the instruction. In V86 mode with IOPL below 3 INT n raises #GP(0) instead. In real-address mode, and in V86
mode with IOPL 3, when three values of the operand size can be popped, IRET loads EIP, CS and the flags from them: the
flags as POPF does, and RF from a 32-bit image; NMI is unmasked and nothing else changes; with one of the three items
outside the stack segment it raises #SS(0), interrupt 12, before any pop. In V86 mode with IOPL below 3 it raises
#GP(0). In V86 mode NT is not looked at (DEDUCED, log entry 22: R436 and C16, against a row of R570), and room and
items are checked each where it is pushed or popped (DEDUCED, log entry 18), IRET's items before the paging of any
(DESIGN CHOICE, log entry 37).
Rests on: 45_interrupt_iret.md R430 to R434, 60_exceptions.md R520, 45_interrupt_iret.md R436, 45_interrupt_iret.md R448, 60_exceptions.md R550, 60_exceptions.md R500, 60_exceptions.md R503. -/
def Obligations.RealModeEntryAndReturn : Prop :=
  (∀ s : State, s.pe = false →
      (∀ (n : Byte) off sel, RealVector s n.toNat s.eip off sel → exec (.int n) s = .next (realEntry s s.eip off sel)) ∧
      (∀ off sel, RealVector s 3 s.eip off sel → exec .int3 s = .next (realEntry s s.eip off sel)) ∧
      (∀ off sel, s.flags.ofl = true → RealVector s 4 s.eip off sel → exec .into s = .next (realEntry s s.eip off sel)) ∧
      (∀ n off sel, RealVector s n s.insnStart off sel →
        s.raise (Exc.plain n) = realEntry { s with trapDue := false } s.insnStart off sel ∧
        ∀ c, s.raise (Exc.coded n c) = realEntry { s with trapDue := false } s.insnStart off sel) ∧
      (∀ off sel, RealVector s 12 s.insnStart off sel →
        ∀ c, s.raise (Exc.ss c) = realEntry { s with trapDue := false } s.insnStart off sel) ∧
      (∀ off sel, RealVector s 13 s.insnStart off sel →
        ∀ c, s.raise (Exc.gp c) = realEntry { s with trapDue := false } s.insnStart off sel) ∧
      (∀ (n : Byte) off sel, s.idtr.limit.toNat < 4 * n.toNat + 3 → RealVector s 8 s.insnStart off sel →
        exec (.int n) s = .next (realEntry { s with trapDue := false } s.insnStart off sel))) ∧
  (∀ s : State, s.flags.ofl = false → exec .into s = .next s) ∧
  (∀ (s t : State) (i : Instr) (n : Nat),
    (∃ b : Byte, i = .int b ∧ n = b.toNat ∧ (s.mode = .v86 → s.flags.iopl = 3)) ∨ (i = .int3 ∧ n = 3) ∨
      (i = .into ∧ n = 4 ∧ s.flags.ofl = true) →
    let delivery := deliverOnce n .software none s.eip s
    (delivery = .ok () t → exec i s = .next t) ∧ (∀ e, delivery = .error e t → exec i s = .next (t.raise e))) ∧
  (∀ (s : State) (b : Byte), s.mode = .v86 → s.flags.iopl < 3 → exec (.int b) s = .next (s.raise (Exc.gp 0))) ∧
  (∀ s : State, let w := s.osz
      let v := stackValue w s
      let new := Flags.ofImage (v 2)
      (s.mode = .v86 → s.flags.iopl < 3 → exec .iret s = .next (s.raise (Exc.gp 0))) ∧
      ((s.mode = .real ∨ (s.mode = .v86 ∧ s.flags.iopl = 3)) → CanPopAll w 3 s →
        exec .iret s = .next { (poppedAll w 3 s).load8086 .cs ((v 1).setWidth 16) with
          eip := v 0
          nmiBlocked := false
          flags := { new with
            iopl := if s.pe = false ∨ s.cpl = 0 then new.iopl else s.flags.iopl
            ifl := if s.pe = false ∨ s.cpl ≤ s.flags.iopl then new.ifl else s.flags.ifl
            rf := if w = .w32 then new.rf else s.flags.rf
            vm := s.flags.vm } }) ∧
      ((s.mode = .real ∨ (s.mode = .v86 ∧ s.flags.iopl = 3)) → s.holdsItems w.bytes 3 = false →
        exec .iret s = .next (s.raise (Exc.ss 0))))

/-- Delivery through an interrupt or trap gate at the same level pushes EFLAGS, CS, EIP and the code, and clears TF, NT,
IF. In protected mode, when vector n leads through a present interrupt or trap gate (of DPL at least CPL for a
software interrupt) to a present code segment of the current level or a conforming one of at most it, and the frame
can be pushed: delivery pushes EFLAGS, CS and the return offset, in words or doublewords by the gate, then sets the
accessed bit and loads CS:EIP from the gate with CPL unchanged, then pushes the error code if there is one, and clears
TF and NT, and IF through an interrupt gate. A push of the error code that is refused raises its exception, and what
is left is the state before with the accessed bit set (DEDUCED, log entry 27). Room is checked push by push, for the
code as well, before the first (DEDUCED, log entry 18).
Rests on: 45_interrupt_iret.md R435, 45_interrupt_iret.md R437, 45_interrupt_iret.md R438, 45_interrupt_iret.md R443. -/
def Obligations.ProtectedEntrySameLevel : Prop :=
  ∀ (s u : State) (n : Nat) (src : Source) (err : Option Word) (ret : DWord) (g : Desc) (c : Found), s.mode = .prot →
    GateVector s n g c → (src = .software → s.cpl ≤ g.dpl) →
    (if c.desc.isConforming then c.desc.dpl ≤ s.cpl else c.desc.dpl = s.cpl) →
    let w := g.gateWidth
    let frame := [s.flags.image, s.selD .cs, ret]
    let code := codeValues err
    s.hasRoom w.bytes (frame.length + code.length) = true → CanPushAll w frame s →
    setAccessed c (pushedAll w frame s) = .ok () u →
    let entered := { u.setSreg .cs (c.desc.toSeg (selWithRpl g.gateSelector s.cpl)) with eip := g.gateOffset }
    let inHandler := fun t : State => { t with
      run := .running
      flags := { s.flags with tf := false, nt := false, ifl := s.flags.ifl && !g.isInterruptGate } }
    (CanPushAll w code entered → deliverOnce n src err ret s = .ok () (inHandler (pushedAll w code entered))) ∧
    (∀ x, setAccessed c s = .ok () x → deliverOnce n src err ret s =
      match pushAllOf w code entered with
      | .ok _ t => .ok () (inHandler t)
      | .error e _ => .error e x)

/-- Delivery to an inner level, from protected or V86 mode, switches to the stack of the TSS and pushes the old SS, ESP,
EFLAGS, CS, EIP there. In protected mode, when vector n leads through a present gate to a present nonconforming code
segment of DPL below CPL: the stack selector and pointer are those of the TSS at 4 + 8*DPL (80386) or 2 + 4*DPL
(80286); if they do not lie inside its limit #TS with the selector of TR is raised. When the stack descriptor is as
required, with room for the frame: delivery loads SS and (E)SP with it, pushes the old SS, ESP, EFLAGS, CS, the return
offset and the code, loads CS:EIP with CPL the DPL, and clears TF and NT, and IF through an interrupt gate. From V86
mode, through an 80386 gate to a nonconforming code segment of level 0, with the stack of level 0: VM is cleared and
all of ESP loaded, GS, FS, DS and ES are pushed first and then made null, and the rest is the same. Room is checked
push by push (DEDUCED, log entry 18).
Rests on: 45_interrupt_iret.md R439, 45_interrupt_iret.md R441, 44_control_transfer.md R412, 45_interrupt_iret.md R443. -/
def Obligations.ProtectedEntryInnerLevel : Prop :=
  ∀ (s : State) (n : Nat) (src : Source) (err : Option Word) (ret : DWord) (g : Desc) (c : Found),
    GateVector s n g c → (src = .software → s.cpl ≤ g.dpl) → c.desc.isConforming = false →
    let dpl := c.desc.dpl
    let w := g.gateWidth
    let old := [s.selD .ss, s.gpr.esp, s.flags.image, s.selD .cs, ret] ++ codeValues err
    let room := fun (f : Found) (ss : Word) (sp : DWord) (count : Nat) =>
      stackRoom .prot (f.desc.toSeg ss) w.bytes count (spFor (f.desc.toSeg ss) sp) = true
    let enter := fun u : State => deliverOnce n src err ret s = .ok () { u.setSreg .cs (c.desc.toSeg (selWithRpl g.gateSelector dpl)) with
      eip := g.gateOffset
      run := .running
      flags := { s.flags with vm := false, tf := false, nt := false, ifl := s.flags.ifl && !g.isInterruptGate } }
    (((s.mode = .prot ∧ dpl < s.cpl) ∨ (s.mode = .v86 ∧ g.is386 = true ∧ dpl = 0)) → ¬InnerStackInTss s dpl →
      deliverOnce n src err ret s = .error (Exc.ts (selCode s.tr.sel)) s) ∧
    (∀ (ss : Word) (sp : DWord) (f : Found) (a u : State), s.mode = .prot → dpl < s.cpl → InnerStack s dpl ss sp f →
      room f ss sp old.length → setAccessed f s = .ok () a → CanPushAll w old (a.withStack f ss sp dpl) →
      setAccessed c (pushedAll w old (a.withStack f ss sp dpl)) = .ok () u → enter u) ∧
    (∀ (ss : Word) (sp : DWord) (f : Found) (a u : State), s.mode = .v86 → g.is386 = true → dpl = 0 → InnerStack s 0 ss sp f →
      let frame := [s.selD .gs, s.selD .fs, s.selD .ds, s.selD .es] ++ old
      let null := fun r : SegReg => { r with sel := 0, valid := false }
      let in0 : State := { a with
        flags := { s.flags with vm := false }
        cpl := 0
        gpr := { s.gpr with esp := sp }
        seg := { cs := s.seg.cs, ss := f.desc.toSeg ss, es := null s.seg.es, ds := null s.seg.ds, fs := null s.seg.fs,
                 gs := null s.seg.gs } }
      room f ss sp frame.length → setAccessed f s = .ok () a → CanPushAll .w32 frame in0 →
      setAccessed c (pushedAll .w32 frame in0) = .ok () u → enter u)

/-- Which exception each failing check of a protected-mode delivery raises, with nothing changed; and delivery through a
task gate. In protected and V86 mode: a vector beyond the IDTR limit, an entry that is no gate, and for a software
interrupt a gate of DPL below CPL raise #GP(8n + 2); a not-present gate #NP(8n + 2). Through an interrupt or trap
gate: a null code selector raises #GP(0), one outside its table or not naming code #GP(selector), a not-present one
#NP(selector). From V86 mode a 16-bit gate raises #GP(8n + 2), and code that is conforming or not of DPL 0
#GP(selector); otherwise nonconforming code of DPL above CPL #GP(selector). At the same level, no room for the frame
raises #SS(0), then an offset beyond the limit #GP(0). To an inner level and from V86 mode: a stack pointer outside
the TSS raises #TS(TR); a null stack selector #GP(0); one outside its table, or of wrong RPL, DPL or type,
#TS(selector); a not-present one #SS(selector); no room for the frame #SS(0); an offset beyond the limit #GP(0). Each
leaves the state as it was. Through a task gate: a selector with TI = 1 or outside the GDT, or naming no available
TSS, raises #TS(selector), a not-present TSS #NP(selector); otherwise the tasks are switched with nesting, an
exception of the switch being passed on, and then, in the new task, lack of room for an error code raises #SS(0), the
code is pushed, and an EIP beyond the CS limit raises #GP(0), the code staying pushed (DESIGN CHOICE, log entry 40). EXT is added by the caller (DEDUCED, log entry 25); room
is checked push by push (DEDUCED, log entry 18), before paging is met (DESIGN CHOICE, log entry 37); the switch itself
is log entry 15.
Rests on: 45_interrupt_iret.md R435, 45_interrupt_iret.md R437, 45_interrupt_iret.md R438, 45_interrupt_iret.md R439, 45_interrupt_iret.md R441, 45_interrupt_iret.md R442, 44_control_transfer.md R412. -/
def Obligations.GateChecksOfDelivery : Prop :=
  ∀ (s : State) (n : Nat) (src : Source) (err : Option Word) (ret : DWord) (g : Desc), s.pe = true →
    let idt := BitVec.ofNat 16 (8 * n + 2)
    let go := deliverOnce n src err ret s
    let cs := g.gateSelector
    let found := peekDesc s (s.idtr.base + BitVec.ofNat 32 (8 * n)) = some g
    let gate := g.isIntOrTrapGate = true ∧ ¬(src = .software ∧ g.dpl < s.cpl) ∧ g.p = true
    let task := g.isSystem 5 = true ∧ ¬(src = .software ∧ g.dpl < s.cpl) ∧ g.p = true
    (s.idtr.limit.toNat < 8 * n + 7 → go = .error (Exc.gp idt) s) ∧
    (8 * n + 7 ≤ s.idtr.limit.toNat → found →
      ((g.isIntOrTrapGate || g.isSystem 5) = false → go = .error (Exc.gp idt) s) ∧
      ((g.isIntOrTrapGate || g.isSystem 5) = true → src = .software → g.dpl < s.cpl → go = .error (Exc.gp idt) s) ∧
      ((g.isIntOrTrapGate || g.isSystem 5) = true → ¬(src = .software ∧ g.dpl < s.cpl) → g.p = false →
        go = .error (Exc.np idt) s) ∧
      (gate → selNull cs = true → go = .error (Exc.gp 0) s) ∧
      (gate → selNull cs = false → s.descAddr cs = none → go = .error (Exc.gp (selCode cs)) s) ∧
      (∀ a d, gate → selNull cs = false → s.descAddr cs = some a → peekDesc s a = some d →
        (d.isCode = false → go = .error (Exc.gp (selCode cs)) s) ∧
        (d.isCode = true → d.p = false → go = .error (Exc.np (selCode cs)) s) ∧
        (d.isCode = true → d.p = true →
          let vm := s.flags.vm = true
          let w := g.gateWidth
          let beyond := d.limit.toNat < g.gateOffset.toNat
          let codes := (codeValues err).length
          let same := ¬vm ∧ (d.isConforming = true ∨ d.dpl = s.cpl)
          let inner := d.isConforming = false ∧ ((vm ∧ g.is386 = true ∧ d.dpl = 0) ∨ (¬vm ∧ d.dpl < s.cpl))
          (vm → g.is386 = false → go = .error (Exc.gp idt) s) ∧
          (vm → g.is386 = true → (d.isConforming = true ∨ d.dpl ≠ 0) → go = .error (Exc.gp (selCode cs)) s) ∧
          (¬vm → d.isConforming = false → s.cpl < d.dpl → go = .error (Exc.gp (selCode cs)) s) ∧
          (same → s.hasRoom w.bytes (3 + codes) = false → go = .error (Exc.ss 0) s) ∧
          (same → s.hasRoom w.bytes (3 + codes) = true → beyond → go = .error (Exc.gp 0) s) ∧
          (inner → ¬InnerStackInTss s d.dpl → go = .error (Exc.ts (selCode s.tr.sel)) s) ∧
          (∀ (ss : Word) (sp : DWord), inner → InnerPointer s d.dpl ss sp →
            (selNull ss = true → go = .error (Exc.gp 0) s) ∧
            (selNull ss = false → s.descAddr ss = none → go = .error (Exc.ts (selCode ss)) s) ∧
            (∀ b f, selNull ss = false → s.descAddr ss = some b → peekDesc s b = some f →
              let fits := selRpl ss = d.dpl ∧ f.dpl = d.dpl ∧ f.isWritableData = true
              let room := stackRoom .prot (f.toSeg ss) w.bytes ((if vm then 9 else 5) + codes) (spFor (f.toSeg ss) sp)
              (¬fits → go = .error (Exc.ts (selCode ss)) s) ∧
              (fits → f.p = false → go = .error (Exc.ss (selCode ss)) s) ∧
              (fits → f.p = true → room = false → go = .error (Exc.ss 0) s) ∧
              (fits → f.p = true → room = true → beyond → go = .error (Exc.gp 0) s))))) ∧
      (task → (selTi cs = true ∨ s.descAddr cs = none) → go = .error (Exc.ts (selCode cs)) s) ∧
      (∀ a d, task → selTi cs = false → s.descAddr cs = some a → peekDesc s a = some d →
        (d.isAvailableTss = false → go = .error (Exc.ts (selCode cs)) s) ∧
        (d.isAvailableTss = true → d.p = false → go = .error (Exc.np (selCode cs)) s) ∧
        (d.isAvailableTss = true → d.p = true →
          (∀ e u, switchTasks ⟨a, d⟩ cs .nest ret s = .error e u → go = .error e u) ∧
          (∀ t, switchTasks ⟨a, d⟩ cs .nest ret s = .ok () t →
            let w := d.gateWidth
            let u := pushedAll w (codeValues err) t
            (t.hasRoom w.bytes (codeValues err).length = false → go = .error { Exc.ss 0 with inNewTask := true } t) ∧
            (t.hasRoom w.bytes (codeValues err).length = true → CanPushAll w (codeValues err) t →
              go = if t.seg.cs.limit.toNat < t.eip.toNat then .error { Exc.gp 0 with inNewTask := true } u
                else .ok () { u with run := .running })))))

/-- Raising an exception delivers its vector and code, a page fault loading CR2; a fault in a delivery becomes that
fault, a double fault or shutdown. Raising an exception, in every mode, delivers its vector as an exception with its
code and with the offset of the first byte of the instruction as the saved one; EIP is put back there first, no
single-step trap stays due, and CR2 is loaded with the linear address of a page fault and kept by every other
exception. A delivery that completes is all that follows, and it keeps CR2. #PF is vector 14, #TS 10, #NP 11, #SS 12
and #GP 13, with their codes; #UD 6, #NM 7 and #MF 16 have none. For the delivery of an exception or an external
interrupt (R530 leaves out INT n). When the delivery of vector n raises a second exception (outside a task switch): if
n is 8 the machine shuts down; if both are contributory, or n is 14 and the second contributory or 14, vector 8 is
delivered with code 0; otherwise the second vector is, its code with EXT (bit 0) set, a page fault's code as it is.
The classes go by the vector number, INTR included (DEDUCED, log entry 24), and EXT is set in the delivery of every
such event (DEDUCED, log entry 25). A delivery that meets no fault is the whole of it. No chain is longer than four
deliveries: the model's recursion bounded by four, or by any larger number, gives the same state. (R530 is the spec's
decision D13.)
Rests on: 60_exceptions.md R530, 60_exceptions.md R536, 60_exceptions.md R501, 60_exceptions.md R520, 60_exceptions.md R500, 60_exceptions.md R503, 60_exceptions.md R510, 10_state.md R47. -/
def Obligations.FaultsInDeliveryChain : Prop :=
  (∀ (s : State) (e : Exc), let t : State := { s with trapDue := false, eip := s.insnStart, cr2 := e.cr2.getD s.cr2 }
    s.raise e = t.deliver e.vector .exception e.code s.insnStart ∧
    ∀ u, deliverOnce e.vector .exception e.code s.insnStart t = .ok () u → s.raise e = u ∧ u.cr2 = t.cr2) ∧
  (∀ (s : State) (c : Word) (lin : DWord), s.noteFault (Exc.pf c lin) = { s with cr2 := lin } ∧
    ∀ e : Exc, e.cr2 = none → s.noteFault e = s) ∧
  (∀ (n : Nat) (c : Word) (lin : DWord), Exc.pf c lin = ⟨14, some c, some lin, false⟩ ∧ Exc.plain n = ⟨n, none, none, false⟩ ∧
    Exc.ts c = ⟨10, some c, none, false⟩ ∧ Exc.np c = ⟨11, some c, none, false⟩ ∧ Exc.ss c = ⟨12, some c, none, false⟩ ∧
    Exc.gp c = ⟨13, some c, none, false⟩ ∧ Exc.ud = Exc.plain 6 ∧ Exc.nm = Exc.plain 7 ∧ Exc.mf = Exc.plain 16) ∧
  (∀ (k n : Nat) (src : Source) (err : Option Word) (ret : DWord) (s : State), src ≠ .software →
    deliverFrom (4 + k) n src err ret s = s.deliver n src err ret) ∧
  (∀ (n : Nat) (src : Source) (err : Option Word) (ret : DWord) (s t : State), deliverOnce n src err ret s = .ok () t →
    s.deliver n src err ret = t) ∧
  (∀ (n : Nat) (src : Source) (err : Option Word) (ret : DWord) (s u : State) (e : Exc), src ≠ .software →
    deliverOnce n src err ret s = .error e u → e.inNewTask = false →
    (n = 8 → s.deliver n src err ret = { u.noteFault e with run := .shutdown }) ∧
    (n ≠ 8 → isDoubleFault n e.vector = true → s.deliver n src err ret = (u.noteFault e).deliver 8 .exception (some 0) ret) ∧
    (n ≠ 8 → isDoubleFault n e.vector = false →
      s.deliver n src err ret = (u.noteFault e).deliver e.vector .exception (externalCode e) ret)) ∧
  (∀ a b, isDoubleFault a b = true ↔
    (a ∈ [0, 10, 11, 12, 13] ∧ b ∈ [0, 10, 11, 12, 13]) ∨ (a = 14 ∧ b ∈ [0, 10, 11, 12, 13, 14])) ∧
  (∀ e : Exc, (e.code = none → externalCode e = none) ∧
    ∀ c, e.code = some c → externalCode e = some (if e.vector = 14 then c else c.extractLsb' 1 15 ++ 1#1))

/-- IRET in protected mode: to the same level, to an outer one, to V86 mode when the image has VM set, or with NT 1 to the
task of the back link. In protected mode with NT 0 and a readable frame, its offsets cut to the stack address size and
its limit tested as one range (DEDUCED, log entry 18). To the same level, when the code segment named by the frame is
as required and the offset inside its limit: CS:EIP and the flags are loaded, (E)SP raised by three values, the
privilege kept and NMI unmasked. To an outer level, when the stack segment named by the frame is as required as well:
SS:(E)SP is loaded too, CPL is the RPL of the new CS, IOPL and IF change by the old CPL, and each of ES, FS, GS and DS
that the new level may not use is made null. A CS of lower RPL than CPL raises #GP(selector), and a frame whose CS
word lies outside the stack limit #SS(0). With a 32-bit operand size at CPL 0 and VM set in the image: EFLAGS, EIP cut
to 16 bits, ESP, and the six segment registers as V86 segments are loaded from the frame and CPL becomes 3; the frame
is read in the order EIP, ES, DS, FS, GS, SS, ESP after CS and EFLAGS, and the first read that is refused raises its
exception. With NT 1:
the selector at offset 0 of the current TSS must have TI 0, lie in the GDT and name a busy TSS, else #TS(selector),
which must be present, else #NP(selector); then the tasks are switched (R546, the spec's decision D7, log entry 15),
an exception of the switch being taken where it leaves the machine, and an EIP beyond the new CS limit raises #GP(0)
in the new task.
Rests on: 45_interrupt_iret.md R444, 45_interrupt_iret.md R445, 45_interrupt_iret.md R440, 44_control_transfer.md R418, 45_interrupt_iret.md R446, 45_interrupt_iret.md R448, 45_interrupt_iret.md R447. -/
def Obligations.ProtectedInterruptReturn : Prop :=
  (∀ s : State, s.mode = .prot → s.flags.nt = false → let w := s.osz
    let slot := fun k : Nat => truncTo s.ssz (s.sp + BitVec.ofNat 32 k)
    let at' := fun (k n : Nat) => s.loaded .ss (slot k) n
    let ok := fun (k n : Nat) => Allowed s .read .ss (slot k) n
    let frame := fun n => segFault s.mode .ss s.seg.ss s.sp n .read
    let whole := fun n => frame n = none
    let rs : Word := (at' w.bytes 2).setWidth 16
    let v86 := w = .w32 ∧ s.cpl = 0 ∧ (at' 8 4).getLsbD 17 = true
    let new := Flags.ofImage (at' (2 * w.bytes) w.bytes)
    let loaded : Flags := { new with
      iopl := if s.cpl = 0 then new.iopl else s.flags.iopl
      ifl := if s.cpl ≤ s.flags.iopl then new.ifl else s.flags.ifl
      rf := if w = .w32 then new.rf else s.flags.rf
      vm := s.flags.vm }
    let seg86 := fun k => v86Segment ((at' k 2).setWidth 16)
    let in86 : State := { s with
      flags := Flags.ofImage (at' 8 4)
      eip := at' 0 4 &&& 0xFFFF#32
      gpr := { s.gpr with esp := at' 12 4 }
      cpl := 3
      nmiBlocked := false
      seg := { cs := seg86 4, ss := seg86 16, es := seg86 20, ds := seg86 24, fs := seg86 28, gs := seg86 32 } }
    (∀ e, frame (w.bytes + 2) = some e → exec .iret s = .next (s.raise e)) ∧
    (¬v86 → whole (w.bytes + 2) → ok w.bytes 2 → (w = .w32 → s.cpl = 0 → ok 8 4) → selRpl rs < s.cpl →
      exec .iret s = .next (s.raise (Exc.gp (selCode rs)))) ∧
    (∀ a d u, ¬v86 → whole (w.bytes + 2) → whole (3 * w.bytes) → ok w.bytes 2 → ok 0 w.bytes → ok (2 * w.bytes) w.bytes →
      (w = .w32 → s.cpl = 0 → ok 8 4) → selRpl rs = s.cpl → ReturnCode s rs s.cpl a d →
      (at' 0 w.bytes).toNat ≤ d.limit.toNat → setAccessed ⟨a, d⟩ s = .ok () u →
      exec .iret s = .next { ({ u.setSreg .cs (d.toSeg rs) with eip := at' 0 w.bytes } : State).setSp
        (s.sp + BitVec.ofNat 32 (3 * w.bytes)) with nmiBlocked := false, flags := loaded }) ∧
    (∀ a d b f x u, let nss : Word := (at' (4 * w.bytes) 2).setWidth 16
      ¬v86 → whole (w.bytes + 2) → ok w.bytes 2 → (w = .w32 → s.cpl = 0 → ok 8 4) → s.cpl < selRpl rs → whole (5 * w.bytes) →
      ReturnCode s rs (selRpl rs) a d → ok (3 * w.bytes) w.bytes → ok (4 * w.bytes) 2 → ReturnStack s nss (selRpl rs) b f →
      ok 0 w.bytes → (at' 0 w.bytes).toNat ≤ d.limit.toNat → ok (2 * w.bytes) w.bytes → setAccessed ⟨a, d⟩ s = .ok () x →
      setAccessed ⟨b, f⟩ x = .ok () u →
      exec .iret s = .next { returnedOut u (selRpl rs) (d.toSeg rs) (at' 0 w.bytes) (f.toSeg nss) (at' (3 * w.bytes) w.bytes) with
        nmiBlocked := false, flags := loaded }) ∧
    (v86 → whole 6 → whole 36 → ok 0 4 → ok 4 2 → ok 8 4 → ok 12 4 → ok 16 2 → ok 20 2 → ok 24 2 → ok 28 2 → ok 32 2 →
      exec .iret s = .next in86) ∧
    (v86 → whole 6 → whole 36 → ok 4 2 → ok 8 4 → exec .iret s =
      .next (match firstRefused s [(0, 4), (20, 2), (24, 2), (28, 2), (32, 2), (16, 2), (12, 4)] with
        | some e => s.raise e
        | none => in86))) ∧
  (∀ (s : State) (v : DWord), s.mode = .prot → s.flags.nt = true → peek s s.tr.base 2 = some v →
    let bl : Word := v.setWidth 16
    let go := exec .iret s
    ((selTi bl = true ∨ s.descAddr bl = none) → go = .next (s.raise (Exc.ts (selCode bl)))) ∧
    (∀ a d, selTi bl = false → s.descAddr bl = some a → peekDesc s a = some d →
      (d.isBusyTss = false → go = .next (s.raise (Exc.ts (selCode bl)))) ∧
      (d.isBusyTss = true → d.p = false → go = .next (s.raise (Exc.np (selCode bl)))) ∧
      (d.isBusyTss = true → d.p = true → SwitchOutcome s ⟨a, d⟩ bl .iret (Exc.gp 0) go)))

/-- A task switch saves the old task, moves the busy bits, loads TR and the new image and sets TS, with nesting NT and the
back link; far JMP and CALL to a task. The algorithm is R546, the spec's decision D7 (log entry 15). If a switch to a
TSS completes: EIP, EFLAGS (NT clear for IRET), the general registers and the segment selectors were stored in the old
TSS at the offsets of its format (low halves, no FS and GS, in an 80286 TSS); its descriptor's busy bit was cleared
unless the switch nests and the new one's set unless it is an IRET; with nesting the old selector was stored as the
back link. EIP, EFLAGS, the general registers, the selectors and the LDT selector are those that the new TSS then
holds (of an 80286 TSS low halves, FS and GS 0), and CR3 for an 80386 TSS with PG set; NT is set when the switch
nests; with paging off, memory up to that point changes in those stores alone. TR holds the new selector with its
descriptor's base, limit and type; CR0.TS is set and the rest of CR0 kept; CPL is 3 in V86 mode, else the RPL of CS;
GDTR, IDTR, CR2, the debug and test registers and the environment are unchanged; IRET alone unmasks NMI. A TSS whose
limit is too small raises #TS(selector) and changes nothing. A far JMP or CALL in protected mode to a task gate or TSS
(X is #GP for JMP, #TS for CALL): DPL at least CPL and RPL, else X(selector); a gate present, else #NP; the TSS
selector with TI 0, in the GDT and naming an available TSS, else X of it, and present, else #NP of it; then the
switch, nesting for CALL, with its exceptions taken where it leaves the machine; an EIP beyond the new CS limit raises
X(0) there. A descriptor of any other kind (no code, gate or TSS) raises #GP(selector).
Rests on: 60_exceptions.md R540 to R546, 20_memory.md R116, 44_control_transfer.md R413, 44_control_transfer.md R414, 44_control_transfer.md R406. -/
def Obligations.TaskSwitchEffects : Prop :=
  (∀ (s t : State) (new : Found) (sel : Word) (kind : SwitchKind) (ret : DWord),
    let base := new.desc.base
    (switchTasks new sel kind ret s = .ok () t →
      (∃ a : State, leaveTask new sel kind ret s = .ok () a ∧ a = { s with mem := a.mem, tr := t.tr } ∧
        (if new.desc.is386 then Image386 { a with cr3 := t.cr3 } t base (kind == .nest) else Image286 a t base (kind == .nest)) ∧
        (if new.desc.is386 = true ∧ s.pg = true then peek a (base + 0x1C#32) 4 = some t.cr3 else t.cr3 = s.cr3) ∧
        ((s.pe && s.pg) = false → OnlyBytes (switchBytes s new kind) s a ∧
          (kind = .nest → Memory.wf s.mem = true → peek a base 2 = some (s.tr.sel.setWidth 32)))) ∧
      t.tr = { sel := sel, base := base, limit := new.desc.limit, is386 := new.desc.is386 } ∧
      t.cr0 = s.cr0 ||| 0x8#32 ∧ (kind = .nest → t.flags.nt = true) ∧
      t.cpl = (if t.flags.vm then 3 else selRpl t.seg.cs.sel) ∧
      t.gdtr = s.gdtr ∧ t.idtr = s.idtr ∧ t.cr2 = s.cr2 ∧ t.dr = s.dr ∧ t.tr6 = s.tr6 ∧ t.tr7 = s.tr7 ∧
      t.inputs = s.inputs ∧ t.ioWrites = s.ioWrites ∧ t.run = s.run ∧
      t.nmiBlocked = (s.nmiBlocked && decide (kind ≠ SwitchKind.iret))) ∧
    (new.desc.limit.toNat < (if new.desc.is386 then 0x67 else 0x2B) →
      switchTasks new sel kind ret s = .error (Exc.ts (selCode sel)) s)) ∧
  (∀ (s : State) (i : Instr) (call : Bool) (sel : Word) (off a : DWord) (d : Desc), s.mode = .prot →
    farForm s i = some (call, sel, off) → FarReady s i → selNull sel = false → s.descAddr sel = some a → peekDesc s a = some d →
    let go := exec i s
    let fault := fun e : Exc => go = .next (s.raise e)
    let x := fun c : Word => if call then Exc.ts c else Exc.gp c
    let kind := if call then SwitchKind.nest else .jmp
    let level := s.cpl ≤ d.dpl ∧ selRpl sel ≤ d.dpl
    (d.isSystem 5 = true →
      let ts := d.gateSelector
      (¬level → fault (x (selCode sel))) ∧
      (level → d.p = false → fault (Exc.np (selCode sel))) ∧
      (level → d.p = true → (selTi ts = true ∨ s.descAddr ts = none) → fault (x (selCode ts))) ∧
      (∀ b new, level → d.p = true → selTi ts = false → s.descAddr ts = some b → peekDesc s b = some new →
        (new.isAvailableTss = false → fault (x (selCode ts))) ∧
        (new.isAvailableTss = true → new.p = false → fault (Exc.np (selCode ts))) ∧
        (new.isAvailableTss = true → new.p = true → SwitchOutcome s ⟨b, new⟩ ts kind (x 0) go))) ∧
    ((d.isAvailableTss = true ∨ d.isBusyTss = true) →
      let open' := selTi sel = false ∧ level ∧ d.isAvailableTss = true
      (¬open' → fault (x (selCode sel))) ∧
      (open' → d.p = false → fault (Exc.np (selCode sel))) ∧
      (open' → d.p = true → SwitchOutcome s ⟨a, d⟩ sel kind (x 0) go)) ∧
    (d.isCode = false → (∀ t ∈ [4, 12, 5, 1, 9, 3, 11], d.isSystem t = false) → fault (Exc.gp (selCode sel))))

/-- LAR, LSL, VERR, VERW and ARPL complete in protected mode, ZF saying what was found, and never fault on a selector. In
protected mode, when the selector's operand can be read: a null selector or one outside its table clears ZF and
changes nothing else; otherwise, its descriptor being readable, VERR and VERW set ZF to whether the segment may be
read or written at this privilege, and LAR and LSL, if the type is valid and the segment visible, set ZF and load the
access rights (bits 19:16 free) or the byte-granular limit, and otherwise clear ZF. A segment is visible if it is
conforming code or its DPL is at least CPL and RPL; LAR takes every type but the system types 0, 8, A and D, and LSL
code, data and the system types 1, 2, 3, 9 and B. In protected mode, when the r/m word can be read and written: if its
RPL is below that of the register, the word is stored with the register's RPL and ZF is set; otherwise ZF is cleared
and nothing is stored. No byte of memory outside the word changes.
Rests on: 46_system.md R451, 46_system.md R453, 46_system.md R454, 46_system.md R460, 46_system.md R461, 46_system.md R452. -/
def Obligations.SelectorChecksResult : Prop :=
  ((∀ (i : Instr) (s : State) (sz : Size) (rm : RM Reg) (f : Desc → Word → State), probeForm s i = some (sz, rm, f) →
      s.mode = .prot → Readable s sz (locV s rm) →
      let sel : Word := (s.value sz (locV s rm)).extractLsb' 0 16
      ((selNull sel = true ∨ s.descAddr sel = none) → exec i s = .next { s with flags := { s.flags with zf := false } }) ∧
      (∀ a d, selNull sel = false → s.descAddr sel = some a → peekDesc s a = some d → exec i s = .next (f d sel))) ∧
    (∀ (d : Desc) (sel : Word) (cpl : BitVec 2),
      (visible d sel cpl = true ↔
        (d.s = true ∧ d.type.getLsbD 3 = true ∧ d.type.getLsbD 2 = true) ∨ (cpl ≤ d.dpl ∧ selRpl sel ≤ d.dpl)) ∧
      (validForLar d = true ↔ d.s = true ∨ d.type ∈ ([1, 2, 3, 4, 5, 6, 7, 9, 11, 12, 14, 15] : List (BitVec 4))) ∧
      (validForLsl d = true ↔ d.s = true ∨ d.type ∈ ([1, 2, 3, 9, 11] : List (BitVec 4))))) ∧
  (∀ (s : State) (rm : RM Reg) (r : Reg), s.mode = .prot → Readable s .word (locV s rm) → Writable s .word (locV s rm) →
      let d : Word := (s.value .word (locV s rm)).extractLsb' 0 16
      let rpl : BitVec 2 := (s.reg r).extractLsb' 0 2
      let new : Word := d.extractLsb' 2 14 ++ rpl
      (d.extractLsb' 0 2 < rpl → exec (.arpl rm r) s = .next { s.stored .word (locV s rm) (new.setWidth 32) with
        flags := { s.flags with zf := true } }) ∧
      (¬d.extractLsb' 0 2 < rpl → exec (.arpl rm r) s = .next { s with flags := { s.flags with zf := false } }) ∧
      OnlyBytes (s.storeAddrs .word (locV s rm)) s (s.stored .word (locV s rm) (new.setWidth 32)))

/-- LGDT, LIDT, SGDT and SIDT complete with the six-byte operand moved, 24 bits of base under a 16-bit operand size. With
the six bytes of the operand inside the segment and accessible: LGDT and LIDT, in real-address mode or at CPL 0, load
the limit from the first word and the base from the doubleword after it, cut to 24 bits under a 16-bit operand size;
SGDT and SIDT, at any level, store them, the base's top byte 0 under a 16-bit operand size. Nothing else changes.
Rests on: 46_system.md R456, 46_system.md R457. -/
def Obligations.DescriptorTableRegisters : Prop :=
  ∀ (s : State) (m : EA), let seg := s.segOr (defaultSegment m)
    let ea := effectiveOffset s m
    let cut := fun v : DWord => if s.osz = .w16 then v &&& 0x00FFFFFF#32 else v
    let new : TableReg := { limit := (s.loaded seg ea 2).setWidth 16, base := cut (s.loaded seg (ea + 2) 4) }
    (segFault s.mode seg (s.sreg seg) ea 6 .read = none → Allowed s .read seg ea 2 → Allowed s .read seg (ea + 2) 4 →
      (s.pe = false ∨ s.cpl = 0) → exec (.lgdt m) s = .next { s with gdtr := new } ∧
        exec (.lidt m) s = .next { s with idtr := new }) ∧
    (segFault s.mode seg (s.sreg seg) ea 6 .write = none → Allowed s .write seg ea 2 →
      ∀ t : TableReg, let u := s.storedAt seg ea 2 (t.limit.setWidth 32)
      Allowed u .write seg (ea + 2) 4 →
      (t = s.gdtr → exec (.sgdt m) s = .next (u.storedAt seg (ea + 2) 4 (cut t.base))) ∧
      (t = s.idtr → exec (.sidt m) s = .next (u.storedAt seg (ea + 2) 4 (cut t.base))))

/-- LLDT, LTR, SLDT and STR complete in protected mode: the register loaded from its GDT descriptor, or the selector
stored. In protected mode. SLDT and STR store the selector in a word operand that can be written. At CPL 0, with a
readable operand: LLDT with a null selector makes the LDT unusable; LLDT with the selector of a present LDT descriptor
in the GDT, and LTR with that of a present available TSS there, load the register from it; LTR first marks the
descriptor busy: where the byte at its address plus 5 can be read and written, bit 1 of it is set and no other bit,
byte or register changes. A selector of the LDT, or outside the GDT, or of the wrong type raises #GP(selector), a
not-present one #NP(selector).
Rests on: 46_system.md R458, 46_system.md R459, 46_system.md R462, 46_system.md R463. -/
def Obligations.LocalTableAndTaskRegisters : Prop :=
  ∀ (s : State) (rm : RM Reg), s.mode = .prot →
    let l := locV s rm
    (Writable s .word l → exec (.sldt rm) s = .next (s.stored .word l (s.ldtr.sel.setWidth 32)) ∧
      exec (.str rm) s = .next (s.stored .word l (s.tr.sel.setWidth 32)) ∧
      (∀ v, OnlyBytes (s.storeAddrs .word l) s (s.stored .word l v))) ∧
    (s.cpl = 0 → Readable s .word l →
      let sel : Word := (s.value .word l).extractLsb' 0 16
      let gp := s.raise (Exc.gp (selCode sel))
      (selNull sel = true → exec (.lldt rm) s = .next { s with ldtr := { s.ldtr with sel := sel, valid := false } } ∧
        exec (.ltr rm) s = .next (s.raise (Exc.gp 0))) ∧
      (selNull sel = false → (selTi sel = true ∨ s.descAddr sel = none) → exec (.lldt rm) s = .next gp ∧
        exec (.ltr rm) s = .next gp) ∧
      (∀ a d, selNull sel = false → selTi sel = false → s.descAddr sel = some a → peekDesc s a = some d →
        (d.isSystem 2 = false → exec (.lldt rm) s = .next gp) ∧
        (d.isSystem 2 = true → exec (.lldt rm) s = .next (if d.p then
          { s with ldtr := { sel := sel, base := d.base, limit := d.limit, valid := true } }
          else s.raise (Exc.np (selCode sel)))) ∧
        (d.isAvailableTss = false → exec (.ltr rm) s = .next gp) ∧
        (d.isAvailableTss = true → d.p = false → exec (.ltr rm) s = .next (s.raise (Exc.np (selCode sel)))) ∧
        (d.isAvailableTss = true → d.p = true → ∀ u, changeAccessRights a (fun b => b ||| 2#8) s = .ok () u →
          exec (.ltr rm) s =
            .next { u with tr := { sel := sel, base := d.base, limit := d.limit, is386 := d.is386 } }) ∧
        RightsChanged s a (fun b => b ||| 0x02#8) (changeAccessRights a (fun b => b ||| 2#8) s)))

/-- LMSW, SMSW, CLTS and MOV to and from CR, DR and TR complete with that register alone moved, privileged but for SMSW.
In real-address mode or at CPL 0: LMSW loads the low four bits of CR0 from its operand but never clears PE; CLTS
clears TS; a MOV to or from a control, debug or test register moves all 32 bits and leaves the six status flags free.
SMSW, at any level, stores the low word of CR0. A special register reads back what was last written to it, and writing
one changes no other.
Rests on: 46_system.md R455, 46_system.md R464 to R468. -/
def Obligations.SpecialRegisterMoves : Prop :=
  (∀ (s : State) (rm : RM Reg), (s.pe = false ∨ s.cpl = 0) → Readable s .word (locV s rm) →
    ∃ v : DWord, exec (.lmsw rm) s = .next { s with cr0 := v } ∧ v.extractLsb' 4 28 = s.cr0.extractLsb' 4 28 ∧
      v.extractLsb' 1 3 = (s.value .word (locV s rm)).extractLsb' 1 3 ∧
      v.getLsbD 0 = (s.cr0.getLsbD 0 || (s.value .word (locV s rm)).getLsbD 0)) ∧
  (∀ (s : State) (rm : RM Reg), Writable s .word (locV s rm) →
    exec (.smsw rm) s = .next (s.stored .word (locV s rm) (s.cr0 &&& 0xFFFF#32)) ∧
    OnlyBytes (s.storeAddrs .word (locV s rm)) s (s.stored .word (locV s rm) (s.cr0 &&& 0xFFFF#32))) ∧
  (∀ s : State, (s.pe = false ∨ s.cpl = 0) →
    exec .clts s = .next { s with cr0 := s.cr0 &&& 0xFFFFFFF7#32 } ∧
    ∀ (i : Instr) (f : State → State), specialForm i = some f → exec i s = .next ((f s).undefined StatusMask.all)) ∧
  (∀ (s : State) (c c' : CReg) (d d' : DReg) (t t' : TReg) (v : DWord),
    (s.setCreg c v).creg c' = (if c' = c then v else s.creg c') ∧
    (s.setDreg d v).dreg d' = (if d' = d then v else s.dreg d') ∧
    (s.setTreg t v).treg t' = (if t' = t then v else s.treg t'))

/-- A privileged instruction raises #GP(0) at CPL 1 to 3, and a protected-mode-only one #UD in the other modes. LGDT,
LIDT, LMSW, CLTS, HLT and MOV to and from CR, DR and TR raise #GP(0), from the unchanged state, in protected and V86
mode with CPL not 0, and so do LLDT and LTR in protected mode. ARPL, LAR, LSL, VERR, VERW, LLDT, SLDT, LTR and STR
raise #UD in real-address and V86 mode.
Rests on: 46_system.md R450, 30_encoding.md R174, 60_exceptions.md R538. -/
def Obligations.PrivilegeAndModeFaults : Prop :=
  ∀ (i : Instr) (s : State),
    (isPrivileged i = true → s.pe = true → s.cpl ≠ 0 → exec i s = .next (s.raise (Exc.gp 0))) ∧
    (∀ rm, (i = .lldt rm ∨ i = .ltr rm) → s.mode = .prot → s.cpl ≠ 0 → exec i s = .next (s.raise (Exc.gp 0))) ∧
    (isProtectedOnly i = true → s.mode ≠ .prot → exec i s = .next (s.raise Exc.ud))

/-- No instruction at CPL 1 to 3 changes GDTR, IDTR, a debug register or a test register, whatever exceptions it takes.
For every instruction and every state of protected or V86 mode with CPL not 0: if exec answers a next state, GDTR,
IDTR, the six debug registers and the two test registers are as before, even where the instruction takes an exception,
changes the privilege level or switches tasks.
Rests on: 60_exceptions.md R538, 46_system.md R450. -/
def Obligations.UserCodeKeepsSystemRegisters : Prop :=
  ∀ (i : Instr) (s t : State), s.pe = true → s.cpl ≠ 0 → exec i s = .next t →
    t.gdtr = s.gdtr ∧ t.idtr = s.idtr ∧ t.dr = s.dr ∧ t.tr6 = s.tr6 ∧ t.tr7 = s.tr7 ∧ t.pe = true

/-- ESC raises #NM with EM or TS set, else #MF with ERROR# active; else the coprocessor's instruction is refused by name.
An ESC instruction raises exception 7 when EM or TS is set; otherwise exception 16 when ERROR# is active; otherwise it
belongs to the coprocessor, which the spec puts outside the machine, and the model refuses it.
Rests on: 30_encoding.md R176, 60_exceptions.md R511, 60_exceptions.md R519. -/
def Obligations.CoprocessorEscapeOutcome : Prop :=
  ∀ (s : State) (a b : BitVec 3) (rm : RM Reg),
    ((s.em || s.ts) = true → exec (.esc a b rm) s = .next (s.raise Exc.nm)) ∧
    ((s.em || s.ts) = false → s.pins.error = true → exec (.esc a b rm) s = .next (s.raise Exc.mf)) ∧
    ((s.em || s.ts) = false → s.pins.error = false → exec (.esc a b rm) s = .refused .coprocessor)

/-- Each prefix records itself and nothing else; 66 and 67 select the other size; a misplaced LOCK or repeat raises #UD.
Each prefix constructor completes in every state, changing only the record of prefixes. After 66 the operand size, and
after 67 the address size, is the one that is not the default. A LOCK before an instruction that may not be locked, or
a repeat prefix before one that may not be repeated, raises #UD, and in V86 mode with IOPL below 3 a LOCK before one
that may raises #GP(0); otherwise the instruction runs. Those that may be locked are BT, BTS, BTR, BTC, XCHG, ADD, OR,
ADC, SBB, AND, SUB, XOR, NOT, NEG, INC and DEC with a memory operand that they write (for BT, read); those that may be
repeated are the string instructions, under REPNE only CMPS and SCAS.
Rests on: 30_encoding.md R141, 30_encoding.md R142, 30_encoding.md R173, 42_data_movement.md R366, 20_memory.md R132, 43_string_rep.md R379. -/
def Obligations.PrefixEffects : Prop :=
  (∀ (i : Instr) (s : State) (f : Prefixes → Prefixes), prefixForm i = some f → exec i s = .next { s with pfx := f s.pfx }) ∧
  (∀ s : State, ({ s with pfx := { s.pfx with opsize := true } } : State).osz = s.defaultSize.other ∧
    ({ s with pfx := { s.pfx with opsize := false } } : State).osz = s.defaultSize ∧
    ({ s with pfx := { s.pfx with addrsize := true } } : State).asz = s.defaultSize.other ∧
    ({ s with pfx := { s.pfx with addrsize := false } } : State).asz = s.defaultSize) ∧
  (∀ (i : Instr) (s : State),
    let bad := (s.pfx.lock = true ∧ lockable i = false) ∨ ∃ k, s.pfx.rep = some k ∧ repeatable k i = false
    (bad → runDecoded i [] s = .next (s.raise Exc.ud)) ∧
    (¬bad → s.pfx.lock = true → s.mode = .v86 → s.flags.iopl < 3 → runDecoded i [] s = .next (s.raise (Exc.gp 0))) ∧
    (¬bad → (s.pfx.lock = false ∨ s.mode ≠ .v86 ∨ s.flags.iopl = 3) → runDecoded i [] s = exec i s)) ∧
  (∀ k i, repeatable k i = true ↔ i ∈ [Instr.cmpsb, .cmpsv, .scasb, .scasv] ∨
    (k = .rep ∧ i ∈ [Instr.insb, .insv, .movsb, .movsv, .outsb, .outsv, .stosb, .stosv, .lodsb, .lodsv])) ∧
  (∀ i : Instr, lockable i = true ↔ ∃ m : EA,
    (∃ r : Reg8, i ∈ [Instr.addRm8R8 (.mem m) r, .orRm8R8 (.mem m) r, .adcRm8R8 (.mem m) r, .sbbRm8R8 (.mem m) r,
        .andRm8R8 (.mem m) r, .subRm8R8 (.mem m) r, .xorRm8R8 (.mem m) r, .xchgRm8R8 (.mem m) r]) ∨
    (∃ r : Reg, i ∈ [Instr.addRmvRv (.mem m) r, .orRmvRv (.mem m) r, .adcRmvRv (.mem m) r, .sbbRmvRv (.mem m) r,
        .andRmvRv (.mem m) r, .subRmvRv (.mem m) r, .xorRmvRv (.mem m) r, .xchgRmvRv (.mem m) r,
        .btRmvRv (.mem m) r, .btsRmvRv (.mem m) r, .btrRmvRv (.mem m) r, .btcRmvRv (.mem m) r]) ∨
    (∃ v : Byte, i ∈ [Instr.addRm8Imm8 (.mem m) v, .orRm8Imm8 (.mem m) v, .adcRm8Imm8 (.mem m) v, .sbbRm8Imm8 (.mem m) v,
        .andRm8Imm8 (.mem m) v, .subRm8Imm8 (.mem m) v, .xorRm8Imm8 (.mem m) v, .btRmvImm8 (.mem m) v,
        .btsRmvImm8 (.mem m) v, .btrRmvImm8 (.mem m) v, .btcRmvImm8 (.mem m) v]) ∨
    (∃ v : Imm, i ∈ [Instr.addRmvImm (.mem m) v, .orRmvImm (.mem m) v, .adcRmvImm (.mem m) v, .sbbRmvImm (.mem m) v,
        .andRmvImm (.mem m) v, .subRmvImm (.mem m) v, .xorRmvImm (.mem m) v]) ∨
    i ∈ [Instr.notRm8 (.mem m), .notRmv (.mem m), .negRm8 (.mem m), .negRmv (.mem m), .incRm8 (.mem m),
        .incRmv (.mem m), .decRm8 (.mem m), .decRmv (.mem m)])
end

