-- ==== Sys2Proof/Laws/Op.lean ====
section
/-!
SUPPORT. How operations compose: running `pure`, `bind`, `query`, `update` and the rest, and how a property of the state is
carried through an operation whether it completes or raises an exception.
-/
namespace Sys2Proof.Machine

variable {α β : Type}

/-! The lemmas on `bind` are not proved by `rfl`: a `simp` step by one of them then leaves a step in the proof, where the
kernel would otherwise have to find the equality again by unfolding both sides. -/

@[simp] theorem pure_run (a : α) (s : State) : (pure a : Op α) s = .ok a s := rfl

@[simp] theorem query_run (f : State → α) (s : State) : query f s = .ok (f s) s := rfl

@[simp] theorem update_run (f : State → State) (s : State) : update f s = .ok () (f s) := rfl

@[simp] theorem updateFlags_run (f : Flags → Flags) (s : State) :
    updateFlags f s = .ok () { s with flags := f s.flags } := rfl

@[simp] theorem setEip_run (v : DWord) (s : State) : setEip v s = .ok () { s with eip := v } := rfl

@[simp] theorem raiseExc_run (e : Exc) (s : State) : (raiseExc e : Op α) s = .error e s := rfl

@[simp] theorem drawUndef_run (s : State) :
    drawUndef s = .ok (Config.undef s.draws) { s with draws := s.draws + 1 } := rfl

@[simp] theorem raiseIf_false_run (e : Exc) (s : State) : raiseIf false e s = .ok () s := rfl

@[simp] theorem raiseIf_true_run (e : Exc) (s : State) : raiseIf true e s = .error e s := rfl

theorem raiseIf_run (c : Bool) (e : Exc) (s : State) : raiseIf c e s = if c then .error e s else .ok () s := by
  cases c <;> rfl

/-- Undefined flags: one draw, and the chosen flags taken from it. -/
@[simp] theorem undefFlags_run (m : StatusMask) (s : State) :
    undefFlags m s = .ok () { s with flags := s.flags.scramble m (Config.undef s.draws), draws := s.draws + 1 } := rfl

theorem bind_run (x : Op α) (f : α → Op β) (s : State) :
    (x >>= f) s = match x s with
      | .ok a s' => f a s'
      | .error e s' => .error e s' := by
  change EStateM.bind x f s = _
  unfold EStateM.bind
  cases x s <;> rfl

/-- After an operation that completes, the rest runs from its result and its state. -/
theorem bind_of_ok {x : Op α} {f : α → Op β} {s s' : State} {a : α} (h : x s = .ok a s') :
    (x >>= f) s = f a s' := by
  rw [bind_run, h]

/-- An exception ends the whole operation. -/
theorem bind_of_error {x : Op α} {f : α → Op β} {s s' : State} {e : Exc} (h : x s = .error e s') :
    (x >>= f) s = .error e s' := by
  rw [bind_run, h]

@[simp] theorem pure_bind_run (a : α) (f : α → Op β) (s : State) : (pure a >>= f) s = f a s := bind_of_ok (pure_run a s)

@[simp] theorem query_bind_run (g : State → α) (f : α → Op β) (s : State) : (query g >>= f) s = f (g s) s :=
  bind_of_ok (query_run g s)

@[simp] theorem query_id_bind_run (f : State → Op β) (s : State) : (query id >>= f) s = f s s := bind_of_ok (query_run id s)

@[simp] theorem update_bind_run (g : State → State) (f : Unit → Op β) (s : State) :
    (update g >>= f) s = f () (g s) := bind_of_ok (update_run g s)

@[simp] theorem updateFlags_bind_run (g : Flags → Flags) (f : Unit → Op β) (s : State) :
    (updateFlags g >>= f) s = f () { s with flags := g s.flags } := bind_of_ok (updateFlags_run g s)

@[simp] theorem drawUndef_bind_run (f : DWord → Op β) (s : State) :
    (drawUndef >>= f) s = f (Config.undef s.draws) { s with draws := s.draws + 1 } := bind_of_ok (drawUndef_run s)

@[simp] theorem raiseIf_false_bind_run (e : Exc) (f : Unit → Op β) (s : State) : (raiseIf false e >>= f) s = f () s :=
  bind_of_ok (raiseIf_false_run e s)

@[simp] theorem raiseIf_true_bind_run (e : Exc) (f : Unit → Op β) (s : State) :
    (raiseIf true e >>= f) s = .error e s := bind_of_error (raiseIf_true_run e s)

/-- After a test, the exception or the rest. -/
theorem raiseIf_bind_run (c : Bool) (e : Exc) (f : Unit → Op β) (s : State) :
    (raiseIf c e >>= f) s = if c then .error e s else f () s := by
  cases c
  · exact raiseIf_false_bind_run e f s
  · exact raiseIf_true_bind_run e f s

@[simp] theorem raiseExc_bind_run (e : Exc) (f : α → Op β) (s : State) : ((raiseExc e : Op α) >>= f) s = .error e s :=
  bind_of_error (raiseExc_run e s)

@[simp] theorem bind_assoc_run (x : Op α) (f : α → Op β) {γ : Type} (g : β → Op γ) (s : State) :
    ((x >>= f) >>= g) s = (x >>= fun a => f a >>= g) s := by
  simp only [bind_run]
  cases x s <;> rfl

/-! ### Undoing and meanings -/

theorem atomically_of_ok {x : Op α} {s s' : State} {a : α} (h : x s = .ok a s') : atomically x s = .ok a s' := by
  simp [atomically, h]

/-- R503: an operation that raises an exception leaves the state as it was. -/
theorem atomically_of_error {x : Op α} {s s' : State} {e : Exc} (h : x s = .error e s') :
    atomically x s = .error e s := by
  simp [atomically, h]

theorem undoneTo_of_ok {t : State} {x : Op α} {s s' : State} {a : α} (h : x s = .ok a s') : undoneTo t x s = .ok a s' := by
  simp [undoneTo, h]

/-- R503: an operation that raises an exception leaves the state that undoing goes back to. -/
theorem undoneTo_of_error {t : State} {x : Op α} {s s' : State} {e : Exc} (h : x s = .error e s') :
    undoneTo t x s = .error e t := by
  simp [undoneTo, h]

theorem complete_of_ok {x : Op Unit} {s s' : State} (h : x s = .ok () s') : complete x s = .next s' := by
  simp [complete, h]

theorem complete_of_error {x : Op Unit} {s s' : State} {e : Exc} (h : x s = .error e s') :
    complete x s = .next (s'.raise e) := by
  simp [complete, h]

/-- An instruction whose operation completes ends in the state of the operation. -/
theorem instr_of_ok {x : Op Unit} {s s' : State} (h : x s = .ok () s') : instr x s = .next s' :=
  complete_of_ok (atomically_of_ok h)

/-- R503, R520: an instruction whose operation raises an exception takes it in the state it began in. -/
theorem instr_of_error {x : Op Unit} {s s' : State} {e : Exc} (h : x s = .error e s') :
    instr x s = .next (s.raise e) :=
  complete_of_error (atomically_of_error h)

/-- What an ordinary instruction can do: its operation completes, or it takes an exception from the state before. -/
theorem instr_cases (x : Op Unit) (s : State) :
    (∃ s', x s = .ok () s' ∧ instr x s = .next s') ∨ ∃ e s', x s = .error e s' ∧ instr x s = .next (s.raise e) := by
  cases h : x s with
  | ok _ s' => exact .inl ⟨s', rfl, instr_of_ok h⟩
  | error e s' => exact .inr ⟨e, s', rfl, instr_of_error h⟩

/-! ### Properties that operations keep -/

/-- The state in which an operation ended, completed or not. -/
def endState : EStateM.Result Exc State α → State
  | .ok _ s => s
  | .error _ s => s

/-- An operation keeps a property of the state, whether it completes or raises an exception. -/
def Keeps (P : State → Prop) (x : Op α) : Prop := ∀ s, P s → P (endState (x s))

theorem keeps_pure (P : State → Prop) (a : α) : Keeps P (pure a : Op α) := fun _ h => h

theorem keeps_query (P : State → Prop) (f : State → α) : Keeps P (query f) := fun _ h => h

theorem keeps_update {P : State → Prop} {f : State → State} (h : ∀ s, P s → P (f s)) : Keeps P (update f) := h

theorem keeps_raiseExc (P : State → Prop) (e : Exc) : Keeps P (raiseExc e : Op α) := fun _ h => h

theorem keeps_raiseIf (P : State → Prop) (c : Bool) (e : Exc) : Keeps P (raiseIf c e) := by
  intro s h
  cases c <;> exact h

theorem keeps_bind {P : State → Prop} {x : Op α} {f : α → Op β} (hx : Keeps P x) (hf : ∀ a, Keeps P (f a)) :
    Keeps P (x >>= f) := by
  intro s hs
  have h := hx s hs
  rw [bind_run]
  revert h
  cases x s
  · exact hf _ _
  · exact id

theorem keeps_atomically {P : State → Prop} {x : Op α} (hx : Keeps P x) : Keeps P (atomically x) := by
  intro s hs
  have h := hx s hs
  unfold atomically
  revert h
  cases x s
  · exact id
  · exact fun _ => hs

theorem keeps_inNewTask {P : State → Prop} {x : Op α} (hx : Keeps P x) : Keeps P (inNewTask x) := by
  intro s hs
  have h := hx s hs
  unfold inNewTask
  revert h
  cases x s <;> exact id

theorem keeps_ite {P : State → Prop} {x y : Op α} (c : Prop) [Decidable c] (hx : Keeps P x) (hy : Keeps P y) :
    Keeps P (if c then x else y) := by
  split <;> assumption

/-- An operation that leaves the state alone, such as a check or a read. -/
def Silent (x : Op α) : Prop := ∀ s, endState (x s) = s

/-- Everything a silent operation can do: answer or raise an exception, in the state it began in. -/
theorem Silent.cases {x : Op α} (h : Silent x) (s : State) : (∃ a, x s = .ok a s) ∨ ∃ e, x s = .error e s := by
  have hs := h s
  revert hs
  cases x s <;> rintro rfl <;> simp [endState]

theorem Silent.keeps {x : Op α} (h : Silent x) (P : State → Prop) : Keeps P x := by
  intro s hs
  rw [h s]
  exact hs

theorem silent_pure (a : α) : Silent (pure a : Op α) := fun _ => rfl

theorem silent_query (f : State → α) : Silent (query f) := fun _ => rfl

theorem silent_raiseIf (c : Bool) (e : Exc) : Silent (raiseIf c e) := by
  intro s
  cases c <;> rfl

theorem silent_bind {x : Op α} {f : α → Op β} (hx : Silent x) (hf : ∀ a, Silent (f a)) : Silent (x >>= f) := by
  intro s
  rcases hx.cases s with ⟨a, ha⟩ | ⟨e, he⟩
  · rw [bind_of_ok ha]; exact hf a s
  · rw [bind_of_error he]; rfl

theorem silent_checkSeg (r : SReg) (off : DWord) (n : Nat) (k : AccessKind) : Silent (checkSeg r off n k) := by
  intro s
  unfold checkSeg
  split <;> rfl

theorem silent_translate (k : AccessKind) (u : Bool) (lin : DWord) : Silent (translate k u lin) := by
  intro s
  unfold translate
  split
  · split <;> rfl
  · rfl

theorem silent_translateRange (k : AccessKind) (u : Bool) (n : Nat) (lin : DWord) :
    Silent (translateRange k u n lin) := by
  induction n generalizing lin with
  | zero => exact silent_pure _
  | succ n ih => exact silent_bind (silent_translate k u lin) fun a => silent_bind (ih _) fun rest => silent_pure _

theorem silent_linReadAs (u : Bool) (lin : DWord) (n : Nat) : Silent (linReadAs u lin n) :=
  silent_bind (silent_translateRange _ _ _ _) fun _ => silent_query _

/-- Reading memory changes nothing. -/
theorem silent_memRead (r : SReg) (off : DWord) (n : Nat) : Silent (memRead r off n) :=
  silent_bind (silent_checkSeg _ _ _ _) fun _ => silent_bind (silent_query _) fun _ => silent_linReadAs _ _ _

theorem silent_checkWrite (r : SReg) (off : DWord) (n : Nat) : Silent (checkWrite r off n) :=
  silent_bind (silent_checkSeg _ _ _ _) fun _ => silent_bind (silent_query _) fun _ =>
    silent_bind (silent_translateRange _ _ _ _) fun _ => silent_pure _

/-- Everything a write at linear addresses can do: raise an exception and change nothing, or store the bytes. -/
theorem linWriteAs_cases (u : Bool) (lin : DWord) (n : Nat) (v : DWord) (s : State) :
    (∃ addrs, translateRange .write u n lin s = .ok addrs s ∧
      linWriteAs u lin n v s = .ok () { s with mem := Memory.writeAll s.mem addrs v }) ∨
    ∃ e, linWriteAs u lin n v s = .error e s := by
  rcases (silent_translateRange .write u n lin).cases s with ⟨addrs, ha⟩ | ⟨e, he⟩
  · exact .inl ⟨addrs, ha, (bind_of_ok ha).trans rfl⟩
  · exact .inr ⟨e, bind_of_error he⟩

/-- Everything a write through a segment register can do. -/
theorem memWrite_cases (r : SReg) (off : DWord) (n : Nat) (v : DWord) (s : State) :
    (∃ addrs, translateRange .write s.user n (s.linear r off) s = .ok addrs s ∧
      memWrite r off n v s = .ok () { s with mem := Memory.writeAll s.mem addrs v }) ∨
    ∃ e, memWrite r off n v s = .error e s := by
  rcases (silent_checkSeg r off n .write).cases s with ⟨_, hc⟩ | ⟨e, he⟩
  · unfold memWrite
    rw [bind_of_ok hc]
    exact linWriteAs_cases _ _ _ _ _
  · exact .inr ⟨e, bind_of_error he⟩

end Sys2Proof.Machine
end

