-- ==== Sys2Proof/Laws/Access.lean ====
section
/-!
SUPPORT. What the shared operations on memory, operands and the stack answer where the access is allowed.
-/
namespace Sys2Proof.Machine

theorem translateRange_state {k : AccessKind} {u : Bool} {n : Nat} {lin : DWord} {s t : State} {addrs : List DWord}
    (h : translateRange k u n lin s = .ok addrs t) : t = s := by
  have := silent_translateRange k u n lin s
  rw [h] at this
  exact this

/-- An allowed access has its physical addresses. -/
theorem range_of_allowed {s : State} {k : AccessKind} {seg : SReg} {off : DWord} {n : Nat} (h : Allowed s k seg off n) :
    translateRange k s.user n (s.linear seg off) s = .ok ((s.range k seg off n).getD []) s := by
  obtain ⟨_, h⟩ := h
  unfold State.range at h ⊢
  cases hx : translateRange k s.user n (s.linear seg off) s with
  | ok addrs t => simp [translateRange_state hx]
  | error e t => rw [hx] at h; simp at h

theorem checkSeg_of_allowed {s : State} {k : AccessKind} {seg : SReg} {off : DWord} {n : Nat}
    (h : Allowed s k seg off n) : checkSeg seg off n k s = .ok () s := by
  simp [checkSeg, h.1]

/-- An allowed read answers the bytes there and changes nothing. -/
theorem memRead_of_allowed {s : State} {seg : SReg} {off : DWord} {n : Nat} (h : Allowed s .read seg off n) :
    memRead seg off n s = .ok (s.loaded seg off n) s := by
  unfold memRead linReadAs
  rw [bind_of_ok (checkSeg_of_allowed h), query_id_bind_run, bind_of_ok (range_of_allowed h)]
  rfl

/-- An allowed write stores the bytes. -/
theorem memWrite_of_allowed {s : State} {seg : SReg} {off : DWord} {n : Nat} (v : DWord)
    (h : Allowed s .write seg off n) : memWrite seg off n v s = .ok () (s.storedAt seg off n v) := by
  unfold memWrite linWriteAs
  rw [bind_of_ok (checkSeg_of_allowed h), query_id_bind_run, bind_of_ok (range_of_allowed h)]
  rfl

theorem checkWrite_of_allowed {s : State} {seg : SReg} {off : DWord} {n : Nat} (h : Allowed s .write seg off n) :
    checkWrite seg off n s = .ok () s := by
  unfold checkWrite
  rw [bind_of_ok (checkSeg_of_allowed h), query_id_bind_run, bind_of_ok (range_of_allowed h)]
  rfl

theorem readLoc_of_readable {s : State} {sz : Size} {l : Loc} (h : Readable s sz l) :
    readLoc sz l s = .ok (s.value sz l) s := by
  cases l with
  | reg8 r => rfl
  | reg r => rfl
  | mem seg off => exact memRead_of_allowed h

theorem writeLoc_of_writable {s : State} {sz : Size} {l : Loc} (v : DWord) (h : Writable s sz l) :
    writeLoc sz v l s = .ok () (s.stored sz l v) := by
  cases l with
  | reg8 r => rfl
  | reg r => rfl
  | mem seg off => exact memWrite_of_allowed v h

theorem checkWriteLoc_of_writable {s : State} {sz : Size} {l : Loc} (h : Writable s sz l) :
    checkWriteLoc sz l s = .ok () s := by
  cases l with
  | reg8 r => rfl
  | reg r => rfl
  | mem seg off => exact checkWrite_of_allowed h

/-- An allowed push (R300). -/
theorem push_of_can {s : State} {w : Width} (v : DWord) (h : CanPush s w) : push w v s = .ok () (s.pushed w v) := by
  unfold push
  rw [query_id_bind_run]
  exact (bind_of_ok (memWrite_of_allowed v h)).trans rfl

/-- An allowed pop (R301). -/
theorem pop_of_can {s : State} {w : Width} (h : CanPop s w) : pop w s = .ok (s.top w) (s.popped w) := by
  unfold pop
  rw [query_id_bind_run]
  exact (bind_of_ok (memRead_of_allowed h)).trans rfl

/-! ### What an access depends on -/

theorem translate_congr {s t : State} (h0 : s.cr0 = t.cr0) (h3 : s.cr3 = t.cr3) (hm : s.mem = t.mem) (k : AccessKind)
    (u : Bool) (lin : DWord) :
    translate k u lin t = match translate k u lin s with
      | .ok a _ => .ok a t
      | .error e _ => .error e t := by
  have hpe : s.pe = t.pe := by simp [State.pe, h0]
  have hpg : s.pg = t.pg := by simp [State.pg, h0]
  unfold translate
  rw [hpe, hpg, h3, hm]
  cases t.pe && t.pg with
  | false => rfl
  | true => cases hx : Config.translate t.cr3 t.mem lin k u <;> simp

theorem translateRange_congr {s t : State} (h0 : s.cr0 = t.cr0) (h3 : s.cr3 = t.cr3) (hm : s.mem = t.mem) (k : AccessKind)
    (u : Bool) (n : Nat) (lin : DWord) :
    translateRange k u n lin t = match translateRange k u n lin s with
      | .ok a _ => .ok a t
      | .error e _ => .error e t := by
  induction n generalizing lin with
  | zero => rfl
  | succ n ih =>
    unfold translateRange
    have h := translate_congr h0 h3 hm k u lin
    have hs := silent_translate k u lin s
    cases hx : translate k u lin s with
    | ok a s' =>
      rw [hx] at h hs
      obtain rfl : s' = s := hs
      rw [bind_of_ok h, bind_of_ok hx]
      have h := ih (lin + 1)
      cases hy : translateRange k u n (lin + 1) s' with
      | ok b s'' => rw [hy] at h; rw [bind_of_ok h, bind_of_ok hy]; rfl
      | error e s'' => rw [hy] at h; rw [bind_of_error h, bind_of_error hy]
    | error e s' => rw [hx] at h; rw [bind_of_error h, bind_of_error hx]

theorem range_congr {s t : State} (h0 : s.cr0 = t.cr0) (h3 : s.cr3 = t.cr3) (hm : s.mem = t.mem) (hc : s.cpl = t.cpl)
    (hg : s.seg = t.seg) (k : AccessKind) (seg : SReg) (off : DWord) (n : Nat) : t.range k seg off n = s.range k seg off n := by
  have hu : t.user = s.user := by simp [State.user, hc]
  have hl : t.linear seg off = s.linear seg off := by simp [State.linear, State.sreg, hg]
  unfold State.range
  rw [hu, hl, translateRange_congr h0 h3 hm]
  cases translateRange k s.user n (s.linear seg off) s <;> rfl

/-- What an access depends on: CR0, CR3, memory, CPL, VM and the segment registers. -/
theorem allowed_congr {s t : State} (h0 : s.cr0 = t.cr0) (h3 : s.cr3 = t.cr3) (hm : s.mem = t.mem) (hc : s.cpl = t.cpl)
    (hg : s.seg = t.seg) (hv : s.flags.vm = t.flags.vm) (k : AccessKind) (seg : SReg) (off : DWord) (n : Nat) :
    Allowed t k seg off n ↔ Allowed s k seg off n := by
  have hmode : t.mode = s.mode := by simp [State.mode, State.pe, h0, hv]
  have hs : t.sreg seg = s.sreg seg := by simp [State.sreg, hg]
  simp only [Allowed, hmode, hs, range_congr h0 h3 hm hc hg]

theorem loaded_congr {s t : State} (h0 : s.cr0 = t.cr0) (h3 : s.cr3 = t.cr3) (hm : s.mem = t.mem) (hc : s.cpl = t.cpl)
    (hg : s.seg = t.seg) (seg : SReg) (off : DWord) (n : Nat) : t.loaded seg off n = s.loaded seg off n := by
  simp only [State.loaded, range_congr h0 h3 hm hc hg, hm]

/-- An access reaches as many physical addresses as it has bytes. -/
theorem translateRange_length {k : AccessKind} {u : Bool} {n : Nat} {lin : DWord} {s t : State} {addrs : List DWord}
    (h : translateRange k u n lin s = .ok addrs t) : addrs.length = n := by
  induction n generalizing lin s addrs with
  | zero => cases h; rfl
  | succ n ih =>
    unfold translateRange at h
    cases hx : translate k u lin s with
    | error e s' => rw [bind_of_error hx] at h; cases h
    | ok a s' =>
      rw [bind_of_ok hx] at h
      cases hy : translateRange k u n (lin + 1) s' with
      | error e s'' => rw [bind_of_error hy] at h; cases h
      | ok b s'' => rw [bind_of_ok hy] at h; cases h; simp [ih hy]

end Sys2Proof.Machine
end

