-- ==== Sys2Proof/Laws/Memory.lean ====
section
/-!
SUPPORT. The laws of memory: reading back what was written, leaving every other byte alone, and keeping the canonical form.
-/
namespace Sys2Proof.Machine

theorem read_write_same (m : List Host.Cell) (a : Nat) (v : Byte) {lo : Nat} (h : Memory.wfFrom lo m = true) :
    Memory.read (Memory.write m a v) a = v := by
  induction m generalizing lo with
  | nil =>
    by_cases hv : v = Memory.unlisted <;> simp [Memory.write, Memory.read, hv]
  | cons c rest ih =>
    obtain ⟨k, w⟩ := c
    simp only [Memory.wfFrom, Bool.and_eq_true, decide_eq_true_eq, bne_iff_ne, ne_eq] at h
    obtain ⟨⟨⟨_, _⟩, _⟩, hr⟩ := h
    have tail : ∀ (l : List Host.Cell) (lo' : Nat), Memory.wfFrom lo' l = true → a < lo' →
        Memory.read l a = Memory.unlisted := by
      intro l
      induction l with
      | nil => intro _ _ _; rfl
      | cons d l ihl =>
        obtain ⟨k', w'⟩ := d
        intro lo' hw hlt
        simp only [Memory.wfFrom, Bool.and_eq_true, decide_eq_true_eq] at hw
        have hne : k' ≠ a := by omega
        simp only [Memory.read, hne, if_false]
        exact ihl (k' + 1) hw.2 (by omega)
    unfold Memory.write
    split
    · have hne : k ≠ a := by omega
      simp only [Memory.read, hne, if_false]
      exact ih hr
    · split
      · next heq =>
        subst heq
        split
        · next hv => rw [hv]; exact tail rest (k + 1) hr (by omega)
        · simp [Memory.read]
      · next hlt hne =>
        split
        · next hv =>
          simp only [Memory.read, hne, if_false]
          rw [hv]
          exact tail rest (k + 1) hr (by omega)
        · simp [Memory.read]

theorem read_write_other (m : List Host.Cell) (a b : Nat) (v : Byte) (h : b ≠ a) :
    Memory.read (Memory.write m a v) b = Memory.read m b := by
  have h' : a ≠ b := fun e => h e.symm
  induction m with
  | nil => by_cases hv : v = Memory.unlisted <;> simp [Memory.write, Memory.read, hv, h']
  | cons c rest ih =>
    obtain ⟨k, w⟩ := c
    unfold Memory.write
    split
    · simp only [Memory.read, ih]
    · split
      · next heq =>
        subst heq
        split <;> simp [Memory.read, h']
      · split <;> simp [Memory.read, h']

/-- A write keeps the canonical form, and a lower bound that the address respects. -/
theorem write_wfFrom (m : List Host.Cell) (a : Nat) (v : Byte) {lo : Nat} (h : Memory.wfFrom lo m = true) (hlo : lo ≤ a)
    (ha : a < 4294967296) : Memory.wfFrom lo (Memory.write m a v) = true := by
  induction m generalizing lo with
  | nil => by_cases hv : v = Memory.unlisted <;> simp [Memory.write, Memory.wfFrom, hv, hlo, ha]
  | cons c rest ih =>
    obtain ⟨k, w⟩ := c
    simp only [Memory.wfFrom, Bool.and_eq_true, decide_eq_true_eq, bne_iff_ne, ne_eq] at h
    obtain ⟨⟨⟨h1, h2⟩, h3⟩, hr⟩ := h
    unfold Memory.write
    have weaken : ∀ (l : List Host.Cell) (x y : Nat), x ≤ y → Memory.wfFrom y l = true → Memory.wfFrom x l = true := by
      intro l x y hxy hl
      cases l with
      | nil => rfl
      | cons d l =>
        obtain ⟨k', w'⟩ := d
        simp only [Memory.wfFrom, Bool.and_eq_true, decide_eq_true_eq] at hl ⊢
        exact ⟨⟨⟨by omega, hl.1.1.2⟩, hl.1.2⟩, hl.2⟩
    split
    · simp only [Memory.wfFrom, Bool.and_eq_true, decide_eq_true_eq, bne_iff_ne, ne_eq]
      exact ⟨⟨⟨h1, h2⟩, h3⟩, ih hr (by omega)⟩
    · split
      · next heq =>
        subst heq
        split
        · exact weaken rest lo (k + 1) (by omega) hr
        · next hv =>
          simp only [Memory.wfFrom, Bool.and_eq_true, decide_eq_true_eq, bne_iff_ne, ne_eq]
          exact ⟨⟨⟨h1, h2⟩, hv⟩, hr⟩
      · split
        · simp only [Memory.wfFrom, Bool.and_eq_true, decide_eq_true_eq, bne_iff_ne, ne_eq]
          exact ⟨⟨⟨h1, h2⟩, h3⟩, hr⟩
        · next hv =>
          simp only [Memory.wfFrom, Bool.and_eq_true, decide_eq_true_eq, bne_iff_ne, ne_eq]
          exact ⟨⟨⟨hlo, ha⟩, hv⟩, ⟨⟨by omega, h2⟩, h3⟩, hr⟩

/-- A write keeps the canonical form. -/
theorem write_wf (m : List Host.Cell) (a : DWord) (v : Byte) (h : Memory.wf m = true) :
    Memory.wf (Memory.write m a.toNat v) = true :=
  write_wfFrom m a.toNat v h (Nat.zero_le _) a.isLt

/-- A store of several bytes keeps the canonical form. -/
theorem writeAll_wf (m : List Host.Cell) (addrs : List DWord) (v : DWord) (h : Memory.wf m = true) :
    Memory.wf (Memory.writeAll m addrs v) = true := by
  induction addrs generalizing m v with
  | nil => exact h
  | cons a rest ih => exact ih _ _ (write_wf m a _ h)

/-- A store changes no byte outside the addresses it is given. -/
theorem read_writeAll_other (m : List Host.Cell) (addrs : List DWord) (v : DWord) (b : Nat)
    (h : ∀ a ∈ addrs, b ≠ a.toNat) : Memory.read (Memory.writeAll m addrs v) b = Memory.read m b := by
  induction addrs generalizing m v with
  | nil => rfl
  | cons a rest ih =>
    rw [Memory.writeAll, ih _ _ fun x hx => h x (List.mem_cons_of_mem _ hx),
      read_write_other _ _ _ _ (h a List.mem_cons_self)]

end Sys2Proof.Machine
end

