-- ==== Sys2Proof/Laws/PerInstr.lean ====
section
/-!
SUPPORT. What is said of every constructor of `Instr`, one lemma for each: an encoding has between 1 and 11 bytes, so that an
instruction stays within the 15 bytes of 30_encoding.md R140 with one prefix of each of the four kinds before it.
-/
namespace Sys2Proof.Laws

theorem word_bytes_le (v : Word) : (wordBytes v).length ≤ 4 := by simp [wordBytes]

theorem width_bytes_le (w : Width) (v : DWord) : (w.bytesOf v).length ≤ 4 := by
  cases w <;> simp [Width.bytesOf, wordBytes, dwordBytes]

theorem imm_bytes_le (w : Width) (imm : Imm) : (imm.bytes w).length ≤ 4 := by
  cases imm with
  | short v => simp [Imm.bytes]
  | full v => exact width_bytes_le w v

theorem count_bytes_le (c : Count) : c.bytes.length ≤ 4 := by cases c <;> simp [Count.bytes]

theorem le_four_one (b : Byte) : [b].length ≤ 4 := by simp

theorem le_six_of_le_four {n : Nat} (h : n ≤ 4) : n ≤ 6 := by omega

theorem ea_bytes_le (m : EA) (reg : BitVec 3) : (m.bytes reg).length ≤ 6 := by
  unfold EA.bytes
  (repeat' split) <;> simp [wordBytes, dwordBytes]

theorem rm_bytes_le {ρ : Type} (rm : RM ρ) (code : ρ → BitVec 3) (reg : BitVec 3) : (rm.bytes code reg).length ≤ 6 := by
  cases rm with
  | reg r => simp [RM.bytes]
  | mem m => exact ea_bytes_le m reg

/-- A list of 1 to 11 bytes. -/
def Within (bs : List Byte) : Prop := 1 ≤ bs.length ∧ bs.length ≤ 11

theorem within_list1 (a : Byte) : Within [a] := by simp [Within]

theorem within_list2 (a b : Byte) : Within [a, b] := by simp [Within]

theorem within_list3 (a b c : Byte) : Within [a, b, c] := by simp [Within]

theorem within_two_app (a b : Byte) {t : List Byte} (h : t.length ≤ 4) : Within ([a, b] ++ t) := by
  simp only [Within, List.length_append, List.length_cons, List.length_nil]
  omega

theorem within_cons1 (a : Byte) {x : List Byte} (h : x.length ≤ 6) : Within (a :: x) := by
  simp only [Within, List.length_cons]
  omega

theorem within_cons2 (a b : Byte) {x : List Byte} (h : x.length ≤ 6) : Within (a :: b :: x) := by
  simp only [Within, List.length_cons]
  omega

theorem within_cons1_app (a : Byte) {x t : List Byte} (h : x.length ≤ 6) (ht : t.length ≤ 4) : Within (a :: x ++ t) := by
  simp only [Within, List.length_append, List.length_cons]
  omega

theorem within_cons2_one (a b : Byte) {x : List Byte} (h : x.length ≤ 6) {c : Byte} : Within (a :: b :: x ++ [c]) := by
  simp only [Within, List.length_append, List.length_cons, List.length_nil]
  omega

/-- Whatever the size attributes, the instruction encodes to 1 to 11 bytes. -/
def EncodeLength.Statement (i : Instr) : Prop := ∀ a : Attrs, Within (encode a i)

theorem EncodeLength.addRm8R8 (rm : RM Reg8) (r : Reg8) : EncodeLength.Statement (.addRm8R8 rm r) := fun _ =>
  within_cons1 _ (rm_bytes_le _ _ _)

theorem EncodeLength.addRmvRv (rm : RM Reg) (r : Reg) : EncodeLength.Statement (.addRmvRv rm r) := fun _ =>
  within_cons1 _ (rm_bytes_le _ _ _)

theorem EncodeLength.addR8Rm8 (r : Reg8) (rm : RM Reg8) : EncodeLength.Statement (.addR8Rm8 r rm) := fun _ =>
  within_cons1 _ (rm_bytes_le _ _ _)

theorem EncodeLength.addRvRmv (r : Reg) (rm : RM Reg) : EncodeLength.Statement (.addRvRmv r rm) := fun _ =>
  within_cons1 _ (rm_bytes_le _ _ _)

theorem EncodeLength.addAlImm8 (imm : Byte) : EncodeLength.Statement (.addAlImm8 imm) := fun _ =>
  within_list2 _ _

theorem EncodeLength.addEaxImmv (imm : DWord) : EncodeLength.Statement (.addEaxImmv imm) := fun _ =>
  within_cons1 _ (le_six_of_le_four (width_bytes_le _ _))

theorem EncodeLength.addRm8Imm8 (rm : RM Reg8) (imm : Byte) : EncodeLength.Statement (.addRm8Imm8 rm imm) := fun _ =>
  within_cons1_app _ (rm_bytes_le _ _ _) (le_four_one _)

theorem EncodeLength.addRmvImm (rm : RM Reg) (imm : Imm) : EncodeLength.Statement (.addRmvImm rm imm) := fun _ =>
  within_cons1_app _ (rm_bytes_le _ _ _) (imm_bytes_le _ _)

theorem EncodeLength.orRm8R8 (rm : RM Reg8) (r : Reg8) : EncodeLength.Statement (.orRm8R8 rm r) := fun _ =>
  within_cons1 _ (rm_bytes_le _ _ _)

theorem EncodeLength.orRmvRv (rm : RM Reg) (r : Reg) : EncodeLength.Statement (.orRmvRv rm r) := fun _ =>
  within_cons1 _ (rm_bytes_le _ _ _)

theorem EncodeLength.orR8Rm8 (r : Reg8) (rm : RM Reg8) : EncodeLength.Statement (.orR8Rm8 r rm) := fun _ =>
  within_cons1 _ (rm_bytes_le _ _ _)

theorem EncodeLength.orRvRmv (r : Reg) (rm : RM Reg) : EncodeLength.Statement (.orRvRmv r rm) := fun _ =>
  within_cons1 _ (rm_bytes_le _ _ _)

theorem EncodeLength.orAlImm8 (imm : Byte) : EncodeLength.Statement (.orAlImm8 imm) := fun _ =>
  within_list2 _ _

theorem EncodeLength.orEaxImmv (imm : DWord) : EncodeLength.Statement (.orEaxImmv imm) := fun _ =>
  within_cons1 _ (le_six_of_le_four (width_bytes_le _ _))

theorem EncodeLength.orRm8Imm8 (rm : RM Reg8) (imm : Byte) : EncodeLength.Statement (.orRm8Imm8 rm imm) := fun _ =>
  within_cons1_app _ (rm_bytes_le _ _ _) (le_four_one _)

theorem EncodeLength.orRmvImm (rm : RM Reg) (imm : Imm) : EncodeLength.Statement (.orRmvImm rm imm) := fun _ =>
  within_cons1_app _ (rm_bytes_le _ _ _) (imm_bytes_le _ _)

theorem EncodeLength.adcRm8R8 (rm : RM Reg8) (r : Reg8) : EncodeLength.Statement (.adcRm8R8 rm r) := fun _ =>
  within_cons1 _ (rm_bytes_le _ _ _)

theorem EncodeLength.adcRmvRv (rm : RM Reg) (r : Reg) : EncodeLength.Statement (.adcRmvRv rm r) := fun _ =>
  within_cons1 _ (rm_bytes_le _ _ _)

theorem EncodeLength.adcR8Rm8 (r : Reg8) (rm : RM Reg8) : EncodeLength.Statement (.adcR8Rm8 r rm) := fun _ =>
  within_cons1 _ (rm_bytes_le _ _ _)

theorem EncodeLength.adcRvRmv (r : Reg) (rm : RM Reg) : EncodeLength.Statement (.adcRvRmv r rm) := fun _ =>
  within_cons1 _ (rm_bytes_le _ _ _)

theorem EncodeLength.adcAlImm8 (imm : Byte) : EncodeLength.Statement (.adcAlImm8 imm) := fun _ =>
  within_list2 _ _

theorem EncodeLength.adcEaxImmv (imm : DWord) : EncodeLength.Statement (.adcEaxImmv imm) := fun _ =>
  within_cons1 _ (le_six_of_le_four (width_bytes_le _ _))

theorem EncodeLength.adcRm8Imm8 (rm : RM Reg8) (imm : Byte) : EncodeLength.Statement (.adcRm8Imm8 rm imm) := fun _ =>
  within_cons1_app _ (rm_bytes_le _ _ _) (le_four_one _)

theorem EncodeLength.adcRmvImm (rm : RM Reg) (imm : Imm) : EncodeLength.Statement (.adcRmvImm rm imm) := fun _ =>
  within_cons1_app _ (rm_bytes_le _ _ _) (imm_bytes_le _ _)

theorem EncodeLength.sbbRm8R8 (rm : RM Reg8) (r : Reg8) : EncodeLength.Statement (.sbbRm8R8 rm r) := fun _ =>
  within_cons1 _ (rm_bytes_le _ _ _)

theorem EncodeLength.sbbRmvRv (rm : RM Reg) (r : Reg) : EncodeLength.Statement (.sbbRmvRv rm r) := fun _ =>
  within_cons1 _ (rm_bytes_le _ _ _)

theorem EncodeLength.sbbR8Rm8 (r : Reg8) (rm : RM Reg8) : EncodeLength.Statement (.sbbR8Rm8 r rm) := fun _ =>
  within_cons1 _ (rm_bytes_le _ _ _)

theorem EncodeLength.sbbRvRmv (r : Reg) (rm : RM Reg) : EncodeLength.Statement (.sbbRvRmv r rm) := fun _ =>
  within_cons1 _ (rm_bytes_le _ _ _)

theorem EncodeLength.sbbAlImm8 (imm : Byte) : EncodeLength.Statement (.sbbAlImm8 imm) := fun _ =>
  within_list2 _ _

theorem EncodeLength.sbbEaxImmv (imm : DWord) : EncodeLength.Statement (.sbbEaxImmv imm) := fun _ =>
  within_cons1 _ (le_six_of_le_four (width_bytes_le _ _))

theorem EncodeLength.sbbRm8Imm8 (rm : RM Reg8) (imm : Byte) : EncodeLength.Statement (.sbbRm8Imm8 rm imm) := fun _ =>
  within_cons1_app _ (rm_bytes_le _ _ _) (le_four_one _)

theorem EncodeLength.sbbRmvImm (rm : RM Reg) (imm : Imm) : EncodeLength.Statement (.sbbRmvImm rm imm) := fun _ =>
  within_cons1_app _ (rm_bytes_le _ _ _) (imm_bytes_le _ _)

theorem EncodeLength.andRm8R8 (rm : RM Reg8) (r : Reg8) : EncodeLength.Statement (.andRm8R8 rm r) := fun _ =>
  within_cons1 _ (rm_bytes_le _ _ _)

theorem EncodeLength.andRmvRv (rm : RM Reg) (r : Reg) : EncodeLength.Statement (.andRmvRv rm r) := fun _ =>
  within_cons1 _ (rm_bytes_le _ _ _)

theorem EncodeLength.andR8Rm8 (r : Reg8) (rm : RM Reg8) : EncodeLength.Statement (.andR8Rm8 r rm) := fun _ =>
  within_cons1 _ (rm_bytes_le _ _ _)

theorem EncodeLength.andRvRmv (r : Reg) (rm : RM Reg) : EncodeLength.Statement (.andRvRmv r rm) := fun _ =>
  within_cons1 _ (rm_bytes_le _ _ _)

theorem EncodeLength.andAlImm8 (imm : Byte) : EncodeLength.Statement (.andAlImm8 imm) := fun _ =>
  within_list2 _ _

theorem EncodeLength.andEaxImmv (imm : DWord) : EncodeLength.Statement (.andEaxImmv imm) := fun _ =>
  within_cons1 _ (le_six_of_le_four (width_bytes_le _ _))

theorem EncodeLength.andRm8Imm8 (rm : RM Reg8) (imm : Byte) : EncodeLength.Statement (.andRm8Imm8 rm imm) := fun _ =>
  within_cons1_app _ (rm_bytes_le _ _ _) (le_four_one _)

theorem EncodeLength.andRmvImm (rm : RM Reg) (imm : Imm) : EncodeLength.Statement (.andRmvImm rm imm) := fun _ =>
  within_cons1_app _ (rm_bytes_le _ _ _) (imm_bytes_le _ _)

theorem EncodeLength.subRm8R8 (rm : RM Reg8) (r : Reg8) : EncodeLength.Statement (.subRm8R8 rm r) := fun _ =>
  within_cons1 _ (rm_bytes_le _ _ _)

theorem EncodeLength.subRmvRv (rm : RM Reg) (r : Reg) : EncodeLength.Statement (.subRmvRv rm r) := fun _ =>
  within_cons1 _ (rm_bytes_le _ _ _)

theorem EncodeLength.subR8Rm8 (r : Reg8) (rm : RM Reg8) : EncodeLength.Statement (.subR8Rm8 r rm) := fun _ =>
  within_cons1 _ (rm_bytes_le _ _ _)

theorem EncodeLength.subRvRmv (r : Reg) (rm : RM Reg) : EncodeLength.Statement (.subRvRmv r rm) := fun _ =>
  within_cons1 _ (rm_bytes_le _ _ _)

theorem EncodeLength.subAlImm8 (imm : Byte) : EncodeLength.Statement (.subAlImm8 imm) := fun _ =>
  within_list2 _ _

theorem EncodeLength.subEaxImmv (imm : DWord) : EncodeLength.Statement (.subEaxImmv imm) := fun _ =>
  within_cons1 _ (le_six_of_le_four (width_bytes_le _ _))

theorem EncodeLength.subRm8Imm8 (rm : RM Reg8) (imm : Byte) : EncodeLength.Statement (.subRm8Imm8 rm imm) := fun _ =>
  within_cons1_app _ (rm_bytes_le _ _ _) (le_four_one _)

theorem EncodeLength.subRmvImm (rm : RM Reg) (imm : Imm) : EncodeLength.Statement (.subRmvImm rm imm) := fun _ =>
  within_cons1_app _ (rm_bytes_le _ _ _) (imm_bytes_le _ _)

theorem EncodeLength.xorRm8R8 (rm : RM Reg8) (r : Reg8) : EncodeLength.Statement (.xorRm8R8 rm r) := fun _ =>
  within_cons1 _ (rm_bytes_le _ _ _)

theorem EncodeLength.xorRmvRv (rm : RM Reg) (r : Reg) : EncodeLength.Statement (.xorRmvRv rm r) := fun _ =>
  within_cons1 _ (rm_bytes_le _ _ _)

theorem EncodeLength.xorR8Rm8 (r : Reg8) (rm : RM Reg8) : EncodeLength.Statement (.xorR8Rm8 r rm) := fun _ =>
  within_cons1 _ (rm_bytes_le _ _ _)

theorem EncodeLength.xorRvRmv (r : Reg) (rm : RM Reg) : EncodeLength.Statement (.xorRvRmv r rm) := fun _ =>
  within_cons1 _ (rm_bytes_le _ _ _)

theorem EncodeLength.xorAlImm8 (imm : Byte) : EncodeLength.Statement (.xorAlImm8 imm) := fun _ =>
  within_list2 _ _

theorem EncodeLength.xorEaxImmv (imm : DWord) : EncodeLength.Statement (.xorEaxImmv imm) := fun _ =>
  within_cons1 _ (le_six_of_le_four (width_bytes_le _ _))

theorem EncodeLength.xorRm8Imm8 (rm : RM Reg8) (imm : Byte) : EncodeLength.Statement (.xorRm8Imm8 rm imm) := fun _ =>
  within_cons1_app _ (rm_bytes_le _ _ _) (le_four_one _)

theorem EncodeLength.xorRmvImm (rm : RM Reg) (imm : Imm) : EncodeLength.Statement (.xorRmvImm rm imm) := fun _ =>
  within_cons1_app _ (rm_bytes_le _ _ _) (imm_bytes_le _ _)

theorem EncodeLength.cmpRm8R8 (rm : RM Reg8) (r : Reg8) : EncodeLength.Statement (.cmpRm8R8 rm r) := fun _ =>
  within_cons1 _ (rm_bytes_le _ _ _)

theorem EncodeLength.cmpRmvRv (rm : RM Reg) (r : Reg) : EncodeLength.Statement (.cmpRmvRv rm r) := fun _ =>
  within_cons1 _ (rm_bytes_le _ _ _)

theorem EncodeLength.cmpR8Rm8 (r : Reg8) (rm : RM Reg8) : EncodeLength.Statement (.cmpR8Rm8 r rm) := fun _ =>
  within_cons1 _ (rm_bytes_le _ _ _)

theorem EncodeLength.cmpRvRmv (r : Reg) (rm : RM Reg) : EncodeLength.Statement (.cmpRvRmv r rm) := fun _ =>
  within_cons1 _ (rm_bytes_le _ _ _)

theorem EncodeLength.cmpAlImm8 (imm : Byte) : EncodeLength.Statement (.cmpAlImm8 imm) := fun _ =>
  within_list2 _ _

theorem EncodeLength.cmpEaxImmv (imm : DWord) : EncodeLength.Statement (.cmpEaxImmv imm) := fun _ =>
  within_cons1 _ (le_six_of_le_four (width_bytes_le _ _))

theorem EncodeLength.cmpRm8Imm8 (rm : RM Reg8) (imm : Byte) : EncodeLength.Statement (.cmpRm8Imm8 rm imm) := fun _ =>
  within_cons1_app _ (rm_bytes_le _ _ _) (le_four_one _)

theorem EncodeLength.cmpRmvImm (rm : RM Reg) (imm : Imm) : EncodeLength.Statement (.cmpRmvImm rm imm) := fun _ =>
  within_cons1_app _ (rm_bytes_le _ _ _) (imm_bytes_le _ _)

theorem EncodeLength.incRv (r : Reg) : EncodeLength.Statement (.incRv r) := fun _ =>
  within_list1 _

theorem EncodeLength.decRv (r : Reg) : EncodeLength.Statement (.decRv r) := fun _ =>
  within_list1 _

theorem EncodeLength.pushRv (r : Reg) : EncodeLength.Statement (.pushRv r) := fun _ =>
  within_list1 _

theorem EncodeLength.popRv (r : Reg) : EncodeLength.Statement (.popRv r) := fun _ =>
  within_list1 _

theorem EncodeLength.bound (r : Reg) (m : EA) : EncodeLength.Statement (.bound r m) := fun _ =>
  within_cons1 _ (ea_bytes_le _ _)

theorem EncodeLength.arpl (rm : RM Reg) (r : Reg) : EncodeLength.Statement (.arpl rm r) := fun _ =>
  within_cons1 _ (rm_bytes_le _ _ _)

theorem EncodeLength.pushImmv (imm : DWord) : EncodeLength.Statement (.pushImmv imm) := fun _ =>
  within_cons1 _ (le_six_of_le_four (width_bytes_le _ _))

theorem EncodeLength.imulRvRmvImmv (r : Reg) (rm : RM Reg) (imm : DWord) : EncodeLength.Statement (.imulRvRmvImmv r rm imm) := fun _ =>
  within_cons1_app _ (rm_bytes_le _ _ _) (width_bytes_le _ _)

theorem EncodeLength.pushImm8 (imm : Byte) : EncodeLength.Statement (.pushImm8 imm) := fun _ =>
  within_list2 _ _

theorem EncodeLength.imulRvRmvImm8 (r : Reg) (rm : RM Reg) (imm : Byte) : EncodeLength.Statement (.imulRvRmvImm8 r rm imm) := fun _ =>
  within_cons1_app _ (rm_bytes_le _ _ _) (le_four_one _)

theorem EncodeLength.jo8 (rel : Byte) : EncodeLength.Statement (.jo8 rel) := fun _ =>
  within_list2 _ _

theorem EncodeLength.jno8 (rel : Byte) : EncodeLength.Statement (.jno8 rel) := fun _ =>
  within_list2 _ _

theorem EncodeLength.jb8 (rel : Byte) : EncodeLength.Statement (.jb8 rel) := fun _ =>
  within_list2 _ _

theorem EncodeLength.jae8 (rel : Byte) : EncodeLength.Statement (.jae8 rel) := fun _ =>
  within_list2 _ _

theorem EncodeLength.je8 (rel : Byte) : EncodeLength.Statement (.je8 rel) := fun _ =>
  within_list2 _ _

theorem EncodeLength.jne8 (rel : Byte) : EncodeLength.Statement (.jne8 rel) := fun _ =>
  within_list2 _ _

theorem EncodeLength.jbe8 (rel : Byte) : EncodeLength.Statement (.jbe8 rel) := fun _ =>
  within_list2 _ _

theorem EncodeLength.ja8 (rel : Byte) : EncodeLength.Statement (.ja8 rel) := fun _ =>
  within_list2 _ _

theorem EncodeLength.js8 (rel : Byte) : EncodeLength.Statement (.js8 rel) := fun _ =>
  within_list2 _ _

theorem EncodeLength.jns8 (rel : Byte) : EncodeLength.Statement (.jns8 rel) := fun _ =>
  within_list2 _ _

theorem EncodeLength.jp8 (rel : Byte) : EncodeLength.Statement (.jp8 rel) := fun _ =>
  within_list2 _ _

theorem EncodeLength.jnp8 (rel : Byte) : EncodeLength.Statement (.jnp8 rel) := fun _ =>
  within_list2 _ _

theorem EncodeLength.jl8 (rel : Byte) : EncodeLength.Statement (.jl8 rel) := fun _ =>
  within_list2 _ _

theorem EncodeLength.jge8 (rel : Byte) : EncodeLength.Statement (.jge8 rel) := fun _ =>
  within_list2 _ _

theorem EncodeLength.jle8 (rel : Byte) : EncodeLength.Statement (.jle8 rel) := fun _ =>
  within_list2 _ _

theorem EncodeLength.jg8 (rel : Byte) : EncodeLength.Statement (.jg8 rel) := fun _ =>
  within_list2 _ _

theorem EncodeLength.testRm8R8 (rm : RM Reg8) (r : Reg8) : EncodeLength.Statement (.testRm8R8 rm r) := fun _ =>
  within_cons1 _ (rm_bytes_le _ _ _)

theorem EncodeLength.testRmvRv (rm : RM Reg) (r : Reg) : EncodeLength.Statement (.testRmvRv rm r) := fun _ =>
  within_cons1 _ (rm_bytes_le _ _ _)

theorem EncodeLength.xchgRm8R8 (rm : RM Reg8) (r : Reg8) : EncodeLength.Statement (.xchgRm8R8 rm r) := fun _ =>
  within_cons1 _ (rm_bytes_le _ _ _)

theorem EncodeLength.xchgRmvRv (rm : RM Reg) (r : Reg) : EncodeLength.Statement (.xchgRmvRv rm r) := fun _ =>
  within_cons1 _ (rm_bytes_le _ _ _)

theorem EncodeLength.movRm8R8 (rm : RM Reg8) (r : Reg8) : EncodeLength.Statement (.movRm8R8 rm r) := fun _ =>
  within_cons1 _ (rm_bytes_le _ _ _)

theorem EncodeLength.movRmvRv (rm : RM Reg) (r : Reg) : EncodeLength.Statement (.movRmvRv rm r) := fun _ =>
  within_cons1 _ (rm_bytes_le _ _ _)

theorem EncodeLength.movR8Rm8 (r : Reg8) (rm : RM Reg8) : EncodeLength.Statement (.movR8Rm8 r rm) := fun _ =>
  within_cons1 _ (rm_bytes_le _ _ _)

theorem EncodeLength.movRvRmv (r : Reg) (rm : RM Reg) : EncodeLength.Statement (.movRvRmv r rm) := fun _ =>
  within_cons1 _ (rm_bytes_le _ _ _)

theorem EncodeLength.movRmvSreg (rm : RM Reg) (sr : SReg) : EncodeLength.Statement (.movRmvSreg rm sr) := fun _ =>
  within_cons1 _ (rm_bytes_le _ _ _)

theorem EncodeLength.lea (r : Reg) (m : EA) : EncodeLength.Statement (.lea r m) := fun _ =>
  within_cons1 _ (ea_bytes_le _ _)

theorem EncodeLength.movSregRm16 (sr : SReg) (rm : RM Reg) : EncodeLength.Statement (.movSregRm16 sr rm) := fun _ =>
  within_cons1 _ (rm_bytes_le _ _ _)

theorem EncodeLength.popRmv (rm : RM Reg) : EncodeLength.Statement (.popRmv rm) := fun _ =>
  within_cons1 _ (rm_bytes_le _ _ _)

theorem EncodeLength.xchgEaxRv (r : Reg) : EncodeLength.Statement (.xchgEaxRv r) := fun _ =>
  within_list1 _

theorem EncodeLength.callFarPtr (off : DWord) (sel : Word) : EncodeLength.Statement (.callFarPtr off sel) := fun _ =>
  within_cons1_app _ (le_six_of_le_four (width_bytes_le _ _)) (word_bytes_le _)

theorem EncodeLength.movAlMoffs (off : DWord) : EncodeLength.Statement (.movAlMoffs off) := fun _ =>
  within_cons1 _ (le_six_of_le_four (width_bytes_le _ _))

theorem EncodeLength.movEaxMoffs (off : DWord) : EncodeLength.Statement (.movEaxMoffs off) := fun _ =>
  within_cons1 _ (le_six_of_le_four (width_bytes_le _ _))

theorem EncodeLength.movMoffsAl (off : DWord) : EncodeLength.Statement (.movMoffsAl off) := fun _ =>
  within_cons1 _ (le_six_of_le_four (width_bytes_le _ _))

theorem EncodeLength.movMoffsEax (off : DWord) : EncodeLength.Statement (.movMoffsEax off) := fun _ =>
  within_cons1 _ (le_six_of_le_four (width_bytes_le _ _))

theorem EncodeLength.testAlImm8 (imm : Byte) : EncodeLength.Statement (.testAlImm8 imm) := fun _ =>
  within_list2 _ _

theorem EncodeLength.testEaxImmv (imm : DWord) : EncodeLength.Statement (.testEaxImmv imm) := fun _ =>
  within_cons1 _ (le_six_of_le_four (width_bytes_le _ _))

theorem EncodeLength.movR8Imm8 (r : Reg8) (imm : Byte) : EncodeLength.Statement (.movR8Imm8 r imm) := fun _ =>
  within_list2 _ _

theorem EncodeLength.movRvImmv (r : Reg) (imm : DWord) : EncodeLength.Statement (.movRvImmv r imm) := fun _ =>
  within_cons1 _ (le_six_of_le_four (width_bytes_le _ _))

theorem EncodeLength.rolRm8 (rm : RM Reg8) (count : Count) : EncodeLength.Statement (.rolRm8 rm count) := fun _ =>
  within_cons1_app _ (rm_bytes_le _ _ _) (count_bytes_le _)

theorem EncodeLength.rolRmv (rm : RM Reg) (count : Count) : EncodeLength.Statement (.rolRmv rm count) := fun _ =>
  within_cons1_app _ (rm_bytes_le _ _ _) (count_bytes_le _)

theorem EncodeLength.rorRm8 (rm : RM Reg8) (count : Count) : EncodeLength.Statement (.rorRm8 rm count) := fun _ =>
  within_cons1_app _ (rm_bytes_le _ _ _) (count_bytes_le _)

theorem EncodeLength.rorRmv (rm : RM Reg) (count : Count) : EncodeLength.Statement (.rorRmv rm count) := fun _ =>
  within_cons1_app _ (rm_bytes_le _ _ _) (count_bytes_le _)

theorem EncodeLength.rclRm8 (rm : RM Reg8) (count : Count) : EncodeLength.Statement (.rclRm8 rm count) := fun _ =>
  within_cons1_app _ (rm_bytes_le _ _ _) (count_bytes_le _)

theorem EncodeLength.rclRmv (rm : RM Reg) (count : Count) : EncodeLength.Statement (.rclRmv rm count) := fun _ =>
  within_cons1_app _ (rm_bytes_le _ _ _) (count_bytes_le _)

theorem EncodeLength.rcrRm8 (rm : RM Reg8) (count : Count) : EncodeLength.Statement (.rcrRm8 rm count) := fun _ =>
  within_cons1_app _ (rm_bytes_le _ _ _) (count_bytes_le _)

theorem EncodeLength.rcrRmv (rm : RM Reg) (count : Count) : EncodeLength.Statement (.rcrRmv rm count) := fun _ =>
  within_cons1_app _ (rm_bytes_le _ _ _) (count_bytes_le _)

theorem EncodeLength.salRm8 (rm : RM Reg8) (count : Count) : EncodeLength.Statement (.salRm8 rm count) := fun _ =>
  within_cons1_app _ (rm_bytes_le _ _ _) (count_bytes_le _)

theorem EncodeLength.salRmv (rm : RM Reg) (count : Count) : EncodeLength.Statement (.salRmv rm count) := fun _ =>
  within_cons1_app _ (rm_bytes_le _ _ _) (count_bytes_le _)

theorem EncodeLength.shrRm8 (rm : RM Reg8) (count : Count) : EncodeLength.Statement (.shrRm8 rm count) := fun _ =>
  within_cons1_app _ (rm_bytes_le _ _ _) (count_bytes_le _)

theorem EncodeLength.shrRmv (rm : RM Reg) (count : Count) : EncodeLength.Statement (.shrRmv rm count) := fun _ =>
  within_cons1_app _ (rm_bytes_le _ _ _) (count_bytes_le _)

theorem EncodeLength.sarRm8 (rm : RM Reg8) (count : Count) : EncodeLength.Statement (.sarRm8 rm count) := fun _ =>
  within_cons1_app _ (rm_bytes_le _ _ _) (count_bytes_le _)

theorem EncodeLength.sarRmv (rm : RM Reg) (count : Count) : EncodeLength.Statement (.sarRmv rm count) := fun _ =>
  within_cons1_app _ (rm_bytes_le _ _ _) (count_bytes_le _)

theorem EncodeLength.retNearImm (n : Word) : EncodeLength.Statement (.retNearImm n) := fun _ =>
  within_cons1 _ (le_six_of_le_four (word_bytes_le _))

theorem EncodeLength.les (r : Reg) (m : EA) : EncodeLength.Statement (.les r m) := fun _ =>
  within_cons1 _ (ea_bytes_le _ _)

theorem EncodeLength.lds (r : Reg) (m : EA) : EncodeLength.Statement (.lds r m) := fun _ =>
  within_cons1 _ (ea_bytes_le _ _)

theorem EncodeLength.movRm8Imm8 (rm : RM Reg8) (imm : Byte) : EncodeLength.Statement (.movRm8Imm8 rm imm) := fun _ =>
  within_cons1_app _ (rm_bytes_le _ _ _) (le_four_one _)

theorem EncodeLength.movRmvImmv (rm : RM Reg) (imm : DWord) : EncodeLength.Statement (.movRmvImmv rm imm) := fun _ =>
  within_cons1_app _ (rm_bytes_le _ _ _) (width_bytes_le _ _)

theorem EncodeLength.enter (n : Word) (level : Byte) : EncodeLength.Statement (.enter n level) := fun _ =>
  within_cons1_app _ (le_six_of_le_four (word_bytes_le _)) (le_four_one _)

theorem EncodeLength.retFarImm (n : Word) : EncodeLength.Statement (.retFarImm n) := fun _ =>
  within_cons1 _ (le_six_of_le_four (word_bytes_le _))

theorem EncodeLength.int (n : Byte) : EncodeLength.Statement (.int n) := fun _ =>
  within_list2 _ _

theorem EncodeLength.esc (op : BitVec 3) (ext : BitVec 3) (rm : RM Reg) : EncodeLength.Statement (.esc op ext rm) := fun _ =>
  within_cons1 _ (rm_bytes_le _ _ _)

theorem EncodeLength.loopne (rel : Byte) : EncodeLength.Statement (.loopne rel) := fun _ =>
  within_list2 _ _

theorem EncodeLength.loope (rel : Byte) : EncodeLength.Statement (.loope rel) := fun _ =>
  within_list2 _ _

theorem EncodeLength.loop (rel : Byte) : EncodeLength.Statement (.loop rel) := fun _ =>
  within_list2 _ _

theorem EncodeLength.jcxz (rel : Byte) : EncodeLength.Statement (.jcxz rel) := fun _ =>
  within_list2 _ _

theorem EncodeLength.inAlImm8 (port : Byte) : EncodeLength.Statement (.inAlImm8 port) := fun _ =>
  within_list2 _ _

theorem EncodeLength.inEaxImm8 (port : Byte) : EncodeLength.Statement (.inEaxImm8 port) := fun _ =>
  within_list2 _ _

theorem EncodeLength.outImm8Al (port : Byte) : EncodeLength.Statement (.outImm8Al port) := fun _ =>
  within_list2 _ _

theorem EncodeLength.outImm8Eax (port : Byte) : EncodeLength.Statement (.outImm8Eax port) := fun _ =>
  within_list2 _ _

theorem EncodeLength.callRelv (rel : DWord) : EncodeLength.Statement (.callRelv rel) := fun _ =>
  within_cons1 _ (le_six_of_le_four (width_bytes_le _ _))

theorem EncodeLength.jmpRelv (rel : DWord) : EncodeLength.Statement (.jmpRelv rel) := fun _ =>
  within_cons1 _ (le_six_of_le_four (width_bytes_le _ _))

theorem EncodeLength.jmpFarPtr (off : DWord) (sel : Word) : EncodeLength.Statement (.jmpFarPtr off sel) := fun _ =>
  within_cons1_app _ (le_six_of_le_four (width_bytes_le _ _)) (word_bytes_le _)

theorem EncodeLength.jmpRel8 (rel : Byte) : EncodeLength.Statement (.jmpRel8 rel) := fun _ =>
  within_list2 _ _

theorem EncodeLength.testRm8Imm8 (rm : RM Reg8) (imm : Byte) : EncodeLength.Statement (.testRm8Imm8 rm imm) := fun _ =>
  within_cons1_app _ (rm_bytes_le _ _ _) (le_four_one _)

theorem EncodeLength.testRmvImmv (rm : RM Reg) (imm : DWord) : EncodeLength.Statement (.testRmvImmv rm imm) := fun _ =>
  within_cons1_app _ (rm_bytes_le _ _ _) (width_bytes_le _ _)

theorem EncodeLength.notRm8 (rm : RM Reg8) : EncodeLength.Statement (.notRm8 rm) := fun _ =>
  within_cons1 _ (rm_bytes_le _ _ _)

theorem EncodeLength.notRmv (rm : RM Reg) : EncodeLength.Statement (.notRmv rm) := fun _ =>
  within_cons1 _ (rm_bytes_le _ _ _)

theorem EncodeLength.negRm8 (rm : RM Reg8) : EncodeLength.Statement (.negRm8 rm) := fun _ =>
  within_cons1 _ (rm_bytes_le _ _ _)

theorem EncodeLength.negRmv (rm : RM Reg) : EncodeLength.Statement (.negRmv rm) := fun _ =>
  within_cons1 _ (rm_bytes_le _ _ _)

theorem EncodeLength.mulRm8 (rm : RM Reg8) : EncodeLength.Statement (.mulRm8 rm) := fun _ =>
  within_cons1 _ (rm_bytes_le _ _ _)

theorem EncodeLength.mulRmv (rm : RM Reg) : EncodeLength.Statement (.mulRmv rm) := fun _ =>
  within_cons1 _ (rm_bytes_le _ _ _)

theorem EncodeLength.imulRm8 (rm : RM Reg8) : EncodeLength.Statement (.imulRm8 rm) := fun _ =>
  within_cons1 _ (rm_bytes_le _ _ _)

theorem EncodeLength.imulRmv (rm : RM Reg) : EncodeLength.Statement (.imulRmv rm) := fun _ =>
  within_cons1 _ (rm_bytes_le _ _ _)

theorem EncodeLength.divRm8 (rm : RM Reg8) : EncodeLength.Statement (.divRm8 rm) := fun _ =>
  within_cons1 _ (rm_bytes_le _ _ _)

theorem EncodeLength.divRmv (rm : RM Reg) : EncodeLength.Statement (.divRmv rm) := fun _ =>
  within_cons1 _ (rm_bytes_le _ _ _)

theorem EncodeLength.idivRm8 (rm : RM Reg8) : EncodeLength.Statement (.idivRm8 rm) := fun _ =>
  within_cons1 _ (rm_bytes_le _ _ _)

theorem EncodeLength.idivRmv (rm : RM Reg) : EncodeLength.Statement (.idivRmv rm) := fun _ =>
  within_cons1 _ (rm_bytes_le _ _ _)

theorem EncodeLength.incRm8 (rm : RM Reg8) : EncodeLength.Statement (.incRm8 rm) := fun _ =>
  within_cons1 _ (rm_bytes_le _ _ _)

theorem EncodeLength.decRm8 (rm : RM Reg8) : EncodeLength.Statement (.decRm8 rm) := fun _ =>
  within_cons1 _ (rm_bytes_le _ _ _)

theorem EncodeLength.incRmv (rm : RM Reg) : EncodeLength.Statement (.incRmv rm) := fun _ =>
  within_cons1 _ (rm_bytes_le _ _ _)

theorem EncodeLength.decRmv (rm : RM Reg) : EncodeLength.Statement (.decRmv rm) := fun _ =>
  within_cons1 _ (rm_bytes_le _ _ _)

theorem EncodeLength.callRmv (rm : RM Reg) : EncodeLength.Statement (.callRmv rm) := fun _ =>
  within_cons1 _ (rm_bytes_le _ _ _)

theorem EncodeLength.callFarMem (m : EA) : EncodeLength.Statement (.callFarMem m) := fun _ =>
  within_cons1 _ (ea_bytes_le _ _)

theorem EncodeLength.jmpRmv (rm : RM Reg) : EncodeLength.Statement (.jmpRmv rm) := fun _ =>
  within_cons1 _ (rm_bytes_le _ _ _)

theorem EncodeLength.jmpFarMem (m : EA) : EncodeLength.Statement (.jmpFarMem m) := fun _ =>
  within_cons1 _ (ea_bytes_le _ _)

theorem EncodeLength.pushRmv (rm : RM Reg) : EncodeLength.Statement (.pushRmv rm) := fun _ =>
  within_cons1 _ (rm_bytes_le _ _ _)

theorem EncodeLength.sldt (rm : RM Reg) : EncodeLength.Statement (.sldt rm) := fun _ =>
  within_cons2 _ _ (rm_bytes_le _ _ _)

theorem EncodeLength.str (rm : RM Reg) : EncodeLength.Statement (.str rm) := fun _ =>
  within_cons2 _ _ (rm_bytes_le _ _ _)

theorem EncodeLength.lldt (rm : RM Reg) : EncodeLength.Statement (.lldt rm) := fun _ =>
  within_cons2 _ _ (rm_bytes_le _ _ _)

theorem EncodeLength.ltr (rm : RM Reg) : EncodeLength.Statement (.ltr rm) := fun _ =>
  within_cons2 _ _ (rm_bytes_le _ _ _)

theorem EncodeLength.verr (rm : RM Reg) : EncodeLength.Statement (.verr rm) := fun _ =>
  within_cons2 _ _ (rm_bytes_le _ _ _)

theorem EncodeLength.verw (rm : RM Reg) : EncodeLength.Statement (.verw rm) := fun _ =>
  within_cons2 _ _ (rm_bytes_le _ _ _)

theorem EncodeLength.sgdt (m : EA) : EncodeLength.Statement (.sgdt m) := fun _ =>
  within_cons2 _ _ (ea_bytes_le _ _)

theorem EncodeLength.sidt (m : EA) : EncodeLength.Statement (.sidt m) := fun _ =>
  within_cons2 _ _ (ea_bytes_le _ _)

theorem EncodeLength.lgdt (m : EA) : EncodeLength.Statement (.lgdt m) := fun _ =>
  within_cons2 _ _ (ea_bytes_le _ _)

theorem EncodeLength.lidt (m : EA) : EncodeLength.Statement (.lidt m) := fun _ =>
  within_cons2 _ _ (ea_bytes_le _ _)

theorem EncodeLength.smsw (rm : RM Reg) : EncodeLength.Statement (.smsw rm) := fun _ =>
  within_cons2 _ _ (rm_bytes_le _ _ _)

theorem EncodeLength.lmsw (rm : RM Reg) : EncodeLength.Statement (.lmsw rm) := fun _ =>
  within_cons2 _ _ (rm_bytes_le _ _ _)

theorem EncodeLength.lar (r : Reg) (rm : RM Reg) : EncodeLength.Statement (.lar r rm) := fun _ =>
  within_cons2 _ _ (rm_bytes_le _ _ _)

theorem EncodeLength.lsl (r : Reg) (rm : RM Reg) : EncodeLength.Statement (.lsl r rm) := fun _ =>
  within_cons2 _ _ (rm_bytes_le _ _ _)

theorem EncodeLength.movRdCr (r : Reg) (c : CReg) : EncodeLength.Statement (.movRdCr r c) := fun _ =>
  within_list3 _ _ _

theorem EncodeLength.movRdDr (r : Reg) (d : DReg) : EncodeLength.Statement (.movRdDr r d) := fun _ =>
  within_list3 _ _ _

theorem EncodeLength.movCrRd (c : CReg) (r : Reg) : EncodeLength.Statement (.movCrRd c r) := fun _ =>
  within_list3 _ _ _

theorem EncodeLength.movDrRd (d : DReg) (r : Reg) : EncodeLength.Statement (.movDrRd d r) := fun _ =>
  within_list3 _ _ _

theorem EncodeLength.movRdTr (r : Reg) (t : TReg) : EncodeLength.Statement (.movRdTr r t) := fun _ =>
  within_list3 _ _ _

theorem EncodeLength.movTrRd (t : TReg) (r : Reg) : EncodeLength.Statement (.movTrRd t r) := fun _ =>
  within_list3 _ _ _

theorem EncodeLength.joNear (rel : DWord) : EncodeLength.Statement (.joNear rel) := fun _ =>
  within_two_app _ _ (width_bytes_le _ _)

theorem EncodeLength.jnoNear (rel : DWord) : EncodeLength.Statement (.jnoNear rel) := fun _ =>
  within_two_app _ _ (width_bytes_le _ _)

theorem EncodeLength.jbNear (rel : DWord) : EncodeLength.Statement (.jbNear rel) := fun _ =>
  within_two_app _ _ (width_bytes_le _ _)

theorem EncodeLength.jaeNear (rel : DWord) : EncodeLength.Statement (.jaeNear rel) := fun _ =>
  within_two_app _ _ (width_bytes_le _ _)

theorem EncodeLength.jeNear (rel : DWord) : EncodeLength.Statement (.jeNear rel) := fun _ =>
  within_two_app _ _ (width_bytes_le _ _)

theorem EncodeLength.jneNear (rel : DWord) : EncodeLength.Statement (.jneNear rel) := fun _ =>
  within_two_app _ _ (width_bytes_le _ _)

theorem EncodeLength.jbeNear (rel : DWord) : EncodeLength.Statement (.jbeNear rel) := fun _ =>
  within_two_app _ _ (width_bytes_le _ _)

theorem EncodeLength.jaNear (rel : DWord) : EncodeLength.Statement (.jaNear rel) := fun _ =>
  within_two_app _ _ (width_bytes_le _ _)

theorem EncodeLength.jsNear (rel : DWord) : EncodeLength.Statement (.jsNear rel) := fun _ =>
  within_two_app _ _ (width_bytes_le _ _)

theorem EncodeLength.jnsNear (rel : DWord) : EncodeLength.Statement (.jnsNear rel) := fun _ =>
  within_two_app _ _ (width_bytes_le _ _)

theorem EncodeLength.jpNear (rel : DWord) : EncodeLength.Statement (.jpNear rel) := fun _ =>
  within_two_app _ _ (width_bytes_le _ _)

theorem EncodeLength.jnpNear (rel : DWord) : EncodeLength.Statement (.jnpNear rel) := fun _ =>
  within_two_app _ _ (width_bytes_le _ _)

theorem EncodeLength.jlNear (rel : DWord) : EncodeLength.Statement (.jlNear rel) := fun _ =>
  within_two_app _ _ (width_bytes_le _ _)

theorem EncodeLength.jgeNear (rel : DWord) : EncodeLength.Statement (.jgeNear rel) := fun _ =>
  within_two_app _ _ (width_bytes_le _ _)

theorem EncodeLength.jleNear (rel : DWord) : EncodeLength.Statement (.jleNear rel) := fun _ =>
  within_two_app _ _ (width_bytes_le _ _)

theorem EncodeLength.jgNear (rel : DWord) : EncodeLength.Statement (.jgNear rel) := fun _ =>
  within_two_app _ _ (width_bytes_le _ _)

theorem EncodeLength.seto (rm : RM Reg8) : EncodeLength.Statement (.seto rm) := fun _ =>
  within_cons2 _ _ (rm_bytes_le _ _ _)

theorem EncodeLength.setno (rm : RM Reg8) : EncodeLength.Statement (.setno rm) := fun _ =>
  within_cons2 _ _ (rm_bytes_le _ _ _)

theorem EncodeLength.setb (rm : RM Reg8) : EncodeLength.Statement (.setb rm) := fun _ =>
  within_cons2 _ _ (rm_bytes_le _ _ _)

theorem EncodeLength.setae (rm : RM Reg8) : EncodeLength.Statement (.setae rm) := fun _ =>
  within_cons2 _ _ (rm_bytes_le _ _ _)

theorem EncodeLength.sete (rm : RM Reg8) : EncodeLength.Statement (.sete rm) := fun _ =>
  within_cons2 _ _ (rm_bytes_le _ _ _)

theorem EncodeLength.setne (rm : RM Reg8) : EncodeLength.Statement (.setne rm) := fun _ =>
  within_cons2 _ _ (rm_bytes_le _ _ _)

theorem EncodeLength.setbe (rm : RM Reg8) : EncodeLength.Statement (.setbe rm) := fun _ =>
  within_cons2 _ _ (rm_bytes_le _ _ _)

theorem EncodeLength.seta (rm : RM Reg8) : EncodeLength.Statement (.seta rm) := fun _ =>
  within_cons2 _ _ (rm_bytes_le _ _ _)

theorem EncodeLength.sets (rm : RM Reg8) : EncodeLength.Statement (.sets rm) := fun _ =>
  within_cons2 _ _ (rm_bytes_le _ _ _)

theorem EncodeLength.setns (rm : RM Reg8) : EncodeLength.Statement (.setns rm) := fun _ =>
  within_cons2 _ _ (rm_bytes_le _ _ _)

theorem EncodeLength.setp (rm : RM Reg8) : EncodeLength.Statement (.setp rm) := fun _ =>
  within_cons2 _ _ (rm_bytes_le _ _ _)

theorem EncodeLength.setnp (rm : RM Reg8) : EncodeLength.Statement (.setnp rm) := fun _ =>
  within_cons2 _ _ (rm_bytes_le _ _ _)

theorem EncodeLength.setl (rm : RM Reg8) : EncodeLength.Statement (.setl rm) := fun _ =>
  within_cons2 _ _ (rm_bytes_le _ _ _)

theorem EncodeLength.setge (rm : RM Reg8) : EncodeLength.Statement (.setge rm) := fun _ =>
  within_cons2 _ _ (rm_bytes_le _ _ _)

theorem EncodeLength.setle (rm : RM Reg8) : EncodeLength.Statement (.setle rm) := fun _ =>
  within_cons2 _ _ (rm_bytes_le _ _ _)

theorem EncodeLength.setg (rm : RM Reg8) : EncodeLength.Statement (.setg rm) := fun _ =>
  within_cons2 _ _ (rm_bytes_le _ _ _)

theorem EncodeLength.btRmvRv (rm : RM Reg) (r : Reg) : EncodeLength.Statement (.btRmvRv rm r) := fun _ =>
  within_cons2 _ _ (rm_bytes_le _ _ _)

theorem EncodeLength.shldImm8 (rm : RM Reg) (r : Reg) (imm : Byte) : EncodeLength.Statement (.shldImm8 rm r imm) := fun _ =>
  within_cons2_one _ _ (rm_bytes_le _ _ _)

theorem EncodeLength.shldCl (rm : RM Reg) (r : Reg) : EncodeLength.Statement (.shldCl rm r) := fun _ =>
  within_cons2 _ _ (rm_bytes_le _ _ _)

theorem EncodeLength.btsRmvRv (rm : RM Reg) (r : Reg) : EncodeLength.Statement (.btsRmvRv rm r) := fun _ =>
  within_cons2 _ _ (rm_bytes_le _ _ _)

theorem EncodeLength.shrdImm8 (rm : RM Reg) (r : Reg) (imm : Byte) : EncodeLength.Statement (.shrdImm8 rm r imm) := fun _ =>
  within_cons2_one _ _ (rm_bytes_le _ _ _)

theorem EncodeLength.shrdCl (rm : RM Reg) (r : Reg) : EncodeLength.Statement (.shrdCl rm r) := fun _ =>
  within_cons2 _ _ (rm_bytes_le _ _ _)

theorem EncodeLength.imulRvRmv (r : Reg) (rm : RM Reg) : EncodeLength.Statement (.imulRvRmv r rm) := fun _ =>
  within_cons2 _ _ (rm_bytes_le _ _ _)

theorem EncodeLength.lss (r : Reg) (m : EA) : EncodeLength.Statement (.lss r m) := fun _ =>
  within_cons2 _ _ (ea_bytes_le _ _)

theorem EncodeLength.btrRmvRv (rm : RM Reg) (r : Reg) : EncodeLength.Statement (.btrRmvRv rm r) := fun _ =>
  within_cons2 _ _ (rm_bytes_le _ _ _)

theorem EncodeLength.lfs (r : Reg) (m : EA) : EncodeLength.Statement (.lfs r m) := fun _ =>
  within_cons2 _ _ (ea_bytes_le _ _)

theorem EncodeLength.lgs (r : Reg) (m : EA) : EncodeLength.Statement (.lgs r m) := fun _ =>
  within_cons2 _ _ (ea_bytes_le _ _)

theorem EncodeLength.movzxRvRm8 (r : Reg) (rm : RM Reg8) : EncodeLength.Statement (.movzxRvRm8 r rm) := fun _ =>
  within_cons2 _ _ (rm_bytes_le _ _ _)

theorem EncodeLength.movzxRdRm16 (r : Reg) (rm : RM Reg) : EncodeLength.Statement (.movzxRdRm16 r rm) := fun _ =>
  within_cons2 _ _ (rm_bytes_le _ _ _)

theorem EncodeLength.btRmvImm8 (rm : RM Reg) (imm : Byte) : EncodeLength.Statement (.btRmvImm8 rm imm) := fun _ =>
  within_cons2_one _ _ (rm_bytes_le _ _ _)

theorem EncodeLength.btsRmvImm8 (rm : RM Reg) (imm : Byte) : EncodeLength.Statement (.btsRmvImm8 rm imm) := fun _ =>
  within_cons2_one _ _ (rm_bytes_le _ _ _)

theorem EncodeLength.btrRmvImm8 (rm : RM Reg) (imm : Byte) : EncodeLength.Statement (.btrRmvImm8 rm imm) := fun _ =>
  within_cons2_one _ _ (rm_bytes_le _ _ _)

theorem EncodeLength.btcRmvImm8 (rm : RM Reg) (imm : Byte) : EncodeLength.Statement (.btcRmvImm8 rm imm) := fun _ =>
  within_cons2_one _ _ (rm_bytes_le _ _ _)

theorem EncodeLength.btcRmvRv (rm : RM Reg) (r : Reg) : EncodeLength.Statement (.btcRmvRv rm r) := fun _ =>
  within_cons2 _ _ (rm_bytes_le _ _ _)

theorem EncodeLength.bsf (r : Reg) (rm : RM Reg) : EncodeLength.Statement (.bsf r rm) := fun _ =>
  within_cons2 _ _ (rm_bytes_le _ _ _)

theorem EncodeLength.bsr (r : Reg) (rm : RM Reg) : EncodeLength.Statement (.bsr r rm) := fun _ =>
  within_cons2 _ _ (rm_bytes_le _ _ _)

theorem EncodeLength.movsxRvRm8 (r : Reg) (rm : RM Reg8) : EncodeLength.Statement (.movsxRvRm8 r rm) := fun _ =>
  within_cons2 _ _ (rm_bytes_le _ _ _)

theorem EncodeLength.movsxRdRm16 (r : Reg) (rm : RM Reg) : EncodeLength.Statement (.movsxRdRm16 r rm) := fun _ =>
  within_cons2 _ _ (rm_bytes_le _ _ _)

theorem EncodeLength.pushEs : EncodeLength.Statement .pushEs := fun _ =>
  within_list1 _

theorem EncodeLength.popEs : EncodeLength.Statement .popEs := fun _ =>
  within_list1 _

theorem EncodeLength.pushCs : EncodeLength.Statement .pushCs := fun _ =>
  within_list1 _

theorem EncodeLength.pushSs : EncodeLength.Statement .pushSs := fun _ =>
  within_list1 _

theorem EncodeLength.popSs : EncodeLength.Statement .popSs := fun _ =>
  within_list1 _

theorem EncodeLength.pushDs : EncodeLength.Statement .pushDs := fun _ =>
  within_list1 _

theorem EncodeLength.popDs : EncodeLength.Statement .popDs := fun _ =>
  within_list1 _

theorem EncodeLength.pushFs : EncodeLength.Statement .pushFs := fun _ =>
  within_list2 _ _

theorem EncodeLength.popFs : EncodeLength.Statement .popFs := fun _ =>
  within_list2 _ _

theorem EncodeLength.pushGs : EncodeLength.Statement .pushGs := fun _ =>
  within_list2 _ _

theorem EncodeLength.popGs : EncodeLength.Statement .popGs := fun _ =>
  within_list2 _ _

theorem EncodeLength.daa : EncodeLength.Statement .daa := fun _ =>
  within_list1 _

theorem EncodeLength.das : EncodeLength.Statement .das := fun _ =>
  within_list1 _

theorem EncodeLength.aaa : EncodeLength.Statement .aaa := fun _ =>
  within_list1 _

theorem EncodeLength.aas : EncodeLength.Statement .aas := fun _ =>
  within_list1 _

theorem EncodeLength.esOverride : EncodeLength.Statement .esOverride := fun _ =>
  within_list1 _

theorem EncodeLength.csOverride : EncodeLength.Statement .csOverride := fun _ =>
  within_list1 _

theorem EncodeLength.ssOverride : EncodeLength.Statement .ssOverride := fun _ =>
  within_list1 _

theorem EncodeLength.dsOverride : EncodeLength.Statement .dsOverride := fun _ =>
  within_list1 _

theorem EncodeLength.fsOverride : EncodeLength.Statement .fsOverride := fun _ =>
  within_list1 _

theorem EncodeLength.gsOverride : EncodeLength.Statement .gsOverride := fun _ =>
  within_list1 _

theorem EncodeLength.operandSize : EncodeLength.Statement .operandSize := fun _ =>
  within_list1 _

theorem EncodeLength.addressSize : EncodeLength.Statement .addressSize := fun _ =>
  within_list1 _

theorem EncodeLength.lock : EncodeLength.Statement .lock := fun _ =>
  within_list1 _

theorem EncodeLength.repne : EncodeLength.Statement .repne := fun _ =>
  within_list1 _

theorem EncodeLength.rep : EncodeLength.Statement .rep := fun _ =>
  within_list1 _

theorem EncodeLength.pusha : EncodeLength.Statement .pusha := fun _ =>
  within_list1 _

theorem EncodeLength.popa : EncodeLength.Statement .popa := fun _ =>
  within_list1 _

theorem EncodeLength.insb : EncodeLength.Statement .insb := fun _ =>
  within_list1 _

theorem EncodeLength.insv : EncodeLength.Statement .insv := fun _ =>
  within_list1 _

theorem EncodeLength.outsb : EncodeLength.Statement .outsb := fun _ =>
  within_list1 _

theorem EncodeLength.outsv : EncodeLength.Statement .outsv := fun _ =>
  within_list1 _

theorem EncodeLength.nop : EncodeLength.Statement .nop := fun _ =>
  within_list1 _

theorem EncodeLength.cbw : EncodeLength.Statement .cbw := fun _ =>
  within_list1 _

theorem EncodeLength.cwd : EncodeLength.Statement .cwd := fun _ =>
  within_list1 _

theorem EncodeLength.wait : EncodeLength.Statement .wait := fun _ =>
  within_list1 _

theorem EncodeLength.pushf : EncodeLength.Statement .pushf := fun _ =>
  within_list1 _

theorem EncodeLength.popf : EncodeLength.Statement .popf := fun _ =>
  within_list1 _

theorem EncodeLength.sahf : EncodeLength.Statement .sahf := fun _ =>
  within_list1 _

theorem EncodeLength.lahf : EncodeLength.Statement .lahf := fun _ =>
  within_list1 _

theorem EncodeLength.movsb : EncodeLength.Statement .movsb := fun _ =>
  within_list1 _

theorem EncodeLength.movsv : EncodeLength.Statement .movsv := fun _ =>
  within_list1 _

theorem EncodeLength.cmpsb : EncodeLength.Statement .cmpsb := fun _ =>
  within_list1 _

theorem EncodeLength.cmpsv : EncodeLength.Statement .cmpsv := fun _ =>
  within_list1 _

theorem EncodeLength.stosb : EncodeLength.Statement .stosb := fun _ =>
  within_list1 _

theorem EncodeLength.stosv : EncodeLength.Statement .stosv := fun _ =>
  within_list1 _

theorem EncodeLength.lodsb : EncodeLength.Statement .lodsb := fun _ =>
  within_list1 _

theorem EncodeLength.lodsv : EncodeLength.Statement .lodsv := fun _ =>
  within_list1 _

theorem EncodeLength.scasb : EncodeLength.Statement .scasb := fun _ =>
  within_list1 _

theorem EncodeLength.scasv : EncodeLength.Statement .scasv := fun _ =>
  within_list1 _

theorem EncodeLength.retNear : EncodeLength.Statement .retNear := fun _ =>
  within_list1 _

theorem EncodeLength.leave : EncodeLength.Statement .leave := fun _ =>
  within_list1 _

theorem EncodeLength.retFar : EncodeLength.Statement .retFar := fun _ =>
  within_list1 _

theorem EncodeLength.int3 : EncodeLength.Statement .int3 := fun _ =>
  within_list1 _

theorem EncodeLength.into : EncodeLength.Statement .into := fun _ =>
  within_list1 _

theorem EncodeLength.iret : EncodeLength.Statement .iret := fun _ =>
  within_list1 _

theorem EncodeLength.aam : EncodeLength.Statement .aam := fun _ =>
  within_list2 _ _

theorem EncodeLength.aad : EncodeLength.Statement .aad := fun _ =>
  within_list2 _ _

theorem EncodeLength.xlat : EncodeLength.Statement .xlat := fun _ =>
  within_list1 _

theorem EncodeLength.inAlDx : EncodeLength.Statement .inAlDx := fun _ =>
  within_list1 _

theorem EncodeLength.inEaxDx : EncodeLength.Statement .inEaxDx := fun _ =>
  within_list1 _

theorem EncodeLength.outDxAl : EncodeLength.Statement .outDxAl := fun _ =>
  within_list1 _

theorem EncodeLength.outDxEax : EncodeLength.Statement .outDxEax := fun _ =>
  within_list1 _

theorem EncodeLength.hlt : EncodeLength.Statement .hlt := fun _ =>
  within_list1 _

theorem EncodeLength.cmc : EncodeLength.Statement .cmc := fun _ =>
  within_list1 _

theorem EncodeLength.clc : EncodeLength.Statement .clc := fun _ =>
  within_list1 _

theorem EncodeLength.stc : EncodeLength.Statement .stc := fun _ =>
  within_list1 _

theorem EncodeLength.cli : EncodeLength.Statement .cli := fun _ =>
  within_list1 _

theorem EncodeLength.sti : EncodeLength.Statement .sti := fun _ =>
  within_list1 _

theorem EncodeLength.cld : EncodeLength.Statement .cld := fun _ =>
  within_list1 _

theorem EncodeLength.std : EncodeLength.Statement .std := fun _ =>
  within_list1 _

theorem EncodeLength.clts : EncodeLength.Statement .clts := fun _ =>
  within_list2 _ _

end Sys2Proof.Laws
end

