-- ==== Sys2Proof/Laws/State.lean ====
section
/-!
SUPPORT. The small lemmas of the state: for each update, what every field it does not touch is, and what a register reads
as after it is written.
-/
namespace Sys2Proof.Machine

/-! ### Fields that an update leaves alone -/

@[simp] theorem State.setReg_eip (s : State) (r : Reg) (v : DWord) : (s.setReg r v).eip = s.eip := rfl
@[simp] theorem State.setReg_flags (s : State) (r : Reg) (v : DWord) : (s.setReg r v).flags = s.flags := rfl
@[simp] theorem State.setReg_seg (s : State) (r : Reg) (v : DWord) : (s.setReg r v).seg = s.seg := rfl
@[simp] theorem State.setReg_cpl (s : State) (r : Reg) (v : DWord) : (s.setReg r v).cpl = s.cpl := rfl
@[simp] theorem State.setReg_gdtr (s : State) (r : Reg) (v : DWord) : (s.setReg r v).gdtr = s.gdtr := rfl
@[simp] theorem State.setReg_idtr (s : State) (r : Reg) (v : DWord) : (s.setReg r v).idtr = s.idtr := rfl
@[simp] theorem State.setReg_ldtr (s : State) (r : Reg) (v : DWord) : (s.setReg r v).ldtr = s.ldtr := rfl
@[simp] theorem State.setReg_tr (s : State) (r : Reg) (v : DWord) : (s.setReg r v).tr = s.tr := rfl
@[simp] theorem State.setReg_cr0 (s : State) (r : Reg) (v : DWord) : (s.setReg r v).cr0 = s.cr0 := rfl
@[simp] theorem State.setReg_cr2 (s : State) (r : Reg) (v : DWord) : (s.setReg r v).cr2 = s.cr2 := rfl
@[simp] theorem State.setReg_cr3 (s : State) (r : Reg) (v : DWord) : (s.setReg r v).cr3 = s.cr3 := rfl
@[simp] theorem State.setReg_dr (s : State) (r : Reg) (v : DWord) : (s.setReg r v).dr = s.dr := rfl
@[simp] theorem State.setReg_tr6 (s : State) (r : Reg) (v : DWord) : (s.setReg r v).tr6 = s.tr6 := rfl
@[simp] theorem State.setReg_tr7 (s : State) (r : Reg) (v : DWord) : (s.setReg r v).tr7 = s.tr7 := rfl
@[simp] theorem State.setReg_inhibit (s : State) (r : Reg) (v : DWord) : (s.setReg r v).inhibit = s.inhibit := rfl
@[simp] theorem State.setReg_nmiBlocked (s : State) (r : Reg) (v : DWord) : (s.setReg r v).nmiBlocked = s.nmiBlocked :=
  rfl
@[simp] theorem State.setReg_nmiPending (s : State) (r : Reg) (v : DWord) : (s.setReg r v).nmiPending = s.nmiPending :=
  rfl
@[simp] theorem State.setReg_run (s : State) (r : Reg) (v : DWord) : (s.setReg r v).run = s.run := rfl
@[simp] theorem State.setReg_trapDue (s : State) (r : Reg) (v : DWord) : (s.setReg r v).trapDue = s.trapDue := rfl
@[simp] theorem State.setReg_pins (s : State) (r : Reg) (v : DWord) : (s.setReg r v).pins = s.pins := rfl
@[simp] theorem State.setReg_inputs (s : State) (r : Reg) (v : DWord) : (s.setReg r v).inputs = s.inputs := rfl
@[simp] theorem State.setReg_ioWrites (s : State) (r : Reg) (v : DWord) : (s.setReg r v).ioWrites = s.ioWrites := rfl
@[simp] theorem State.setReg_draws (s : State) (r : Reg) (v : DWord) : (s.setReg r v).draws = s.draws := rfl
@[simp] theorem State.setReg_insnStart (s : State) (r : Reg) (v : DWord) : (s.setReg r v).insnStart = s.insnStart :=
  rfl
@[simp] theorem State.setReg_pfx (s : State) (r : Reg) (v : DWord) : (s.setReg r v).pfx = s.pfx := rfl
@[simp] theorem State.setReg_mem (s : State) (r : Reg) (v : DWord) : (s.setReg r v).mem = s.mem := rfl

@[simp] theorem State.setRegW_eip (s : State) (w : Width) (r : Reg) (v : DWord) : (s.setRegW w r v).eip = s.eip :=
  by cases w <;> rfl
@[simp] theorem State.setRegW_flags (s : State) (w : Width) (r : Reg) (v : DWord) : (s.setRegW w r v).flags = s.flags :=
  by cases w <;> rfl
@[simp] theorem State.setRegW_seg (s : State) (w : Width) (r : Reg) (v : DWord) : (s.setRegW w r v).seg = s.seg :=
  by cases w <;> rfl
@[simp] theorem State.setRegW_cpl (s : State) (w : Width) (r : Reg) (v : DWord) : (s.setRegW w r v).cpl = s.cpl :=
  by cases w <;> rfl
@[simp] theorem State.setRegW_gdtr (s : State) (w : Width) (r : Reg) (v : DWord) : (s.setRegW w r v).gdtr = s.gdtr :=
  by cases w <;> rfl
@[simp] theorem State.setRegW_idtr (s : State) (w : Width) (r : Reg) (v : DWord) : (s.setRegW w r v).idtr = s.idtr :=
  by cases w <;> rfl
@[simp] theorem State.setRegW_ldtr (s : State) (w : Width) (r : Reg) (v : DWord) : (s.setRegW w r v).ldtr = s.ldtr :=
  by cases w <;> rfl
@[simp] theorem State.setRegW_tr (s : State) (w : Width) (r : Reg) (v : DWord) : (s.setRegW w r v).tr = s.tr :=
  by cases w <;> rfl
@[simp] theorem State.setRegW_cr0 (s : State) (w : Width) (r : Reg) (v : DWord) : (s.setRegW w r v).cr0 = s.cr0 :=
  by cases w <;> rfl
@[simp] theorem State.setRegW_cr2 (s : State) (w : Width) (r : Reg) (v : DWord) : (s.setRegW w r v).cr2 = s.cr2 :=
  by cases w <;> rfl
@[simp] theorem State.setRegW_cr3 (s : State) (w : Width) (r : Reg) (v : DWord) : (s.setRegW w r v).cr3 = s.cr3 :=
  by cases w <;> rfl
@[simp] theorem State.setRegW_dr (s : State) (w : Width) (r : Reg) (v : DWord) : (s.setRegW w r v).dr = s.dr :=
  by cases w <;> rfl
@[simp] theorem State.setRegW_tr6 (s : State) (w : Width) (r : Reg) (v : DWord) : (s.setRegW w r v).tr6 = s.tr6 :=
  by cases w <;> rfl
@[simp] theorem State.setRegW_tr7 (s : State) (w : Width) (r : Reg) (v : DWord) : (s.setRegW w r v).tr7 = s.tr7 :=
  by cases w <;> rfl
@[simp] theorem State.setRegW_inhibit (s : State) (w : Width) (r : Reg) (v : DWord) : (s.setRegW w r v).inhibit = s.inhibit :=
  by cases w <;> rfl
@[simp] theorem State.setRegW_nmiBlocked (s : State) (w : Width) (r : Reg) (v : DWord) : (s.setRegW w r v).nmiBlocked = s.nmiBlocked :=
  by cases w <;> rfl
@[simp] theorem State.setRegW_nmiPending (s : State) (w : Width) (r : Reg) (v : DWord) : (s.setRegW w r v).nmiPending = s.nmiPending :=
  by cases w <;> rfl
@[simp] theorem State.setRegW_run (s : State) (w : Width) (r : Reg) (v : DWord) : (s.setRegW w r v).run = s.run :=
  by cases w <;> rfl
@[simp] theorem State.setRegW_trapDue (s : State) (w : Width) (r : Reg) (v : DWord) : (s.setRegW w r v).trapDue = s.trapDue :=
  by cases w <;> rfl
@[simp] theorem State.setRegW_pins (s : State) (w : Width) (r : Reg) (v : DWord) : (s.setRegW w r v).pins = s.pins :=
  by cases w <;> rfl
@[simp] theorem State.setRegW_inputs (s : State) (w : Width) (r : Reg) (v : DWord) : (s.setRegW w r v).inputs = s.inputs :=
  by cases w <;> rfl
@[simp] theorem State.setRegW_ioWrites (s : State) (w : Width) (r : Reg) (v : DWord) : (s.setRegW w r v).ioWrites = s.ioWrites :=
  by cases w <;> rfl
@[simp] theorem State.setRegW_draws (s : State) (w : Width) (r : Reg) (v : DWord) : (s.setRegW w r v).draws = s.draws :=
  by cases w <;> rfl
@[simp] theorem State.setRegW_insnStart (s : State) (w : Width) (r : Reg) (v : DWord) : (s.setRegW w r v).insnStart = s.insnStart :=
  by cases w <;> rfl
@[simp] theorem State.setRegW_pfx (s : State) (w : Width) (r : Reg) (v : DWord) : (s.setRegW w r v).pfx = s.pfx :=
  by cases w <;> rfl
@[simp] theorem State.setRegW_mem (s : State) (w : Width) (r : Reg) (v : DWord) : (s.setRegW w r v).mem = s.mem :=
  by cases w <;> rfl

@[simp] theorem State.setRegS_eip (s : State) (sz : Size) (r : Reg) (v : DWord) : (s.setRegS sz r v).eip = s.eip :=
  by cases sz <;> rfl
@[simp] theorem State.setRegS_flags (s : State) (sz : Size) (r : Reg) (v : DWord) : (s.setRegS sz r v).flags = s.flags :=
  by cases sz <;> rfl
@[simp] theorem State.setRegS_seg (s : State) (sz : Size) (r : Reg) (v : DWord) : (s.setRegS sz r v).seg = s.seg :=
  by cases sz <;> rfl
@[simp] theorem State.setRegS_cpl (s : State) (sz : Size) (r : Reg) (v : DWord) : (s.setRegS sz r v).cpl = s.cpl :=
  by cases sz <;> rfl
@[simp] theorem State.setRegS_gdtr (s : State) (sz : Size) (r : Reg) (v : DWord) : (s.setRegS sz r v).gdtr = s.gdtr :=
  by cases sz <;> rfl
@[simp] theorem State.setRegS_idtr (s : State) (sz : Size) (r : Reg) (v : DWord) : (s.setRegS sz r v).idtr = s.idtr :=
  by cases sz <;> rfl
@[simp] theorem State.setRegS_ldtr (s : State) (sz : Size) (r : Reg) (v : DWord) : (s.setRegS sz r v).ldtr = s.ldtr :=
  by cases sz <;> rfl
@[simp] theorem State.setRegS_tr (s : State) (sz : Size) (r : Reg) (v : DWord) : (s.setRegS sz r v).tr = s.tr :=
  by cases sz <;> rfl
@[simp] theorem State.setRegS_cr0 (s : State) (sz : Size) (r : Reg) (v : DWord) : (s.setRegS sz r v).cr0 = s.cr0 :=
  by cases sz <;> rfl
@[simp] theorem State.setRegS_cr2 (s : State) (sz : Size) (r : Reg) (v : DWord) : (s.setRegS sz r v).cr2 = s.cr2 :=
  by cases sz <;> rfl
@[simp] theorem State.setRegS_cr3 (s : State) (sz : Size) (r : Reg) (v : DWord) : (s.setRegS sz r v).cr3 = s.cr3 :=
  by cases sz <;> rfl
@[simp] theorem State.setRegS_dr (s : State) (sz : Size) (r : Reg) (v : DWord) : (s.setRegS sz r v).dr = s.dr :=
  by cases sz <;> rfl
@[simp] theorem State.setRegS_tr6 (s : State) (sz : Size) (r : Reg) (v : DWord) : (s.setRegS sz r v).tr6 = s.tr6 :=
  by cases sz <;> rfl
@[simp] theorem State.setRegS_tr7 (s : State) (sz : Size) (r : Reg) (v : DWord) : (s.setRegS sz r v).tr7 = s.tr7 :=
  by cases sz <;> rfl
@[simp] theorem State.setRegS_inhibit (s : State) (sz : Size) (r : Reg) (v : DWord) : (s.setRegS sz r v).inhibit = s.inhibit :=
  by cases sz <;> rfl
@[simp] theorem State.setRegS_nmiBlocked (s : State) (sz : Size) (r : Reg) (v : DWord) : (s.setRegS sz r v).nmiBlocked = s.nmiBlocked :=
  by cases sz <;> rfl
@[simp] theorem State.setRegS_nmiPending (s : State) (sz : Size) (r : Reg) (v : DWord) : (s.setRegS sz r v).nmiPending = s.nmiPending :=
  by cases sz <;> rfl
@[simp] theorem State.setRegS_run (s : State) (sz : Size) (r : Reg) (v : DWord) : (s.setRegS sz r v).run = s.run :=
  by cases sz <;> rfl
@[simp] theorem State.setRegS_trapDue (s : State) (sz : Size) (r : Reg) (v : DWord) : (s.setRegS sz r v).trapDue = s.trapDue :=
  by cases sz <;> rfl
@[simp] theorem State.setRegS_pins (s : State) (sz : Size) (r : Reg) (v : DWord) : (s.setRegS sz r v).pins = s.pins :=
  by cases sz <;> rfl
@[simp] theorem State.setRegS_inputs (s : State) (sz : Size) (r : Reg) (v : DWord) : (s.setRegS sz r v).inputs = s.inputs :=
  by cases sz <;> rfl
@[simp] theorem State.setRegS_ioWrites (s : State) (sz : Size) (r : Reg) (v : DWord) : (s.setRegS sz r v).ioWrites = s.ioWrites :=
  by cases sz <;> rfl
@[simp] theorem State.setRegS_draws (s : State) (sz : Size) (r : Reg) (v : DWord) : (s.setRegS sz r v).draws = s.draws :=
  by cases sz <;> rfl
@[simp] theorem State.setRegS_insnStart (s : State) (sz : Size) (r : Reg) (v : DWord) : (s.setRegS sz r v).insnStart = s.insnStart :=
  by cases sz <;> rfl
@[simp] theorem State.setRegS_pfx (s : State) (sz : Size) (r : Reg) (v : DWord) : (s.setRegS sz r v).pfx = s.pfx :=
  by cases sz <;> rfl
@[simp] theorem State.setRegS_mem (s : State) (sz : Size) (r : Reg) (v : DWord) : (s.setRegS sz r v).mem = s.mem :=
  by cases sz <;> rfl

@[simp] theorem State.setReg8_eip (s : State) (r : Reg8) (v : Byte) : (s.setReg8 r v).eip = s.eip := by cases r <;> rfl
@[simp] theorem State.setReg8_flags (s : State) (r : Reg8) (v : Byte) : (s.setReg8 r v).flags = s.flags :=
  by cases r <;> rfl
@[simp] theorem State.setReg8_seg (s : State) (r : Reg8) (v : Byte) : (s.setReg8 r v).seg = s.seg := by cases r <;> rfl
@[simp] theorem State.setReg8_cpl (s : State) (r : Reg8) (v : Byte) : (s.setReg8 r v).cpl = s.cpl := by cases r <;> rfl
@[simp] theorem State.setReg8_gdtr (s : State) (r : Reg8) (v : Byte) : (s.setReg8 r v).gdtr = s.gdtr :=
  by cases r <;> rfl
@[simp] theorem State.setReg8_idtr (s : State) (r : Reg8) (v : Byte) : (s.setReg8 r v).idtr = s.idtr :=
  by cases r <;> rfl
@[simp] theorem State.setReg8_ldtr (s : State) (r : Reg8) (v : Byte) : (s.setReg8 r v).ldtr = s.ldtr :=
  by cases r <;> rfl
@[simp] theorem State.setReg8_tr (s : State) (r : Reg8) (v : Byte) : (s.setReg8 r v).tr = s.tr := by cases r <;> rfl
@[simp] theorem State.setReg8_cr0 (s : State) (r : Reg8) (v : Byte) : (s.setReg8 r v).cr0 = s.cr0 := by cases r <;> rfl
@[simp] theorem State.setReg8_cr2 (s : State) (r : Reg8) (v : Byte) : (s.setReg8 r v).cr2 = s.cr2 := by cases r <;> rfl
@[simp] theorem State.setReg8_cr3 (s : State) (r : Reg8) (v : Byte) : (s.setReg8 r v).cr3 = s.cr3 := by cases r <;> rfl
@[simp] theorem State.setReg8_dr (s : State) (r : Reg8) (v : Byte) : (s.setReg8 r v).dr = s.dr := by cases r <;> rfl
@[simp] theorem State.setReg8_tr6 (s : State) (r : Reg8) (v : Byte) : (s.setReg8 r v).tr6 = s.tr6 := by cases r <;> rfl
@[simp] theorem State.setReg8_tr7 (s : State) (r : Reg8) (v : Byte) : (s.setReg8 r v).tr7 = s.tr7 := by cases r <;> rfl
@[simp] theorem State.setReg8_inhibit (s : State) (r : Reg8) (v : Byte) : (s.setReg8 r v).inhibit = s.inhibit :=
  by cases r <;> rfl
@[simp] theorem State.setReg8_nmiBlocked (s : State) (r : Reg8) (v : Byte) : (s.setReg8 r v).nmiBlocked = s.nmiBlocked :=
  by cases r <;> rfl
@[simp] theorem State.setReg8_nmiPending (s : State) (r : Reg8) (v : Byte) : (s.setReg8 r v).nmiPending = s.nmiPending :=
  by cases r <;> rfl
@[simp] theorem State.setReg8_run (s : State) (r : Reg8) (v : Byte) : (s.setReg8 r v).run = s.run := by cases r <;> rfl
@[simp] theorem State.setReg8_trapDue (s : State) (r : Reg8) (v : Byte) : (s.setReg8 r v).trapDue = s.trapDue :=
  by cases r <;> rfl
@[simp] theorem State.setReg8_pins (s : State) (r : Reg8) (v : Byte) : (s.setReg8 r v).pins = s.pins :=
  by cases r <;> rfl
@[simp] theorem State.setReg8_inputs (s : State) (r : Reg8) (v : Byte) : (s.setReg8 r v).inputs = s.inputs :=
  by cases r <;> rfl
@[simp] theorem State.setReg8_ioWrites (s : State) (r : Reg8) (v : Byte) : (s.setReg8 r v).ioWrites = s.ioWrites :=
  by cases r <;> rfl
@[simp] theorem State.setReg8_draws (s : State) (r : Reg8) (v : Byte) : (s.setReg8 r v).draws = s.draws :=
  by cases r <;> rfl
@[simp] theorem State.setReg8_insnStart (s : State) (r : Reg8) (v : Byte) : (s.setReg8 r v).insnStart = s.insnStart :=
  by cases r <;> rfl
@[simp] theorem State.setReg8_pfx (s : State) (r : Reg8) (v : Byte) : (s.setReg8 r v).pfx = s.pfx := by cases r <;> rfl
@[simp] theorem State.setReg8_mem (s : State) (r : Reg8) (v : Byte) : (s.setReg8 r v).mem = s.mem := by cases r <;> rfl

@[simp] theorem State.setAcc_eip (s : State) (sz : Size) (v : DWord) : (s.setAcc sz v).eip = s.eip :=
  by cases sz <;> rfl
@[simp] theorem State.setAcc_flags (s : State) (sz : Size) (v : DWord) : (s.setAcc sz v).flags = s.flags :=
  by cases sz <;> rfl
@[simp] theorem State.setAcc_seg (s : State) (sz : Size) (v : DWord) : (s.setAcc sz v).seg = s.seg :=
  by cases sz <;> rfl
@[simp] theorem State.setAcc_cpl (s : State) (sz : Size) (v : DWord) : (s.setAcc sz v).cpl = s.cpl :=
  by cases sz <;> rfl
@[simp] theorem State.setAcc_gdtr (s : State) (sz : Size) (v : DWord) : (s.setAcc sz v).gdtr = s.gdtr :=
  by cases sz <;> rfl
@[simp] theorem State.setAcc_idtr (s : State) (sz : Size) (v : DWord) : (s.setAcc sz v).idtr = s.idtr :=
  by cases sz <;> rfl
@[simp] theorem State.setAcc_ldtr (s : State) (sz : Size) (v : DWord) : (s.setAcc sz v).ldtr = s.ldtr :=
  by cases sz <;> rfl
@[simp] theorem State.setAcc_tr (s : State) (sz : Size) (v : DWord) : (s.setAcc sz v).tr = s.tr := by cases sz <;> rfl
@[simp] theorem State.setAcc_cr0 (s : State) (sz : Size) (v : DWord) : (s.setAcc sz v).cr0 = s.cr0 :=
  by cases sz <;> rfl
@[simp] theorem State.setAcc_cr2 (s : State) (sz : Size) (v : DWord) : (s.setAcc sz v).cr2 = s.cr2 :=
  by cases sz <;> rfl
@[simp] theorem State.setAcc_cr3 (s : State) (sz : Size) (v : DWord) : (s.setAcc sz v).cr3 = s.cr3 :=
  by cases sz <;> rfl
@[simp] theorem State.setAcc_dr (s : State) (sz : Size) (v : DWord) : (s.setAcc sz v).dr = s.dr := by cases sz <;> rfl
@[simp] theorem State.setAcc_tr6 (s : State) (sz : Size) (v : DWord) : (s.setAcc sz v).tr6 = s.tr6 :=
  by cases sz <;> rfl
@[simp] theorem State.setAcc_tr7 (s : State) (sz : Size) (v : DWord) : (s.setAcc sz v).tr7 = s.tr7 :=
  by cases sz <;> rfl
@[simp] theorem State.setAcc_inhibit (s : State) (sz : Size) (v : DWord) : (s.setAcc sz v).inhibit = s.inhibit :=
  by cases sz <;> rfl
@[simp] theorem State.setAcc_nmiBlocked (s : State) (sz : Size) (v : DWord) : (s.setAcc sz v).nmiBlocked = s.nmiBlocked :=
  by cases sz <;> rfl
@[simp] theorem State.setAcc_nmiPending (s : State) (sz : Size) (v : DWord) : (s.setAcc sz v).nmiPending = s.nmiPending :=
  by cases sz <;> rfl
@[simp] theorem State.setAcc_run (s : State) (sz : Size) (v : DWord) : (s.setAcc sz v).run = s.run :=
  by cases sz <;> rfl
@[simp] theorem State.setAcc_trapDue (s : State) (sz : Size) (v : DWord) : (s.setAcc sz v).trapDue = s.trapDue :=
  by cases sz <;> rfl
@[simp] theorem State.setAcc_pins (s : State) (sz : Size) (v : DWord) : (s.setAcc sz v).pins = s.pins :=
  by cases sz <;> rfl
@[simp] theorem State.setAcc_inputs (s : State) (sz : Size) (v : DWord) : (s.setAcc sz v).inputs = s.inputs :=
  by cases sz <;> rfl
@[simp] theorem State.setAcc_ioWrites (s : State) (sz : Size) (v : DWord) : (s.setAcc sz v).ioWrites = s.ioWrites :=
  by cases sz <;> rfl
@[simp] theorem State.setAcc_draws (s : State) (sz : Size) (v : DWord) : (s.setAcc sz v).draws = s.draws :=
  by cases sz <;> rfl
@[simp] theorem State.setAcc_insnStart (s : State) (sz : Size) (v : DWord) : (s.setAcc sz v).insnStart = s.insnStart :=
  by cases sz <;> rfl
@[simp] theorem State.setAcc_pfx (s : State) (sz : Size) (v : DWord) : (s.setAcc sz v).pfx = s.pfx :=
  by cases sz <;> rfl
@[simp] theorem State.setAcc_mem (s : State) (sz : Size) (v : DWord) : (s.setAcc sz v).mem = s.mem :=
  by cases sz <;> rfl

@[simp] theorem State.setSp_eip (s : State) (v : DWord) : (s.setSp v).eip = s.eip := by simp [State.setSp]
@[simp] theorem State.setSp_flags (s : State) (v : DWord) : (s.setSp v).flags = s.flags := by simp [State.setSp]
@[simp] theorem State.setSp_seg (s : State) (v : DWord) : (s.setSp v).seg = s.seg := by simp [State.setSp]
@[simp] theorem State.setSp_cpl (s : State) (v : DWord) : (s.setSp v).cpl = s.cpl := by simp [State.setSp]
@[simp] theorem State.setSp_gdtr (s : State) (v : DWord) : (s.setSp v).gdtr = s.gdtr := by simp [State.setSp]
@[simp] theorem State.setSp_idtr (s : State) (v : DWord) : (s.setSp v).idtr = s.idtr := by simp [State.setSp]
@[simp] theorem State.setSp_ldtr (s : State) (v : DWord) : (s.setSp v).ldtr = s.ldtr := by simp [State.setSp]
@[simp] theorem State.setSp_tr (s : State) (v : DWord) : (s.setSp v).tr = s.tr := by simp [State.setSp]
@[simp] theorem State.setSp_cr0 (s : State) (v : DWord) : (s.setSp v).cr0 = s.cr0 := by simp [State.setSp]
@[simp] theorem State.setSp_cr2 (s : State) (v : DWord) : (s.setSp v).cr2 = s.cr2 := by simp [State.setSp]
@[simp] theorem State.setSp_cr3 (s : State) (v : DWord) : (s.setSp v).cr3 = s.cr3 := by simp [State.setSp]
@[simp] theorem State.setSp_dr (s : State) (v : DWord) : (s.setSp v).dr = s.dr := by simp [State.setSp]
@[simp] theorem State.setSp_tr6 (s : State) (v : DWord) : (s.setSp v).tr6 = s.tr6 := by simp [State.setSp]
@[simp] theorem State.setSp_tr7 (s : State) (v : DWord) : (s.setSp v).tr7 = s.tr7 := by simp [State.setSp]
@[simp] theorem State.setSp_inhibit (s : State) (v : DWord) : (s.setSp v).inhibit = s.inhibit := by simp [State.setSp]
@[simp] theorem State.setSp_nmiBlocked (s : State) (v : DWord) : (s.setSp v).nmiBlocked = s.nmiBlocked :=
  by simp [State.setSp]
@[simp] theorem State.setSp_nmiPending (s : State) (v : DWord) : (s.setSp v).nmiPending = s.nmiPending :=
  by simp [State.setSp]
@[simp] theorem State.setSp_run (s : State) (v : DWord) : (s.setSp v).run = s.run := by simp [State.setSp]
@[simp] theorem State.setSp_trapDue (s : State) (v : DWord) : (s.setSp v).trapDue = s.trapDue := by simp [State.setSp]
@[simp] theorem State.setSp_pins (s : State) (v : DWord) : (s.setSp v).pins = s.pins := by simp [State.setSp]
@[simp] theorem State.setSp_inputs (s : State) (v : DWord) : (s.setSp v).inputs = s.inputs := by simp [State.setSp]
@[simp] theorem State.setSp_ioWrites (s : State) (v : DWord) : (s.setSp v).ioWrites = s.ioWrites :=
  by simp [State.setSp]
@[simp] theorem State.setSp_draws (s : State) (v : DWord) : (s.setSp v).draws = s.draws := by simp [State.setSp]
@[simp] theorem State.setSp_insnStart (s : State) (v : DWord) : (s.setSp v).insnStart = s.insnStart :=
  by simp [State.setSp]
@[simp] theorem State.setSp_pfx (s : State) (v : DWord) : (s.setSp v).pfx = s.pfx := by simp [State.setSp]
@[simp] theorem State.setSp_mem (s : State) (v : DWord) : (s.setSp v).mem = s.mem := by simp [State.setSp]

@[simp] theorem State.setWide_eip (s : State) (sz : Size) (lo hi : DWord) : (s.setWide sz lo hi).eip = s.eip :=
  by cases sz <;> simp [State.setWide]
@[simp] theorem State.setWide_flags (s : State) (sz : Size) (lo hi : DWord) : (s.setWide sz lo hi).flags = s.flags :=
  by cases sz <;> simp [State.setWide]
@[simp] theorem State.setWide_seg (s : State) (sz : Size) (lo hi : DWord) : (s.setWide sz lo hi).seg = s.seg :=
  by cases sz <;> simp [State.setWide]
@[simp] theorem State.setWide_cpl (s : State) (sz : Size) (lo hi : DWord) : (s.setWide sz lo hi).cpl = s.cpl :=
  by cases sz <;> simp [State.setWide]
@[simp] theorem State.setWide_gdtr (s : State) (sz : Size) (lo hi : DWord) : (s.setWide sz lo hi).gdtr = s.gdtr :=
  by cases sz <;> simp [State.setWide]
@[simp] theorem State.setWide_idtr (s : State) (sz : Size) (lo hi : DWord) : (s.setWide sz lo hi).idtr = s.idtr :=
  by cases sz <;> simp [State.setWide]
@[simp] theorem State.setWide_ldtr (s : State) (sz : Size) (lo hi : DWord) : (s.setWide sz lo hi).ldtr = s.ldtr :=
  by cases sz <;> simp [State.setWide]
@[simp] theorem State.setWide_tr (s : State) (sz : Size) (lo hi : DWord) : (s.setWide sz lo hi).tr = s.tr :=
  by cases sz <;> simp [State.setWide]
@[simp] theorem State.setWide_cr0 (s : State) (sz : Size) (lo hi : DWord) : (s.setWide sz lo hi).cr0 = s.cr0 :=
  by cases sz <;> simp [State.setWide]
@[simp] theorem State.setWide_cr2 (s : State) (sz : Size) (lo hi : DWord) : (s.setWide sz lo hi).cr2 = s.cr2 :=
  by cases sz <;> simp [State.setWide]
@[simp] theorem State.setWide_cr3 (s : State) (sz : Size) (lo hi : DWord) : (s.setWide sz lo hi).cr3 = s.cr3 :=
  by cases sz <;> simp [State.setWide]
@[simp] theorem State.setWide_dr (s : State) (sz : Size) (lo hi : DWord) : (s.setWide sz lo hi).dr = s.dr :=
  by cases sz <;> simp [State.setWide]
@[simp] theorem State.setWide_tr6 (s : State) (sz : Size) (lo hi : DWord) : (s.setWide sz lo hi).tr6 = s.tr6 :=
  by cases sz <;> simp [State.setWide]
@[simp] theorem State.setWide_tr7 (s : State) (sz : Size) (lo hi : DWord) : (s.setWide sz lo hi).tr7 = s.tr7 :=
  by cases sz <;> simp [State.setWide]
@[simp] theorem State.setWide_inhibit (s : State) (sz : Size) (lo hi : DWord) : (s.setWide sz lo hi).inhibit = s.inhibit :=
  by cases sz <;> simp [State.setWide]
@[simp] theorem State.setWide_nmiBlocked (s : State) (sz : Size) (lo hi : DWord) : (s.setWide sz lo hi).nmiBlocked = s.nmiBlocked :=
  by cases sz <;> simp [State.setWide]
@[simp] theorem State.setWide_nmiPending (s : State) (sz : Size) (lo hi : DWord) : (s.setWide sz lo hi).nmiPending = s.nmiPending :=
  by cases sz <;> simp [State.setWide]
@[simp] theorem State.setWide_run (s : State) (sz : Size) (lo hi : DWord) : (s.setWide sz lo hi).run = s.run :=
  by cases sz <;> simp [State.setWide]
@[simp] theorem State.setWide_trapDue (s : State) (sz : Size) (lo hi : DWord) : (s.setWide sz lo hi).trapDue = s.trapDue :=
  by cases sz <;> simp [State.setWide]
@[simp] theorem State.setWide_pins (s : State) (sz : Size) (lo hi : DWord) : (s.setWide sz lo hi).pins = s.pins :=
  by cases sz <;> simp [State.setWide]
@[simp] theorem State.setWide_inputs (s : State) (sz : Size) (lo hi : DWord) : (s.setWide sz lo hi).inputs = s.inputs :=
  by cases sz <;> simp [State.setWide]
@[simp] theorem State.setWide_ioWrites (s : State) (sz : Size) (lo hi : DWord) : (s.setWide sz lo hi).ioWrites = s.ioWrites :=
  by cases sz <;> simp [State.setWide]
@[simp] theorem State.setWide_draws (s : State) (sz : Size) (lo hi : DWord) : (s.setWide sz lo hi).draws = s.draws :=
  by cases sz <;> simp [State.setWide]
@[simp] theorem State.setWide_insnStart (s : State) (sz : Size) (lo hi : DWord) : (s.setWide sz lo hi).insnStart = s.insnStart :=
  by cases sz <;> simp [State.setWide]
@[simp] theorem State.setWide_pfx (s : State) (sz : Size) (lo hi : DWord) : (s.setWide sz lo hi).pfx = s.pfx :=
  by cases sz <;> simp [State.setWide]
@[simp] theorem State.setWide_mem (s : State) (sz : Size) (lo hi : DWord) : (s.setWide sz lo hi).mem = s.mem :=
  by cases sz <;> simp [State.setWide]

@[simp] theorem State.setSreg_gpr (s : State) (r : SReg) (v : SegReg) : (s.setSreg r v).gpr = s.gpr := rfl
@[simp] theorem State.setSreg_eip (s : State) (r : SReg) (v : SegReg) : (s.setSreg r v).eip = s.eip := rfl
@[simp] theorem State.setSreg_flags (s : State) (r : SReg) (v : SegReg) : (s.setSreg r v).flags = s.flags := rfl
@[simp] theorem State.setSreg_cpl (s : State) (r : SReg) (v : SegReg) : (s.setSreg r v).cpl = s.cpl := rfl
@[simp] theorem State.setSreg_gdtr (s : State) (r : SReg) (v : SegReg) : (s.setSreg r v).gdtr = s.gdtr := rfl
@[simp] theorem State.setSreg_idtr (s : State) (r : SReg) (v : SegReg) : (s.setSreg r v).idtr = s.idtr := rfl
@[simp] theorem State.setSreg_ldtr (s : State) (r : SReg) (v : SegReg) : (s.setSreg r v).ldtr = s.ldtr := rfl
@[simp] theorem State.setSreg_tr (s : State) (r : SReg) (v : SegReg) : (s.setSreg r v).tr = s.tr := rfl
@[simp] theorem State.setSreg_cr0 (s : State) (r : SReg) (v : SegReg) : (s.setSreg r v).cr0 = s.cr0 := rfl
@[simp] theorem State.setSreg_cr2 (s : State) (r : SReg) (v : SegReg) : (s.setSreg r v).cr2 = s.cr2 := rfl
@[simp] theorem State.setSreg_cr3 (s : State) (r : SReg) (v : SegReg) : (s.setSreg r v).cr3 = s.cr3 := rfl
@[simp] theorem State.setSreg_dr (s : State) (r : SReg) (v : SegReg) : (s.setSreg r v).dr = s.dr := rfl
@[simp] theorem State.setSreg_tr6 (s : State) (r : SReg) (v : SegReg) : (s.setSreg r v).tr6 = s.tr6 := rfl
@[simp] theorem State.setSreg_tr7 (s : State) (r : SReg) (v : SegReg) : (s.setSreg r v).tr7 = s.tr7 := rfl
@[simp] theorem State.setSreg_inhibit (s : State) (r : SReg) (v : SegReg) : (s.setSreg r v).inhibit = s.inhibit := rfl
@[simp] theorem State.setSreg_nmiBlocked (s : State) (r : SReg) (v : SegReg) : (s.setSreg r v).nmiBlocked = s.nmiBlocked :=
  rfl
@[simp] theorem State.setSreg_nmiPending (s : State) (r : SReg) (v : SegReg) : (s.setSreg r v).nmiPending = s.nmiPending :=
  rfl
@[simp] theorem State.setSreg_run (s : State) (r : SReg) (v : SegReg) : (s.setSreg r v).run = s.run := rfl
@[simp] theorem State.setSreg_trapDue (s : State) (r : SReg) (v : SegReg) : (s.setSreg r v).trapDue = s.trapDue := rfl
@[simp] theorem State.setSreg_pins (s : State) (r : SReg) (v : SegReg) : (s.setSreg r v).pins = s.pins := rfl
@[simp] theorem State.setSreg_inputs (s : State) (r : SReg) (v : SegReg) : (s.setSreg r v).inputs = s.inputs := rfl
@[simp] theorem State.setSreg_ioWrites (s : State) (r : SReg) (v : SegReg) : (s.setSreg r v).ioWrites = s.ioWrites :=
  rfl
@[simp] theorem State.setSreg_draws (s : State) (r : SReg) (v : SegReg) : (s.setSreg r v).draws = s.draws := rfl
@[simp] theorem State.setSreg_insnStart (s : State) (r : SReg) (v : SegReg) : (s.setSreg r v).insnStart = s.insnStart :=
  rfl
@[simp] theorem State.setSreg_pfx (s : State) (r : SReg) (v : SegReg) : (s.setSreg r v).pfx = s.pfx := rfl
@[simp] theorem State.setSreg_mem (s : State) (r : SReg) (v : SegReg) : (s.setSreg r v).mem = s.mem := rfl

@[simp] theorem State.load8086_gpr (s : State) (r : SReg) (sel : Word) : (s.load8086 r sel).gpr = s.gpr := rfl
@[simp] theorem State.load8086_eip (s : State) (r : SReg) (sel : Word) : (s.load8086 r sel).eip = s.eip := rfl
@[simp] theorem State.load8086_flags (s : State) (r : SReg) (sel : Word) : (s.load8086 r sel).flags = s.flags := rfl
@[simp] theorem State.load8086_cpl (s : State) (r : SReg) (sel : Word) : (s.load8086 r sel).cpl = s.cpl := rfl
@[simp] theorem State.load8086_gdtr (s : State) (r : SReg) (sel : Word) : (s.load8086 r sel).gdtr = s.gdtr := rfl
@[simp] theorem State.load8086_idtr (s : State) (r : SReg) (sel : Word) : (s.load8086 r sel).idtr = s.idtr := rfl
@[simp] theorem State.load8086_ldtr (s : State) (r : SReg) (sel : Word) : (s.load8086 r sel).ldtr = s.ldtr := rfl
@[simp] theorem State.load8086_tr (s : State) (r : SReg) (sel : Word) : (s.load8086 r sel).tr = s.tr := rfl
@[simp] theorem State.load8086_cr0 (s : State) (r : SReg) (sel : Word) : (s.load8086 r sel).cr0 = s.cr0 := rfl
@[simp] theorem State.load8086_cr2 (s : State) (r : SReg) (sel : Word) : (s.load8086 r sel).cr2 = s.cr2 := rfl
@[simp] theorem State.load8086_cr3 (s : State) (r : SReg) (sel : Word) : (s.load8086 r sel).cr3 = s.cr3 := rfl
@[simp] theorem State.load8086_dr (s : State) (r : SReg) (sel : Word) : (s.load8086 r sel).dr = s.dr := rfl
@[simp] theorem State.load8086_tr6 (s : State) (r : SReg) (sel : Word) : (s.load8086 r sel).tr6 = s.tr6 := rfl
@[simp] theorem State.load8086_tr7 (s : State) (r : SReg) (sel : Word) : (s.load8086 r sel).tr7 = s.tr7 := rfl
@[simp] theorem State.load8086_inhibit (s : State) (r : SReg) (sel : Word) : (s.load8086 r sel).inhibit = s.inhibit :=
  rfl
@[simp] theorem State.load8086_nmiBlocked (s : State) (r : SReg) (sel : Word) : (s.load8086 r sel).nmiBlocked = s.nmiBlocked :=
  rfl
@[simp] theorem State.load8086_nmiPending (s : State) (r : SReg) (sel : Word) : (s.load8086 r sel).nmiPending = s.nmiPending :=
  rfl
@[simp] theorem State.load8086_run (s : State) (r : SReg) (sel : Word) : (s.load8086 r sel).run = s.run := rfl
@[simp] theorem State.load8086_trapDue (s : State) (r : SReg) (sel : Word) : (s.load8086 r sel).trapDue = s.trapDue :=
  rfl
@[simp] theorem State.load8086_pins (s : State) (r : SReg) (sel : Word) : (s.load8086 r sel).pins = s.pins := rfl
@[simp] theorem State.load8086_inputs (s : State) (r : SReg) (sel : Word) : (s.load8086 r sel).inputs = s.inputs := rfl
@[simp] theorem State.load8086_ioWrites (s : State) (r : SReg) (sel : Word) : (s.load8086 r sel).ioWrites = s.ioWrites :=
  rfl
@[simp] theorem State.load8086_draws (s : State) (r : SReg) (sel : Word) : (s.load8086 r sel).draws = s.draws := rfl
@[simp] theorem State.load8086_insnStart (s : State) (r : SReg) (sel : Word) : (s.load8086 r sel).insnStart = s.insnStart :=
  rfl
@[simp] theorem State.load8086_pfx (s : State) (r : SReg) (sel : Word) : (s.load8086 r sel).pfx = s.pfx := rfl
@[simp] theorem State.load8086_mem (s : State) (r : SReg) (sel : Word) : (s.load8086 r sel).mem = s.mem := rfl

@[simp] theorem State.withCode_gpr (s : State) (f : Found) (sel : Word) (rpl : BitVec 2) (off : DWord) : (s.withCode f sel rpl off).gpr = s.gpr :=
  rfl
@[simp] theorem State.withCode_flags (s : State) (f : Found) (sel : Word) (rpl : BitVec 2) (off : DWord) : (s.withCode f sel rpl off).flags = s.flags :=
  rfl
@[simp] theorem State.withCode_cpl (s : State) (f : Found) (sel : Word) (rpl : BitVec 2) (off : DWord) : (s.withCode f sel rpl off).cpl = s.cpl :=
  rfl
@[simp] theorem State.withCode_gdtr (s : State) (f : Found) (sel : Word) (rpl : BitVec 2) (off : DWord) : (s.withCode f sel rpl off).gdtr = s.gdtr :=
  rfl
@[simp] theorem State.withCode_idtr (s : State) (f : Found) (sel : Word) (rpl : BitVec 2) (off : DWord) : (s.withCode f sel rpl off).idtr = s.idtr :=
  rfl
@[simp] theorem State.withCode_ldtr (s : State) (f : Found) (sel : Word) (rpl : BitVec 2) (off : DWord) : (s.withCode f sel rpl off).ldtr = s.ldtr :=
  rfl
@[simp] theorem State.withCode_tr (s : State) (f : Found) (sel : Word) (rpl : BitVec 2) (off : DWord) : (s.withCode f sel rpl off).tr = s.tr :=
  rfl
@[simp] theorem State.withCode_cr0 (s : State) (f : Found) (sel : Word) (rpl : BitVec 2) (off : DWord) : (s.withCode f sel rpl off).cr0 = s.cr0 :=
  rfl
@[simp] theorem State.withCode_cr2 (s : State) (f : Found) (sel : Word) (rpl : BitVec 2) (off : DWord) : (s.withCode f sel rpl off).cr2 = s.cr2 :=
  rfl
@[simp] theorem State.withCode_cr3 (s : State) (f : Found) (sel : Word) (rpl : BitVec 2) (off : DWord) : (s.withCode f sel rpl off).cr3 = s.cr3 :=
  rfl
@[simp] theorem State.withCode_dr (s : State) (f : Found) (sel : Word) (rpl : BitVec 2) (off : DWord) : (s.withCode f sel rpl off).dr = s.dr :=
  rfl
@[simp] theorem State.withCode_tr6 (s : State) (f : Found) (sel : Word) (rpl : BitVec 2) (off : DWord) : (s.withCode f sel rpl off).tr6 = s.tr6 :=
  rfl
@[simp] theorem State.withCode_tr7 (s : State) (f : Found) (sel : Word) (rpl : BitVec 2) (off : DWord) : (s.withCode f sel rpl off).tr7 = s.tr7 :=
  rfl
@[simp] theorem State.withCode_inhibit (s : State) (f : Found) (sel : Word) (rpl : BitVec 2) (off : DWord) : (s.withCode f sel rpl off).inhibit = s.inhibit :=
  rfl
@[simp] theorem State.withCode_nmiBlocked (s : State) (f : Found) (sel : Word) (rpl : BitVec 2) (off : DWord) : (s.withCode f sel rpl off).nmiBlocked = s.nmiBlocked :=
  rfl
@[simp] theorem State.withCode_nmiPending (s : State) (f : Found) (sel : Word) (rpl : BitVec 2) (off : DWord) : (s.withCode f sel rpl off).nmiPending = s.nmiPending :=
  rfl
@[simp] theorem State.withCode_run (s : State) (f : Found) (sel : Word) (rpl : BitVec 2) (off : DWord) : (s.withCode f sel rpl off).run = s.run :=
  rfl
@[simp] theorem State.withCode_trapDue (s : State) (f : Found) (sel : Word) (rpl : BitVec 2) (off : DWord) : (s.withCode f sel rpl off).trapDue = s.trapDue :=
  rfl
@[simp] theorem State.withCode_pins (s : State) (f : Found) (sel : Word) (rpl : BitVec 2) (off : DWord) : (s.withCode f sel rpl off).pins = s.pins :=
  rfl
@[simp] theorem State.withCode_inputs (s : State) (f : Found) (sel : Word) (rpl : BitVec 2) (off : DWord) : (s.withCode f sel rpl off).inputs = s.inputs :=
  rfl
@[simp] theorem State.withCode_ioWrites (s : State) (f : Found) (sel : Word) (rpl : BitVec 2) (off : DWord) : (s.withCode f sel rpl off).ioWrites = s.ioWrites :=
  rfl
@[simp] theorem State.withCode_draws (s : State) (f : Found) (sel : Word) (rpl : BitVec 2) (off : DWord) : (s.withCode f sel rpl off).draws = s.draws :=
  rfl
@[simp] theorem State.withCode_insnStart (s : State) (f : Found) (sel : Word) (rpl : BitVec 2) (off : DWord) : (s.withCode f sel rpl off).insnStart = s.insnStart :=
  rfl
@[simp] theorem State.withCode_pfx (s : State) (f : Found) (sel : Word) (rpl : BitVec 2) (off : DWord) : (s.withCode f sel rpl off).pfx = s.pfx :=
  rfl
@[simp] theorem State.withCode_mem (s : State) (f : Found) (sel : Word) (rpl : BitVec 2) (off : DWord) : (s.withCode f sel rpl off).mem = s.mem :=
  rfl

@[simp] theorem State.withStack_eip (s : State) (f : Found) (sel : Word) (sp : DWord) (cpl : BitVec 2) : (s.withStack f sel sp cpl).eip = s.eip :=
  by simp [State.withStack]
@[simp] theorem State.withStack_flags (s : State) (f : Found) (sel : Word) (sp : DWord) (cpl : BitVec 2) : (s.withStack f sel sp cpl).flags = s.flags :=
  by simp [State.withStack]
@[simp] theorem State.withStack_gdtr (s : State) (f : Found) (sel : Word) (sp : DWord) (cpl : BitVec 2) : (s.withStack f sel sp cpl).gdtr = s.gdtr :=
  by simp [State.withStack]
@[simp] theorem State.withStack_idtr (s : State) (f : Found) (sel : Word) (sp : DWord) (cpl : BitVec 2) : (s.withStack f sel sp cpl).idtr = s.idtr :=
  by simp [State.withStack]
@[simp] theorem State.withStack_ldtr (s : State) (f : Found) (sel : Word) (sp : DWord) (cpl : BitVec 2) : (s.withStack f sel sp cpl).ldtr = s.ldtr :=
  by simp [State.withStack]
@[simp] theorem State.withStack_tr (s : State) (f : Found) (sel : Word) (sp : DWord) (cpl : BitVec 2) : (s.withStack f sel sp cpl).tr = s.tr :=
  by simp [State.withStack]
@[simp] theorem State.withStack_cr0 (s : State) (f : Found) (sel : Word) (sp : DWord) (cpl : BitVec 2) : (s.withStack f sel sp cpl).cr0 = s.cr0 :=
  by simp [State.withStack]
@[simp] theorem State.withStack_cr2 (s : State) (f : Found) (sel : Word) (sp : DWord) (cpl : BitVec 2) : (s.withStack f sel sp cpl).cr2 = s.cr2 :=
  by simp [State.withStack]
@[simp] theorem State.withStack_cr3 (s : State) (f : Found) (sel : Word) (sp : DWord) (cpl : BitVec 2) : (s.withStack f sel sp cpl).cr3 = s.cr3 :=
  by simp [State.withStack]
@[simp] theorem State.withStack_dr (s : State) (f : Found) (sel : Word) (sp : DWord) (cpl : BitVec 2) : (s.withStack f sel sp cpl).dr = s.dr :=
  by simp [State.withStack]
@[simp] theorem State.withStack_tr6 (s : State) (f : Found) (sel : Word) (sp : DWord) (cpl : BitVec 2) : (s.withStack f sel sp cpl).tr6 = s.tr6 :=
  by simp [State.withStack]
@[simp] theorem State.withStack_tr7 (s : State) (f : Found) (sel : Word) (sp : DWord) (cpl : BitVec 2) : (s.withStack f sel sp cpl).tr7 = s.tr7 :=
  by simp [State.withStack]
@[simp] theorem State.withStack_inhibit (s : State) (f : Found) (sel : Word) (sp : DWord) (cpl : BitVec 2) : (s.withStack f sel sp cpl).inhibit = s.inhibit :=
  by simp [State.withStack]
@[simp] theorem State.withStack_nmiBlocked (s : State) (f : Found) (sel : Word) (sp : DWord) (cpl : BitVec 2) : (s.withStack f sel sp cpl).nmiBlocked = s.nmiBlocked :=
  by simp [State.withStack]
@[simp] theorem State.withStack_nmiPending (s : State) (f : Found) (sel : Word) (sp : DWord) (cpl : BitVec 2) : (s.withStack f sel sp cpl).nmiPending = s.nmiPending :=
  by simp [State.withStack]
@[simp] theorem State.withStack_run (s : State) (f : Found) (sel : Word) (sp : DWord) (cpl : BitVec 2) : (s.withStack f sel sp cpl).run = s.run :=
  by simp [State.withStack]
@[simp] theorem State.withStack_trapDue (s : State) (f : Found) (sel : Word) (sp : DWord) (cpl : BitVec 2) : (s.withStack f sel sp cpl).trapDue = s.trapDue :=
  by simp [State.withStack]
@[simp] theorem State.withStack_pins (s : State) (f : Found) (sel : Word) (sp : DWord) (cpl : BitVec 2) : (s.withStack f sel sp cpl).pins = s.pins :=
  by simp [State.withStack]
@[simp] theorem State.withStack_inputs (s : State) (f : Found) (sel : Word) (sp : DWord) (cpl : BitVec 2) : (s.withStack f sel sp cpl).inputs = s.inputs :=
  by simp [State.withStack]
@[simp] theorem State.withStack_ioWrites (s : State) (f : Found) (sel : Word) (sp : DWord) (cpl : BitVec 2) : (s.withStack f sel sp cpl).ioWrites = s.ioWrites :=
  by simp [State.withStack]
@[simp] theorem State.withStack_draws (s : State) (f : Found) (sel : Word) (sp : DWord) (cpl : BitVec 2) : (s.withStack f sel sp cpl).draws = s.draws :=
  by simp [State.withStack]
@[simp] theorem State.withStack_insnStart (s : State) (f : Found) (sel : Word) (sp : DWord) (cpl : BitVec 2) : (s.withStack f sel sp cpl).insnStart = s.insnStart :=
  by simp [State.withStack]
@[simp] theorem State.withStack_pfx (s : State) (f : Found) (sel : Word) (sp : DWord) (cpl : BitVec 2) : (s.withStack f sel sp cpl).pfx = s.pfx :=
  by simp [State.withStack]
@[simp] theorem State.withStack_mem (s : State) (f : Found) (sel : Word) (sp : DWord) (cpl : BitVec 2) : (s.withStack f sel sp cpl).mem = s.mem :=
  by simp [State.withStack]

@[simp] theorem State.noteFault_gpr (s : State) (e : Exc) : (s.noteFault e).gpr = s.gpr := rfl
@[simp] theorem State.noteFault_eip (s : State) (e : Exc) : (s.noteFault e).eip = s.eip := rfl
@[simp] theorem State.noteFault_flags (s : State) (e : Exc) : (s.noteFault e).flags = s.flags := rfl
@[simp] theorem State.noteFault_seg (s : State) (e : Exc) : (s.noteFault e).seg = s.seg := rfl
@[simp] theorem State.noteFault_cpl (s : State) (e : Exc) : (s.noteFault e).cpl = s.cpl := rfl
@[simp] theorem State.noteFault_gdtr (s : State) (e : Exc) : (s.noteFault e).gdtr = s.gdtr := rfl
@[simp] theorem State.noteFault_idtr (s : State) (e : Exc) : (s.noteFault e).idtr = s.idtr := rfl
@[simp] theorem State.noteFault_ldtr (s : State) (e : Exc) : (s.noteFault e).ldtr = s.ldtr := rfl
@[simp] theorem State.noteFault_tr (s : State) (e : Exc) : (s.noteFault e).tr = s.tr := rfl
@[simp] theorem State.noteFault_cr0 (s : State) (e : Exc) : (s.noteFault e).cr0 = s.cr0 := rfl
@[simp] theorem State.noteFault_cr3 (s : State) (e : Exc) : (s.noteFault e).cr3 = s.cr3 := rfl
@[simp] theorem State.noteFault_dr (s : State) (e : Exc) : (s.noteFault e).dr = s.dr := rfl
@[simp] theorem State.noteFault_tr6 (s : State) (e : Exc) : (s.noteFault e).tr6 = s.tr6 := rfl
@[simp] theorem State.noteFault_tr7 (s : State) (e : Exc) : (s.noteFault e).tr7 = s.tr7 := rfl
@[simp] theorem State.noteFault_inhibit (s : State) (e : Exc) : (s.noteFault e).inhibit = s.inhibit := rfl
@[simp] theorem State.noteFault_nmiBlocked (s : State) (e : Exc) : (s.noteFault e).nmiBlocked = s.nmiBlocked := rfl
@[simp] theorem State.noteFault_nmiPending (s : State) (e : Exc) : (s.noteFault e).nmiPending = s.nmiPending := rfl
@[simp] theorem State.noteFault_run (s : State) (e : Exc) : (s.noteFault e).run = s.run := rfl
@[simp] theorem State.noteFault_trapDue (s : State) (e : Exc) : (s.noteFault e).trapDue = s.trapDue := rfl
@[simp] theorem State.noteFault_pins (s : State) (e : Exc) : (s.noteFault e).pins = s.pins := rfl
@[simp] theorem State.noteFault_inputs (s : State) (e : Exc) : (s.noteFault e).inputs = s.inputs := rfl
@[simp] theorem State.noteFault_ioWrites (s : State) (e : Exc) : (s.noteFault e).ioWrites = s.ioWrites := rfl
@[simp] theorem State.noteFault_draws (s : State) (e : Exc) : (s.noteFault e).draws = s.draws := rfl
@[simp] theorem State.noteFault_insnStart (s : State) (e : Exc) : (s.noteFault e).insnStart = s.insnStart := rfl
@[simp] theorem State.noteFault_pfx (s : State) (e : Exc) : (s.noteFault e).pfx = s.pfx := rfl
@[simp] theorem State.noteFault_mem (s : State) (e : Exc) : (s.noteFault e).mem = s.mem := rfl

@[simp] theorem State.begin_gpr (s : State) : (s.begin).gpr = s.gpr := rfl
@[simp] theorem State.begin_eip (s : State) : (s.begin).eip = s.eip := rfl
@[simp] theorem State.begin_flags (s : State) : (s.begin).flags = s.flags := rfl
@[simp] theorem State.begin_seg (s : State) : (s.begin).seg = s.seg := rfl
@[simp] theorem State.begin_cpl (s : State) : (s.begin).cpl = s.cpl := rfl
@[simp] theorem State.begin_gdtr (s : State) : (s.begin).gdtr = s.gdtr := rfl
@[simp] theorem State.begin_idtr (s : State) : (s.begin).idtr = s.idtr := rfl
@[simp] theorem State.begin_ldtr (s : State) : (s.begin).ldtr = s.ldtr := rfl
@[simp] theorem State.begin_tr (s : State) : (s.begin).tr = s.tr := rfl
@[simp] theorem State.begin_cr0 (s : State) : (s.begin).cr0 = s.cr0 := rfl
@[simp] theorem State.begin_cr2 (s : State) : (s.begin).cr2 = s.cr2 := rfl
@[simp] theorem State.begin_cr3 (s : State) : (s.begin).cr3 = s.cr3 := rfl
@[simp] theorem State.begin_dr (s : State) : (s.begin).dr = s.dr := rfl
@[simp] theorem State.begin_tr6 (s : State) : (s.begin).tr6 = s.tr6 := rfl
@[simp] theorem State.begin_tr7 (s : State) : (s.begin).tr7 = s.tr7 := rfl
@[simp] theorem State.begin_inhibit (s : State) : (s.begin).inhibit = s.inhibit := rfl
@[simp] theorem State.begin_nmiBlocked (s : State) : (s.begin).nmiBlocked = s.nmiBlocked := rfl
@[simp] theorem State.begin_nmiPending (s : State) : (s.begin).nmiPending = s.nmiPending := rfl
@[simp] theorem State.begin_run (s : State) : (s.begin).run = s.run := rfl
@[simp] theorem State.begin_pins (s : State) : (s.begin).pins = s.pins := rfl
@[simp] theorem State.begin_inputs (s : State) : (s.begin).inputs = s.inputs := rfl
@[simp] theorem State.begin_ioWrites (s : State) : (s.begin).ioWrites = s.ioWrites := rfl
@[simp] theorem State.begin_draws (s : State) : (s.begin).draws = s.draws := rfl
@[simp] theorem State.begin_mem (s : State) : (s.begin).mem = s.mem := rfl

@[simp] theorem State.past_gpr (s : State) (n : Nat) : (s.past n).gpr = s.gpr := rfl
@[simp] theorem State.past_flags (s : State) (n : Nat) : (s.past n).flags = s.flags := rfl
@[simp] theorem State.past_seg (s : State) (n : Nat) : (s.past n).seg = s.seg := rfl
@[simp] theorem State.past_cpl (s : State) (n : Nat) : (s.past n).cpl = s.cpl := rfl
@[simp] theorem State.past_gdtr (s : State) (n : Nat) : (s.past n).gdtr = s.gdtr := rfl
@[simp] theorem State.past_idtr (s : State) (n : Nat) : (s.past n).idtr = s.idtr := rfl
@[simp] theorem State.past_ldtr (s : State) (n : Nat) : (s.past n).ldtr = s.ldtr := rfl
@[simp] theorem State.past_tr (s : State) (n : Nat) : (s.past n).tr = s.tr := rfl
@[simp] theorem State.past_cr0 (s : State) (n : Nat) : (s.past n).cr0 = s.cr0 := rfl
@[simp] theorem State.past_cr2 (s : State) (n : Nat) : (s.past n).cr2 = s.cr2 := rfl
@[simp] theorem State.past_cr3 (s : State) (n : Nat) : (s.past n).cr3 = s.cr3 := rfl
@[simp] theorem State.past_dr (s : State) (n : Nat) : (s.past n).dr = s.dr := rfl
@[simp] theorem State.past_tr6 (s : State) (n : Nat) : (s.past n).tr6 = s.tr6 := rfl
@[simp] theorem State.past_tr7 (s : State) (n : Nat) : (s.past n).tr7 = s.tr7 := rfl
@[simp] theorem State.past_inhibit (s : State) (n : Nat) : (s.past n).inhibit = s.inhibit := rfl
@[simp] theorem State.past_nmiBlocked (s : State) (n : Nat) : (s.past n).nmiBlocked = s.nmiBlocked := rfl
@[simp] theorem State.past_nmiPending (s : State) (n : Nat) : (s.past n).nmiPending = s.nmiPending := rfl
@[simp] theorem State.past_run (s : State) (n : Nat) : (s.past n).run = s.run := rfl
@[simp] theorem State.past_trapDue (s : State) (n : Nat) : (s.past n).trapDue = s.trapDue := rfl
@[simp] theorem State.past_pins (s : State) (n : Nat) : (s.past n).pins = s.pins := rfl
@[simp] theorem State.past_inputs (s : State) (n : Nat) : (s.past n).inputs = s.inputs := rfl
@[simp] theorem State.past_ioWrites (s : State) (n : Nat) : (s.past n).ioWrites = s.ioWrites := rfl
@[simp] theorem State.past_draws (s : State) (n : Nat) : (s.past n).draws = s.draws := rfl
@[simp] theorem State.past_insnStart (s : State) (n : Nat) : (s.past n).insnStart = s.insnStart := rfl
@[simp] theorem State.past_pfx (s : State) (n : Nat) : (s.past n).pfx = s.pfx := rfl
@[simp] theorem State.past_mem (s : State) (n : Nat) : (s.past n).mem = s.mem := rfl

@[simp] theorem State.storedAt_gpr (s : State) (seg : SReg) (off : DWord) (n : Nat) (v : DWord) : (s.storedAt seg off n v).gpr = s.gpr :=
  rfl
@[simp] theorem State.storedAt_eip (s : State) (seg : SReg) (off : DWord) (n : Nat) (v : DWord) : (s.storedAt seg off n v).eip = s.eip :=
  rfl
@[simp] theorem State.storedAt_flags (s : State) (seg : SReg) (off : DWord) (n : Nat) (v : DWord) : (s.storedAt seg off n v).flags = s.flags :=
  rfl
@[simp] theorem State.storedAt_seg (s : State) (seg : SReg) (off : DWord) (n : Nat) (v : DWord) : (s.storedAt seg off n v).seg = s.seg :=
  rfl
@[simp] theorem State.storedAt_cpl (s : State) (seg : SReg) (off : DWord) (n : Nat) (v : DWord) : (s.storedAt seg off n v).cpl = s.cpl :=
  rfl
@[simp] theorem State.storedAt_gdtr (s : State) (seg : SReg) (off : DWord) (n : Nat) (v : DWord) : (s.storedAt seg off n v).gdtr = s.gdtr :=
  rfl
@[simp] theorem State.storedAt_idtr (s : State) (seg : SReg) (off : DWord) (n : Nat) (v : DWord) : (s.storedAt seg off n v).idtr = s.idtr :=
  rfl
@[simp] theorem State.storedAt_ldtr (s : State) (seg : SReg) (off : DWord) (n : Nat) (v : DWord) : (s.storedAt seg off n v).ldtr = s.ldtr :=
  rfl
@[simp] theorem State.storedAt_tr (s : State) (seg : SReg) (off : DWord) (n : Nat) (v : DWord) : (s.storedAt seg off n v).tr = s.tr :=
  rfl
@[simp] theorem State.storedAt_cr0 (s : State) (seg : SReg) (off : DWord) (n : Nat) (v : DWord) : (s.storedAt seg off n v).cr0 = s.cr0 :=
  rfl
@[simp] theorem State.storedAt_cr2 (s : State) (seg : SReg) (off : DWord) (n : Nat) (v : DWord) : (s.storedAt seg off n v).cr2 = s.cr2 :=
  rfl
@[simp] theorem State.storedAt_cr3 (s : State) (seg : SReg) (off : DWord) (n : Nat) (v : DWord) : (s.storedAt seg off n v).cr3 = s.cr3 :=
  rfl
@[simp] theorem State.storedAt_dr (s : State) (seg : SReg) (off : DWord) (n : Nat) (v : DWord) : (s.storedAt seg off n v).dr = s.dr :=
  rfl
@[simp] theorem State.storedAt_tr6 (s : State) (seg : SReg) (off : DWord) (n : Nat) (v : DWord) : (s.storedAt seg off n v).tr6 = s.tr6 :=
  rfl
@[simp] theorem State.storedAt_tr7 (s : State) (seg : SReg) (off : DWord) (n : Nat) (v : DWord) : (s.storedAt seg off n v).tr7 = s.tr7 :=
  rfl
@[simp] theorem State.storedAt_inhibit (s : State) (seg : SReg) (off : DWord) (n : Nat) (v : DWord) : (s.storedAt seg off n v).inhibit = s.inhibit :=
  rfl
@[simp] theorem State.storedAt_nmiBlocked (s : State) (seg : SReg) (off : DWord) (n : Nat) (v : DWord) : (s.storedAt seg off n v).nmiBlocked = s.nmiBlocked :=
  rfl
@[simp] theorem State.storedAt_nmiPending (s : State) (seg : SReg) (off : DWord) (n : Nat) (v : DWord) : (s.storedAt seg off n v).nmiPending = s.nmiPending :=
  rfl
@[simp] theorem State.storedAt_run (s : State) (seg : SReg) (off : DWord) (n : Nat) (v : DWord) : (s.storedAt seg off n v).run = s.run :=
  rfl
@[simp] theorem State.storedAt_trapDue (s : State) (seg : SReg) (off : DWord) (n : Nat) (v : DWord) : (s.storedAt seg off n v).trapDue = s.trapDue :=
  rfl
@[simp] theorem State.storedAt_pins (s : State) (seg : SReg) (off : DWord) (n : Nat) (v : DWord) : (s.storedAt seg off n v).pins = s.pins :=
  rfl
@[simp] theorem State.storedAt_inputs (s : State) (seg : SReg) (off : DWord) (n : Nat) (v : DWord) : (s.storedAt seg off n v).inputs = s.inputs :=
  rfl
@[simp] theorem State.storedAt_ioWrites (s : State) (seg : SReg) (off : DWord) (n : Nat) (v : DWord) : (s.storedAt seg off n v).ioWrites = s.ioWrites :=
  rfl
@[simp] theorem State.storedAt_draws (s : State) (seg : SReg) (off : DWord) (n : Nat) (v : DWord) : (s.storedAt seg off n v).draws = s.draws :=
  rfl
@[simp] theorem State.storedAt_insnStart (s : State) (seg : SReg) (off : DWord) (n : Nat) (v : DWord) : (s.storedAt seg off n v).insnStart = s.insnStart :=
  rfl
@[simp] theorem State.storedAt_pfx (s : State) (seg : SReg) (off : DWord) (n : Nat) (v : DWord) : (s.storedAt seg off n v).pfx = s.pfx :=
  rfl

@[simp] theorem State.stored_eip (s : State) (sz : Size) (l : Loc) (v : DWord) : (s.stored sz l v).eip = s.eip :=
  by cases l <;> simp [State.stored]
@[simp] theorem State.stored_flags (s : State) (sz : Size) (l : Loc) (v : DWord) : (s.stored sz l v).flags = s.flags :=
  by cases l <;> simp [State.stored]
@[simp] theorem State.stored_seg (s : State) (sz : Size) (l : Loc) (v : DWord) : (s.stored sz l v).seg = s.seg :=
  by cases l <;> simp [State.stored]
@[simp] theorem State.stored_cpl (s : State) (sz : Size) (l : Loc) (v : DWord) : (s.stored sz l v).cpl = s.cpl :=
  by cases l <;> simp [State.stored]
@[simp] theorem State.stored_gdtr (s : State) (sz : Size) (l : Loc) (v : DWord) : (s.stored sz l v).gdtr = s.gdtr :=
  by cases l <;> simp [State.stored]
@[simp] theorem State.stored_idtr (s : State) (sz : Size) (l : Loc) (v : DWord) : (s.stored sz l v).idtr = s.idtr :=
  by cases l <;> simp [State.stored]
@[simp] theorem State.stored_ldtr (s : State) (sz : Size) (l : Loc) (v : DWord) : (s.stored sz l v).ldtr = s.ldtr :=
  by cases l <;> simp [State.stored]
@[simp] theorem State.stored_tr (s : State) (sz : Size) (l : Loc) (v : DWord) : (s.stored sz l v).tr = s.tr :=
  by cases l <;> simp [State.stored]
@[simp] theorem State.stored_cr0 (s : State) (sz : Size) (l : Loc) (v : DWord) : (s.stored sz l v).cr0 = s.cr0 :=
  by cases l <;> simp [State.stored]
@[simp] theorem State.stored_cr2 (s : State) (sz : Size) (l : Loc) (v : DWord) : (s.stored sz l v).cr2 = s.cr2 :=
  by cases l <;> simp [State.stored]
@[simp] theorem State.stored_cr3 (s : State) (sz : Size) (l : Loc) (v : DWord) : (s.stored sz l v).cr3 = s.cr3 :=
  by cases l <;> simp [State.stored]
@[simp] theorem State.stored_dr (s : State) (sz : Size) (l : Loc) (v : DWord) : (s.stored sz l v).dr = s.dr :=
  by cases l <;> simp [State.stored]
@[simp] theorem State.stored_tr6 (s : State) (sz : Size) (l : Loc) (v : DWord) : (s.stored sz l v).tr6 = s.tr6 :=
  by cases l <;> simp [State.stored]
@[simp] theorem State.stored_tr7 (s : State) (sz : Size) (l : Loc) (v : DWord) : (s.stored sz l v).tr7 = s.tr7 :=
  by cases l <;> simp [State.stored]
@[simp] theorem State.stored_inhibit (s : State) (sz : Size) (l : Loc) (v : DWord) : (s.stored sz l v).inhibit = s.inhibit :=
  by cases l <;> simp [State.stored]
@[simp] theorem State.stored_nmiBlocked (s : State) (sz : Size) (l : Loc) (v : DWord) : (s.stored sz l v).nmiBlocked = s.nmiBlocked :=
  by cases l <;> simp [State.stored]
@[simp] theorem State.stored_nmiPending (s : State) (sz : Size) (l : Loc) (v : DWord) : (s.stored sz l v).nmiPending = s.nmiPending :=
  by cases l <;> simp [State.stored]
@[simp] theorem State.stored_run (s : State) (sz : Size) (l : Loc) (v : DWord) : (s.stored sz l v).run = s.run :=
  by cases l <;> simp [State.stored]
@[simp] theorem State.stored_trapDue (s : State) (sz : Size) (l : Loc) (v : DWord) : (s.stored sz l v).trapDue = s.trapDue :=
  by cases l <;> simp [State.stored]
@[simp] theorem State.stored_pins (s : State) (sz : Size) (l : Loc) (v : DWord) : (s.stored sz l v).pins = s.pins :=
  by cases l <;> simp [State.stored]
@[simp] theorem State.stored_inputs (s : State) (sz : Size) (l : Loc) (v : DWord) : (s.stored sz l v).inputs = s.inputs :=
  by cases l <;> simp [State.stored]
@[simp] theorem State.stored_ioWrites (s : State) (sz : Size) (l : Loc) (v : DWord) : (s.stored sz l v).ioWrites = s.ioWrites :=
  by cases l <;> simp [State.stored]
@[simp] theorem State.stored_draws (s : State) (sz : Size) (l : Loc) (v : DWord) : (s.stored sz l v).draws = s.draws :=
  by cases l <;> simp [State.stored]
@[simp] theorem State.stored_insnStart (s : State) (sz : Size) (l : Loc) (v : DWord) : (s.stored sz l v).insnStart = s.insnStart :=
  by cases l <;> simp [State.stored]
@[simp] theorem State.stored_pfx (s : State) (sz : Size) (l : Loc) (v : DWord) : (s.stored sz l v).pfx = s.pfx :=
  by cases l <;> simp [State.stored]

@[simp] theorem State.undefined_gpr (s : State) (m : StatusMask) : (s.undefined m).gpr = s.gpr := rfl
@[simp] theorem State.undefined_eip (s : State) (m : StatusMask) : (s.undefined m).eip = s.eip := rfl
@[simp] theorem State.undefined_seg (s : State) (m : StatusMask) : (s.undefined m).seg = s.seg := rfl
@[simp] theorem State.undefined_cpl (s : State) (m : StatusMask) : (s.undefined m).cpl = s.cpl := rfl
@[simp] theorem State.undefined_gdtr (s : State) (m : StatusMask) : (s.undefined m).gdtr = s.gdtr := rfl
@[simp] theorem State.undefined_idtr (s : State) (m : StatusMask) : (s.undefined m).idtr = s.idtr := rfl
@[simp] theorem State.undefined_ldtr (s : State) (m : StatusMask) : (s.undefined m).ldtr = s.ldtr := rfl
@[simp] theorem State.undefined_tr (s : State) (m : StatusMask) : (s.undefined m).tr = s.tr := rfl
@[simp] theorem State.undefined_cr0 (s : State) (m : StatusMask) : (s.undefined m).cr0 = s.cr0 := rfl
@[simp] theorem State.undefined_cr2 (s : State) (m : StatusMask) : (s.undefined m).cr2 = s.cr2 := rfl
@[simp] theorem State.undefined_cr3 (s : State) (m : StatusMask) : (s.undefined m).cr3 = s.cr3 := rfl
@[simp] theorem State.undefined_dr (s : State) (m : StatusMask) : (s.undefined m).dr = s.dr := rfl
@[simp] theorem State.undefined_tr6 (s : State) (m : StatusMask) : (s.undefined m).tr6 = s.tr6 := rfl
@[simp] theorem State.undefined_tr7 (s : State) (m : StatusMask) : (s.undefined m).tr7 = s.tr7 := rfl
@[simp] theorem State.undefined_inhibit (s : State) (m : StatusMask) : (s.undefined m).inhibit = s.inhibit := rfl
@[simp] theorem State.undefined_nmiBlocked (s : State) (m : StatusMask) : (s.undefined m).nmiBlocked = s.nmiBlocked :=
  rfl
@[simp] theorem State.undefined_nmiPending (s : State) (m : StatusMask) : (s.undefined m).nmiPending = s.nmiPending :=
  rfl
@[simp] theorem State.undefined_run (s : State) (m : StatusMask) : (s.undefined m).run = s.run := rfl
@[simp] theorem State.undefined_trapDue (s : State) (m : StatusMask) : (s.undefined m).trapDue = s.trapDue := rfl
@[simp] theorem State.undefined_pins (s : State) (m : StatusMask) : (s.undefined m).pins = s.pins := rfl
@[simp] theorem State.undefined_inputs (s : State) (m : StatusMask) : (s.undefined m).inputs = s.inputs := rfl
@[simp] theorem State.undefined_ioWrites (s : State) (m : StatusMask) : (s.undefined m).ioWrites = s.ioWrites := rfl
@[simp] theorem State.undefined_insnStart (s : State) (m : StatusMask) : (s.undefined m).insnStart = s.insnStart := rfl
@[simp] theorem State.undefined_pfx (s : State) (m : StatusMask) : (s.undefined m).pfx = s.pfx := rfl
@[simp] theorem State.undefined_mem (s : State) (m : StatusMask) : (s.undefined m).mem = s.mem := rfl

@[simp] theorem State.pushed_eip (s : State) (w : Width) (v : DWord) : (s.pushed w v).eip = s.eip :=
  by simp [State.pushed]
@[simp] theorem State.pushed_flags (s : State) (w : Width) (v : DWord) : (s.pushed w v).flags = s.flags :=
  by simp [State.pushed]
@[simp] theorem State.pushed_seg (s : State) (w : Width) (v : DWord) : (s.pushed w v).seg = s.seg :=
  by simp [State.pushed]
@[simp] theorem State.pushed_cpl (s : State) (w : Width) (v : DWord) : (s.pushed w v).cpl = s.cpl :=
  by simp [State.pushed]
@[simp] theorem State.pushed_gdtr (s : State) (w : Width) (v : DWord) : (s.pushed w v).gdtr = s.gdtr :=
  by simp [State.pushed]
@[simp] theorem State.pushed_idtr (s : State) (w : Width) (v : DWord) : (s.pushed w v).idtr = s.idtr :=
  by simp [State.pushed]
@[simp] theorem State.pushed_ldtr (s : State) (w : Width) (v : DWord) : (s.pushed w v).ldtr = s.ldtr :=
  by simp [State.pushed]
@[simp] theorem State.pushed_tr (s : State) (w : Width) (v : DWord) : (s.pushed w v).tr = s.tr :=
  by simp [State.pushed]
@[simp] theorem State.pushed_cr0 (s : State) (w : Width) (v : DWord) : (s.pushed w v).cr0 = s.cr0 :=
  by simp [State.pushed]
@[simp] theorem State.pushed_cr2 (s : State) (w : Width) (v : DWord) : (s.pushed w v).cr2 = s.cr2 :=
  by simp [State.pushed]
@[simp] theorem State.pushed_cr3 (s : State) (w : Width) (v : DWord) : (s.pushed w v).cr3 = s.cr3 :=
  by simp [State.pushed]
@[simp] theorem State.pushed_dr (s : State) (w : Width) (v : DWord) : (s.pushed w v).dr = s.dr :=
  by simp [State.pushed]
@[simp] theorem State.pushed_tr6 (s : State) (w : Width) (v : DWord) : (s.pushed w v).tr6 = s.tr6 :=
  by simp [State.pushed]
@[simp] theorem State.pushed_tr7 (s : State) (w : Width) (v : DWord) : (s.pushed w v).tr7 = s.tr7 :=
  by simp [State.pushed]
@[simp] theorem State.pushed_inhibit (s : State) (w : Width) (v : DWord) : (s.pushed w v).inhibit = s.inhibit :=
  by simp [State.pushed]
@[simp] theorem State.pushed_nmiBlocked (s : State) (w : Width) (v : DWord) : (s.pushed w v).nmiBlocked = s.nmiBlocked :=
  by simp [State.pushed]
@[simp] theorem State.pushed_nmiPending (s : State) (w : Width) (v : DWord) : (s.pushed w v).nmiPending = s.nmiPending :=
  by simp [State.pushed]
@[simp] theorem State.pushed_run (s : State) (w : Width) (v : DWord) : (s.pushed w v).run = s.run :=
  by simp [State.pushed]
@[simp] theorem State.pushed_trapDue (s : State) (w : Width) (v : DWord) : (s.pushed w v).trapDue = s.trapDue :=
  by simp [State.pushed]
@[simp] theorem State.pushed_pins (s : State) (w : Width) (v : DWord) : (s.pushed w v).pins = s.pins :=
  by simp [State.pushed]
@[simp] theorem State.pushed_inputs (s : State) (w : Width) (v : DWord) : (s.pushed w v).inputs = s.inputs :=
  by simp [State.pushed]
@[simp] theorem State.pushed_ioWrites (s : State) (w : Width) (v : DWord) : (s.pushed w v).ioWrites = s.ioWrites :=
  by simp [State.pushed]
@[simp] theorem State.pushed_draws (s : State) (w : Width) (v : DWord) : (s.pushed w v).draws = s.draws :=
  by simp [State.pushed]
@[simp] theorem State.pushed_insnStart (s : State) (w : Width) (v : DWord) : (s.pushed w v).insnStart = s.insnStart :=
  by simp [State.pushed]
@[simp] theorem State.pushed_pfx (s : State) (w : Width) (v : DWord) : (s.pushed w v).pfx = s.pfx :=
  by simp [State.pushed]

@[simp] theorem State.popped_eip (s : State) (w : Width) : (s.popped w).eip = s.eip := by simp [State.popped]
@[simp] theorem State.popped_flags (s : State) (w : Width) : (s.popped w).flags = s.flags := by simp [State.popped]
@[simp] theorem State.popped_seg (s : State) (w : Width) : (s.popped w).seg = s.seg := by simp [State.popped]
@[simp] theorem State.popped_cpl (s : State) (w : Width) : (s.popped w).cpl = s.cpl := by simp [State.popped]
@[simp] theorem State.popped_gdtr (s : State) (w : Width) : (s.popped w).gdtr = s.gdtr := by simp [State.popped]
@[simp] theorem State.popped_idtr (s : State) (w : Width) : (s.popped w).idtr = s.idtr := by simp [State.popped]
@[simp] theorem State.popped_ldtr (s : State) (w : Width) : (s.popped w).ldtr = s.ldtr := by simp [State.popped]
@[simp] theorem State.popped_tr (s : State) (w : Width) : (s.popped w).tr = s.tr := by simp [State.popped]
@[simp] theorem State.popped_cr0 (s : State) (w : Width) : (s.popped w).cr0 = s.cr0 := by simp [State.popped]
@[simp] theorem State.popped_cr2 (s : State) (w : Width) : (s.popped w).cr2 = s.cr2 := by simp [State.popped]
@[simp] theorem State.popped_cr3 (s : State) (w : Width) : (s.popped w).cr3 = s.cr3 := by simp [State.popped]
@[simp] theorem State.popped_dr (s : State) (w : Width) : (s.popped w).dr = s.dr := by simp [State.popped]
@[simp] theorem State.popped_tr6 (s : State) (w : Width) : (s.popped w).tr6 = s.tr6 := by simp [State.popped]
@[simp] theorem State.popped_tr7 (s : State) (w : Width) : (s.popped w).tr7 = s.tr7 := by simp [State.popped]
@[simp] theorem State.popped_inhibit (s : State) (w : Width) : (s.popped w).inhibit = s.inhibit :=
  by simp [State.popped]
@[simp] theorem State.popped_nmiBlocked (s : State) (w : Width) : (s.popped w).nmiBlocked = s.nmiBlocked :=
  by simp [State.popped]
@[simp] theorem State.popped_nmiPending (s : State) (w : Width) : (s.popped w).nmiPending = s.nmiPending :=
  by simp [State.popped]
@[simp] theorem State.popped_run (s : State) (w : Width) : (s.popped w).run = s.run := by simp [State.popped]
@[simp] theorem State.popped_trapDue (s : State) (w : Width) : (s.popped w).trapDue = s.trapDue :=
  by simp [State.popped]
@[simp] theorem State.popped_pins (s : State) (w : Width) : (s.popped w).pins = s.pins := by simp [State.popped]
@[simp] theorem State.popped_inputs (s : State) (w : Width) : (s.popped w).inputs = s.inputs := by simp [State.popped]
@[simp] theorem State.popped_ioWrites (s : State) (w : Width) : (s.popped w).ioWrites = s.ioWrites :=
  by simp [State.popped]
@[simp] theorem State.popped_draws (s : State) (w : Width) : (s.popped w).draws = s.draws := by simp [State.popped]
@[simp] theorem State.popped_insnStart (s : State) (w : Width) : (s.popped w).insnStart = s.insnStart :=
  by simp [State.popped]
@[simp] theorem State.popped_pfx (s : State) (w : Width) : (s.popped w).pfx = s.pfx := by simp [State.popped]
@[simp] theorem State.popped_mem (s : State) (w : Width) : (s.popped w).mem = s.mem := by simp [State.popped]

/-! ### Registers read back -/

@[simp] theorem Gprs.get_set_same (g : Gprs) (r : Reg) (v : DWord) : (g.set r v).get r = v := by cases r <;> rfl

theorem Gprs.get_set_other (g : Gprs) (r r' : Reg) (v : DWord) (h : r' ≠ r) : (g.set r v).get r' = g.get r' := by
  cases r <;> cases r' <;> first | rfl | exact absurd rfl h

@[simp] theorem State.reg_setReg_same (s : State) (r : Reg) (v : DWord) : (s.setReg r v).reg r = v :=
  Gprs.get_set_same s.gpr r v

theorem State.reg_setReg_other (s : State) (r r' : Reg) (v : DWord) (h : r' ≠ r) : (s.setReg r v).reg r' = s.reg r' :=
  Gprs.get_set_other s.gpr r r' v h

@[simp] theorem SegRegs.get_set_same (g : SegRegs) (r : SReg) (v : SegReg) : (g.set r v).get r = v := by cases r <;> rfl

theorem SegRegs.get_set_other (g : SegRegs) (r r' : SReg) (v : SegReg) (h : r' ≠ r) : (g.set r v).get r' = g.get r' := by
  cases r <;> cases r' <;> first | rfl | exact absurd rfl h

@[simp] theorem State.sreg_setSreg_same (s : State) (r : SReg) (v : SegReg) : (s.setSreg r v).sreg r = v :=
  SegRegs.get_set_same s.seg r v

theorem State.sreg_setSreg_other (s : State) (r r' : SReg) (v : SegReg) (h : r' ≠ r) :
    (s.setSreg r v).sreg r' = s.sreg r' :=
  SegRegs.get_set_other s.seg r r' v h

/-- A write to part of a register leaves every other register alone, whatever the width. -/
theorem State.reg_setRegW_other (s : State) (w : Width) (r r' : Reg) (v : DWord) (h : r' ≠ r) :
    (s.setRegW w r v).reg r' = s.reg r' := by
  cases w <;> exact State.reg_setReg_other _ _ _ _ h

theorem State.reg_setRegS_other (s : State) (sz : Size) (r r' : Reg) (v : DWord) (h : r' ≠ r) :
    (s.setRegS sz r v).reg r' = s.reg r' := by
  cases sz <;> exact State.reg_setReg_other _ _ _ _ h

/-! ### Modes and sizes after an update -/

theorem State.mode_congr {s t : State} (h : t.cr0 = s.cr0) (h' : t.flags = s.flags) : t.mode = s.mode := by
  unfold State.mode State.pe
  rw [h, h']

theorem State.defaultSize_congr {s t : State} (h : t.cr0 = s.cr0) (h' : t.flags = s.flags) (h'' : t.seg = s.seg) :
    t.defaultSize = s.defaultSize := by
  unfold State.defaultSize
  rw [State.mode_congr h h', h'']

theorem State.osz_congr {s t : State} (h : t.defaultSize = s.defaultSize) (h' : t.pfx = s.pfx) : t.osz = s.osz := by
  unfold State.osz
  rw [h, h']

theorem State.asz_congr {s t : State} (h : t.defaultSize = s.defaultSize) (h' : t.pfx = s.pfx) : t.asz = s.asz := by
  unfold State.asz
  rw [h, h']

theorem State.ssz_congr {s t : State} (h : t.seg = s.seg) : t.ssz = s.ssz := by
  unfold State.ssz
  rw [h]

theorem State.sreg_congr {s t : State} (h : t.seg = s.seg) (q : SReg) : t.sreg q = s.sreg q := by
  unfold State.sreg
  rw [h]

@[simp] theorem State.setReg_pe (s : State) (r : Reg) (v : DWord) : (s.setReg r v).pe = s.pe := by simp [State.pe]
@[simp] theorem State.setReg_mode (s : State) (r : Reg) (v : DWord) : (s.setReg r v).mode = s.mode :=
  State.mode_congr (by simp) (by simp)
@[simp] theorem State.setReg_user (s : State) (r : Reg) (v : DWord) : (s.setReg r v).user = s.user :=
  by simp [State.user]
@[simp] theorem State.setReg_defaultSize (s : State) (r : Reg) (v : DWord) : (s.setReg r v).defaultSize = s.defaultSize :=
  State.defaultSize_congr (by simp) (by simp) (by simp)
@[simp] theorem State.setReg_osz (s : State) (r : Reg) (v : DWord) : (s.setReg r v).osz = s.osz :=
  State.osz_congr (by simp) (by simp)
@[simp] theorem State.setReg_asz (s : State) (r : Reg) (v : DWord) : (s.setReg r v).asz = s.asz :=
  State.asz_congr (by simp) (by simp)
@[simp] theorem State.setReg_ssz (s : State) (r : Reg) (v : DWord) : (s.setReg r v).ssz = s.ssz :=
  State.ssz_congr (by simp)
@[simp] theorem State.setReg_sreg (s : State) (r : Reg) (v : DWord) (q : SReg) : (s.setReg r v).sreg q = s.sreg q :=
  State.sreg_congr (by simp) q
@[simp] theorem State.setRegW_pe (s : State) (w : Width) (r : Reg) (v : DWord) : (s.setRegW w r v).pe = s.pe :=
  by simp [State.pe]
@[simp] theorem State.setRegW_mode (s : State) (w : Width) (r : Reg) (v : DWord) : (s.setRegW w r v).mode = s.mode :=
  State.mode_congr (by simp) (by simp)
@[simp] theorem State.setRegW_user (s : State) (w : Width) (r : Reg) (v : DWord) : (s.setRegW w r v).user = s.user :=
  by simp [State.user]
@[simp] theorem State.setRegW_defaultSize (s : State) (w : Width) (r : Reg) (v : DWord) : (s.setRegW w r v).defaultSize = s.defaultSize :=
  State.defaultSize_congr (by simp) (by simp) (by simp)
@[simp] theorem State.setRegW_osz (s : State) (w : Width) (r : Reg) (v : DWord) : (s.setRegW w r v).osz = s.osz :=
  State.osz_congr (by simp) (by simp)
@[simp] theorem State.setRegW_asz (s : State) (w : Width) (r : Reg) (v : DWord) : (s.setRegW w r v).asz = s.asz :=
  State.asz_congr (by simp) (by simp)
@[simp] theorem State.setRegW_ssz (s : State) (w : Width) (r : Reg) (v : DWord) : (s.setRegW w r v).ssz = s.ssz :=
  State.ssz_congr (by simp)
@[simp] theorem State.setRegW_sreg (s : State) (w : Width) (r : Reg) (v : DWord) (q : SReg) : (s.setRegW w r v).sreg q = s.sreg q :=
  State.sreg_congr (by simp) q
@[simp] theorem State.setRegS_pe (s : State) (sz : Size) (r : Reg) (v : DWord) : (s.setRegS sz r v).pe = s.pe :=
  by simp [State.pe]
@[simp] theorem State.setRegS_mode (s : State) (sz : Size) (r : Reg) (v : DWord) : (s.setRegS sz r v).mode = s.mode :=
  State.mode_congr (by simp) (by simp)
@[simp] theorem State.setRegS_user (s : State) (sz : Size) (r : Reg) (v : DWord) : (s.setRegS sz r v).user = s.user :=
  by simp [State.user]
@[simp] theorem State.setRegS_defaultSize (s : State) (sz : Size) (r : Reg) (v : DWord) : (s.setRegS sz r v).defaultSize = s.defaultSize :=
  State.defaultSize_congr (by simp) (by simp) (by simp)
@[simp] theorem State.setRegS_osz (s : State) (sz : Size) (r : Reg) (v : DWord) : (s.setRegS sz r v).osz = s.osz :=
  State.osz_congr (by simp) (by simp)
@[simp] theorem State.setRegS_asz (s : State) (sz : Size) (r : Reg) (v : DWord) : (s.setRegS sz r v).asz = s.asz :=
  State.asz_congr (by simp) (by simp)
@[simp] theorem State.setRegS_ssz (s : State) (sz : Size) (r : Reg) (v : DWord) : (s.setRegS sz r v).ssz = s.ssz :=
  State.ssz_congr (by simp)
@[simp] theorem State.setRegS_sreg (s : State) (sz : Size) (r : Reg) (v : DWord) (q : SReg) : (s.setRegS sz r v).sreg q = s.sreg q :=
  State.sreg_congr (by simp) q
@[simp] theorem State.setReg8_pe (s : State) (r : Reg8) (v : Byte) : (s.setReg8 r v).pe = s.pe := by simp [State.pe]
@[simp] theorem State.setReg8_mode (s : State) (r : Reg8) (v : Byte) : (s.setReg8 r v).mode = s.mode :=
  State.mode_congr (by simp) (by simp)
@[simp] theorem State.setReg8_user (s : State) (r : Reg8) (v : Byte) : (s.setReg8 r v).user = s.user :=
  by simp [State.user]
@[simp] theorem State.setReg8_defaultSize (s : State) (r : Reg8) (v : Byte) : (s.setReg8 r v).defaultSize = s.defaultSize :=
  State.defaultSize_congr (by simp) (by simp) (by simp)
@[simp] theorem State.setReg8_osz (s : State) (r : Reg8) (v : Byte) : (s.setReg8 r v).osz = s.osz :=
  State.osz_congr (by simp) (by simp)
@[simp] theorem State.setReg8_asz (s : State) (r : Reg8) (v : Byte) : (s.setReg8 r v).asz = s.asz :=
  State.asz_congr (by simp) (by simp)
@[simp] theorem State.setReg8_ssz (s : State) (r : Reg8) (v : Byte) : (s.setReg8 r v).ssz = s.ssz :=
  State.ssz_congr (by simp)
@[simp] theorem State.setReg8_sreg (s : State) (r : Reg8) (v : Byte) (q : SReg) : (s.setReg8 r v).sreg q = s.sreg q :=
  State.sreg_congr (by simp) q
@[simp] theorem State.setAcc_pe (s : State) (sz : Size) (v : DWord) : (s.setAcc sz v).pe = s.pe := by simp [State.pe]
@[simp] theorem State.setAcc_mode (s : State) (sz : Size) (v : DWord) : (s.setAcc sz v).mode = s.mode :=
  State.mode_congr (by simp) (by simp)
@[simp] theorem State.setAcc_user (s : State) (sz : Size) (v : DWord) : (s.setAcc sz v).user = s.user :=
  by simp [State.user]
@[simp] theorem State.setAcc_defaultSize (s : State) (sz : Size) (v : DWord) : (s.setAcc sz v).defaultSize = s.defaultSize :=
  State.defaultSize_congr (by simp) (by simp) (by simp)
@[simp] theorem State.setAcc_osz (s : State) (sz : Size) (v : DWord) : (s.setAcc sz v).osz = s.osz :=
  State.osz_congr (by simp) (by simp)
@[simp] theorem State.setAcc_asz (s : State) (sz : Size) (v : DWord) : (s.setAcc sz v).asz = s.asz :=
  State.asz_congr (by simp) (by simp)
@[simp] theorem State.setAcc_ssz (s : State) (sz : Size) (v : DWord) : (s.setAcc sz v).ssz = s.ssz :=
  State.ssz_congr (by simp)
@[simp] theorem State.setAcc_sreg (s : State) (sz : Size) (v : DWord) (q : SReg) : (s.setAcc sz v).sreg q = s.sreg q :=
  State.sreg_congr (by simp) q
@[simp] theorem State.setSp_pe (s : State) (v : DWord) : (s.setSp v).pe = s.pe := by simp [State.pe]
@[simp] theorem State.setSp_mode (s : State) (v : DWord) : (s.setSp v).mode = s.mode :=
  State.mode_congr (by simp) (by simp)
@[simp] theorem State.setSp_user (s : State) (v : DWord) : (s.setSp v).user = s.user := by simp [State.user]
@[simp] theorem State.setSp_defaultSize (s : State) (v : DWord) : (s.setSp v).defaultSize = s.defaultSize :=
  State.defaultSize_congr (by simp) (by simp) (by simp)
@[simp] theorem State.setSp_osz (s : State) (v : DWord) : (s.setSp v).osz = s.osz :=
  State.osz_congr (by simp) (by simp)
@[simp] theorem State.setSp_asz (s : State) (v : DWord) : (s.setSp v).asz = s.asz :=
  State.asz_congr (by simp) (by simp)
@[simp] theorem State.setSp_ssz (s : State) (v : DWord) : (s.setSp v).ssz = s.ssz := State.ssz_congr (by simp)
@[simp] theorem State.setSp_sreg (s : State) (v : DWord) (q : SReg) : (s.setSp v).sreg q = s.sreg q :=
  State.sreg_congr (by simp) q
@[simp] theorem State.setWide_pe (s : State) (sz : Size) (lo hi : DWord) : (s.setWide sz lo hi).pe = s.pe :=
  by simp [State.pe]
@[simp] theorem State.setWide_mode (s : State) (sz : Size) (lo hi : DWord) : (s.setWide sz lo hi).mode = s.mode :=
  State.mode_congr (by simp) (by simp)
@[simp] theorem State.setWide_user (s : State) (sz : Size) (lo hi : DWord) : (s.setWide sz lo hi).user = s.user :=
  by simp [State.user]
@[simp] theorem State.setWide_defaultSize (s : State) (sz : Size) (lo hi : DWord) : (s.setWide sz lo hi).defaultSize = s.defaultSize :=
  State.defaultSize_congr (by simp) (by simp) (by simp)
@[simp] theorem State.setWide_osz (s : State) (sz : Size) (lo hi : DWord) : (s.setWide sz lo hi).osz = s.osz :=
  State.osz_congr (by simp) (by simp)
@[simp] theorem State.setWide_asz (s : State) (sz : Size) (lo hi : DWord) : (s.setWide sz lo hi).asz = s.asz :=
  State.asz_congr (by simp) (by simp)
@[simp] theorem State.setWide_ssz (s : State) (sz : Size) (lo hi : DWord) : (s.setWide sz lo hi).ssz = s.ssz :=
  State.ssz_congr (by simp)
@[simp] theorem State.setWide_sreg (s : State) (sz : Size) (lo hi : DWord) (q : SReg) : (s.setWide sz lo hi).sreg q = s.sreg q :=
  State.sreg_congr (by simp) q
@[simp] theorem State.setSreg_pe (s : State) (r : SReg) (v : SegReg) : (s.setSreg r v).pe = s.pe := by simp [State.pe]
@[simp] theorem State.setSreg_mode (s : State) (r : SReg) (v : SegReg) : (s.setSreg r v).mode = s.mode :=
  State.mode_congr (by simp) (by simp)
@[simp] theorem State.setSreg_user (s : State) (r : SReg) (v : SegReg) : (s.setSreg r v).user = s.user :=
  by simp [State.user]
@[simp] theorem State.load8086_pe (s : State) (r : SReg) (sel : Word) : (s.load8086 r sel).pe = s.pe :=
  by simp [State.pe]
@[simp] theorem State.load8086_mode (s : State) (r : SReg) (sel : Word) : (s.load8086 r sel).mode = s.mode :=
  State.mode_congr (by simp) (by simp)
@[simp] theorem State.load8086_user (s : State) (r : SReg) (sel : Word) : (s.load8086 r sel).user = s.user :=
  by simp [State.user]
@[simp] theorem State.withCode_pe (s : State) (f : Found) (sel : Word) (rpl : BitVec 2) (off : DWord) : (s.withCode f sel rpl off).pe = s.pe :=
  by simp [State.pe]
@[simp] theorem State.withCode_mode (s : State) (f : Found) (sel : Word) (rpl : BitVec 2) (off : DWord) : (s.withCode f sel rpl off).mode = s.mode :=
  State.mode_congr (by simp) (by simp)
@[simp] theorem State.withCode_user (s : State) (f : Found) (sel : Word) (rpl : BitVec 2) (off : DWord) : (s.withCode f sel rpl off).user = s.user :=
  by simp [State.user]
@[simp] theorem State.withStack_pe (s : State) (f : Found) (sel : Word) (sp : DWord) (cpl : BitVec 2) : (s.withStack f sel sp cpl).pe = s.pe :=
  by simp [State.pe]
@[simp] theorem State.withStack_mode (s : State) (f : Found) (sel : Word) (sp : DWord) (cpl : BitVec 2) : (s.withStack f sel sp cpl).mode = s.mode :=
  State.mode_congr (by simp) (by simp)
@[simp] theorem State.noteFault_pe (s : State) (e : Exc) : (s.noteFault e).pe = s.pe := by simp [State.pe]
@[simp] theorem State.noteFault_mode (s : State) (e : Exc) : (s.noteFault e).mode = s.mode :=
  State.mode_congr (by simp) (by simp)
@[simp] theorem State.noteFault_user (s : State) (e : Exc) : (s.noteFault e).user = s.user := by simp [State.user]
@[simp] theorem State.noteFault_defaultSize (s : State) (e : Exc) : (s.noteFault e).defaultSize = s.defaultSize :=
  State.defaultSize_congr (by simp) (by simp) (by simp)
@[simp] theorem State.noteFault_osz (s : State) (e : Exc) : (s.noteFault e).osz = s.osz :=
  State.osz_congr (by simp) (by simp)
@[simp] theorem State.noteFault_asz (s : State) (e : Exc) : (s.noteFault e).asz = s.asz :=
  State.asz_congr (by simp) (by simp)
@[simp] theorem State.noteFault_ssz (s : State) (e : Exc) : (s.noteFault e).ssz = s.ssz := State.ssz_congr (by simp)
@[simp] theorem State.noteFault_sreg (s : State) (e : Exc) (q : SReg) : (s.noteFault e).sreg q = s.sreg q :=
  State.sreg_congr (by simp) q
@[simp] theorem State.begin_pe (s : State) : (s.begin).pe = s.pe := by simp [State.pe]
@[simp] theorem State.begin_mode (s : State) : (s.begin).mode = s.mode := State.mode_congr (by simp) (by simp)
@[simp] theorem State.begin_user (s : State) : (s.begin).user = s.user := by simp [State.user]
@[simp] theorem State.begin_defaultSize (s : State) : (s.begin).defaultSize = s.defaultSize :=
  State.defaultSize_congr (by simp) (by simp) (by simp)
@[simp] theorem State.begin_ssz (s : State) : (s.begin).ssz = s.ssz := State.ssz_congr (by simp)
@[simp] theorem State.begin_sreg (s : State) (q : SReg) : (s.begin).sreg q = s.sreg q := State.sreg_congr (by simp) q
@[simp] theorem State.past_pe (s : State) (n : Nat) : (s.past n).pe = s.pe := by simp [State.pe]
@[simp] theorem State.past_mode (s : State) (n : Nat) : (s.past n).mode = s.mode :=
  State.mode_congr (by simp) (by simp)
@[simp] theorem State.past_user (s : State) (n : Nat) : (s.past n).user = s.user := by simp [State.user]
@[simp] theorem State.past_defaultSize (s : State) (n : Nat) : (s.past n).defaultSize = s.defaultSize :=
  State.defaultSize_congr (by simp) (by simp) (by simp)
@[simp] theorem State.past_osz (s : State) (n : Nat) : (s.past n).osz = s.osz := State.osz_congr (by simp) (by simp)
@[simp] theorem State.past_asz (s : State) (n : Nat) : (s.past n).asz = s.asz := State.asz_congr (by simp) (by simp)
@[simp] theorem State.past_ssz (s : State) (n : Nat) : (s.past n).ssz = s.ssz := State.ssz_congr (by simp)
@[simp] theorem State.past_sreg (s : State) (n : Nat) (q : SReg) : (s.past n).sreg q = s.sreg q :=
  State.sreg_congr (by simp) q
@[simp] theorem State.storedAt_pe (s : State) (seg : SReg) (off : DWord) (n : Nat) (v : DWord) : (s.storedAt seg off n v).pe = s.pe :=
  by simp [State.pe]
@[simp] theorem State.storedAt_mode (s : State) (seg : SReg) (off : DWord) (n : Nat) (v : DWord) : (s.storedAt seg off n v).mode = s.mode :=
  State.mode_congr (by simp) (by simp)
@[simp] theorem State.storedAt_user (s : State) (seg : SReg) (off : DWord) (n : Nat) (v : DWord) : (s.storedAt seg off n v).user = s.user :=
  by simp [State.user]
@[simp] theorem State.storedAt_defaultSize (s : State) (seg : SReg) (off : DWord) (n : Nat) (v : DWord) : (s.storedAt seg off n v).defaultSize = s.defaultSize :=
  State.defaultSize_congr (by simp) (by simp) (by simp)
@[simp] theorem State.storedAt_osz (s : State) (seg : SReg) (off : DWord) (n : Nat) (v : DWord) : (s.storedAt seg off n v).osz = s.osz :=
  State.osz_congr (by simp) (by simp)
@[simp] theorem State.storedAt_asz (s : State) (seg : SReg) (off : DWord) (n : Nat) (v : DWord) : (s.storedAt seg off n v).asz = s.asz :=
  State.asz_congr (by simp) (by simp)
@[simp] theorem State.storedAt_ssz (s : State) (seg : SReg) (off : DWord) (n : Nat) (v : DWord) : (s.storedAt seg off n v).ssz = s.ssz :=
  State.ssz_congr (by simp)
@[simp] theorem State.storedAt_sreg (s : State) (seg : SReg) (off : DWord) (n : Nat) (v : DWord) (q : SReg) : (s.storedAt seg off n v).sreg q = s.sreg q :=
  State.sreg_congr (by simp) q
@[simp] theorem State.stored_pe (s : State) (sz : Size) (l : Loc) (v : DWord) : (s.stored sz l v).pe = s.pe :=
  by simp [State.pe]
@[simp] theorem State.stored_mode (s : State) (sz : Size) (l : Loc) (v : DWord) : (s.stored sz l v).mode = s.mode :=
  State.mode_congr (by simp) (by simp)
@[simp] theorem State.stored_user (s : State) (sz : Size) (l : Loc) (v : DWord) : (s.stored sz l v).user = s.user :=
  by simp [State.user]
@[simp] theorem State.stored_defaultSize (s : State) (sz : Size) (l : Loc) (v : DWord) : (s.stored sz l v).defaultSize = s.defaultSize :=
  State.defaultSize_congr (by simp) (by simp) (by simp)
@[simp] theorem State.stored_osz (s : State) (sz : Size) (l : Loc) (v : DWord) : (s.stored sz l v).osz = s.osz :=
  State.osz_congr (by simp) (by simp)
@[simp] theorem State.stored_asz (s : State) (sz : Size) (l : Loc) (v : DWord) : (s.stored sz l v).asz = s.asz :=
  State.asz_congr (by simp) (by simp)
@[simp] theorem State.stored_ssz (s : State) (sz : Size) (l : Loc) (v : DWord) : (s.stored sz l v).ssz = s.ssz :=
  State.ssz_congr (by simp)
@[simp] theorem State.stored_sreg (s : State) (sz : Size) (l : Loc) (v : DWord) (q : SReg) : (s.stored sz l v).sreg q = s.sreg q :=
  State.sreg_congr (by simp) q
@[simp] theorem State.undefined_pe (s : State) (m : StatusMask) : (s.undefined m).pe = s.pe := by simp [State.pe]
@[simp] theorem State.undefined_user (s : State) (m : StatusMask) : (s.undefined m).user = s.user :=
  by simp [State.user]
@[simp] theorem State.undefined_ssz (s : State) (m : StatusMask) : (s.undefined m).ssz = s.ssz :=
  State.ssz_congr (by simp)
@[simp] theorem State.undefined_sreg (s : State) (m : StatusMask) (q : SReg) : (s.undefined m).sreg q = s.sreg q :=
  State.sreg_congr (by simp) q
@[simp] theorem State.pushed_pe (s : State) (w : Width) (v : DWord) : (s.pushed w v).pe = s.pe := by simp [State.pe]
@[simp] theorem State.pushed_mode (s : State) (w : Width) (v : DWord) : (s.pushed w v).mode = s.mode :=
  State.mode_congr (by simp) (by simp)
@[simp] theorem State.pushed_user (s : State) (w : Width) (v : DWord) : (s.pushed w v).user = s.user :=
  by simp [State.user]
@[simp] theorem State.pushed_defaultSize (s : State) (w : Width) (v : DWord) : (s.pushed w v).defaultSize = s.defaultSize :=
  State.defaultSize_congr (by simp) (by simp) (by simp)
@[simp] theorem State.pushed_osz (s : State) (w : Width) (v : DWord) : (s.pushed w v).osz = s.osz :=
  State.osz_congr (by simp) (by simp)
@[simp] theorem State.pushed_asz (s : State) (w : Width) (v : DWord) : (s.pushed w v).asz = s.asz :=
  State.asz_congr (by simp) (by simp)
@[simp] theorem State.pushed_ssz (s : State) (w : Width) (v : DWord) : (s.pushed w v).ssz = s.ssz :=
  State.ssz_congr (by simp)
@[simp] theorem State.pushed_sreg (s : State) (w : Width) (v : DWord) (q : SReg) : (s.pushed w v).sreg q = s.sreg q :=
  State.sreg_congr (by simp) q
@[simp] theorem State.popped_pe (s : State) (w : Width) : (s.popped w).pe = s.pe := by simp [State.pe]
@[simp] theorem State.popped_mode (s : State) (w : Width) : (s.popped w).mode = s.mode :=
  State.mode_congr (by simp) (by simp)
@[simp] theorem State.popped_user (s : State) (w : Width) : (s.popped w).user = s.user := by simp [State.user]
@[simp] theorem State.popped_defaultSize (s : State) (w : Width) : (s.popped w).defaultSize = s.defaultSize :=
  State.defaultSize_congr (by simp) (by simp) (by simp)
@[simp] theorem State.popped_osz (s : State) (w : Width) : (s.popped w).osz = s.osz :=
  State.osz_congr (by simp) (by simp)
@[simp] theorem State.popped_asz (s : State) (w : Width) : (s.popped w).asz = s.asz :=
  State.asz_congr (by simp) (by simp)
@[simp] theorem State.popped_ssz (s : State) (w : Width) : (s.popped w).ssz = s.ssz := State.ssz_congr (by simp)
@[simp] theorem State.popped_sreg (s : State) (w : Width) (q : SReg) : (s.popped w).sreg q = s.sreg q :=
  State.sreg_congr (by simp) q

end Sys2Proof.Machine
end

