-- ==== Sys2Proof/Laws/Shared.lean ====
section
/-!
SUPPORT. What the shared operations can do, said once for each: which are silent, that is, answer or raise an exception and
leave the state alone, and what the others change when they complete.
-/
namespace Sys2Proof.Machine

variable {α : Type}

/-! ### Silent operations -/

theorem silent_raiseExc (e : Exc) : Silent (raiseExc e : Op α) := fun _ => rfl

theorem silent_ite (c : Prop) [Decidable c] {x y : Op α} (hx : Silent x) (hy : Silent y) : Silent (if c then x else y) := by
  split <;> assumption

theorem silent_linRead (lin : DWord) (n : Nat) : Silent (linRead lin n) := silent_linReadAs _ _ _

theorem silent_readLoc (sz : Size) (l : Loc) : Silent (readLoc sz l) := by
  cases l with
  | reg8 r => exact silent_query _
  | reg r => exact silent_query _
  | mem seg off => exact silent_memRead _ _ _

theorem silent_checkWriteLoc (sz : Size) (l : Loc) : Silent (checkWriteLoc sz l) := by
  cases l with
  | reg8 r => exact silent_pure _
  | reg r => exact silent_pure _
  | mem seg off => exact silent_checkWrite _ _ _

theorem silent_stackRead (k n : Nat) : Silent (stackRead k n) :=
  silent_bind (silent_query _) fun _ => silent_memRead _ _ _

theorem silent_checkStackRead (n : Nat) : Silent (checkStackRead n) :=
  silent_bind (silent_query _) fun _ => silent_checkSeg _ _ _ _

/-- Where a read of the stack is allowed, it answers the bytes at that offset, cut to StackAddrSize (R100, R415). -/
theorem stackRead_of_allowed {k n : Nat} {s : State} (h : Allowed s .read .ss (s.stackOff k) n) :
    stackRead k n s = .ok (s.loaded .ss (s.stackOff k) n) s := by
  unfold stackRead
  rw [query_id_bind_run]
  exact memRead_of_allowed h

/-- Reading a descriptor changes nothing (R111). -/
theorem silent_readDesc (addr : DWord) : Silent (readDesc addr) :=
  silent_bind (silent_linRead _ _) fun _ => silent_bind (silent_linRead _ _) fun _ => silent_pure _

theorem silent_lookup (sel : Word) (e : Exc) : Silent (lookup sel e) := by
  refine silent_bind (silent_query _) fun a => ?_
  cases a with
  | none => exact silent_raiseExc e
  | some a => exact silent_bind (silent_readDesc _) fun _ => silent_pure _

theorem silent_lookupGdt (sel : Word) (e : Exc) : Silent (lookupGdt sel e) :=
  silent_bind (silent_raiseIf _ _) fun _ => silent_lookup _ _

/-- The checks on a return code segment change nothing (R416, R445). -/
theorem silent_checkReturnCode (sel : Word) (level : BitVec 2) : Silent (checkReturnCode sel level) :=
  silent_bind (silent_raiseIf _ _) fun _ => silent_bind (silent_lookup _ _) fun _ => silent_bind (silent_raiseIf _ _) fun _ =>
    silent_bind (silent_raiseIf _ _) fun _ => silent_bind (silent_raiseIf _ _) fun _ =>
      silent_bind (silent_raiseIf _ _) fun _ => silent_pure _

theorem silent_checkReturnStack (sel : Word) (level : BitVec 2) : Silent (checkReturnStack sel level) :=
  silent_bind (silent_raiseIf _ _) fun _ => silent_bind (silent_lookup _ _) fun _ => silent_bind (silent_raiseIf _ _) fun _ =>
    silent_bind (silent_raiseIf _ _) fun _ => silent_bind (silent_raiseIf _ _) fun _ =>
      silent_bind (silent_raiseIf _ _) fun _ => silent_pure _

/-- Reading the inner stack of the TSS changes nothing (R412). -/
theorem silent_innerStack (dpl : BitVec 2) : Silent (innerStack dpl) :=
  silent_bind (silent_query _) fun _ => silent_bind (silent_raiseIf _ _) fun _ => silent_bind (silent_linRead _ _) fun _ =>
    silent_bind (silent_linRead _ _) fun _ => silent_pure _

theorem silent_checkInnerStack (ss : Word) (dpl : BitVec 2) (e : Exc) : Silent (checkInnerStack ss dpl e) :=
  silent_bind (silent_raiseIf _ _) fun _ => silent_bind (silent_lookup _ _) fun _ => silent_bind (silent_raiseIf _ _) fun _ =>
    silent_bind (silent_raiseIf _ _) fun _ => silent_bind (silent_raiseIf _ _) fun _ =>
      silent_bind (silent_raiseIf _ _) fun _ => silent_pure _

theorem silent_ioPermissionBits (port count : Nat) : Silent (ioPermissionBits port count) :=
  silent_bind (silent_query _) fun _ => silent_ite _ (silent_pure _) <| silent_bind (silent_linRead _ _) fun _ =>
    silent_ite _ (silent_pure _) <| silent_bind (silent_linRead _ _) fun _ => silent_pure _

theorem silent_ioPermissionWrapped (port n : Nat) : Silent (ioPermissionWrapped port n) := by
  induction n generalizing port with
  | zero => exact silent_pure _
  | succ n ih => exact silent_bind (silent_ioPermissionBits _ _) fun _ => silent_bind (ih _) fun _ => silent_pure _

/-- The I/O access check changes nothing (R121). -/
theorem silent_checkIo (port : Word) (sz : Size) : Silent (checkIo port sz) :=
  silent_bind (silent_query _) fun _ => silent_ite _
    (silent_bind (silent_ite _ (silent_ioPermissionBits _ _) (silent_ioPermissionWrapped _ _)) fun _ => silent_raiseIf _ _)
    (silent_pure _)

/-- Reading a parameter of a CALL to an inner level changes nothing (R411). -/
theorem silent_readParam (old : State) (w : Width) (i : Nat) : Silent (readParam old w i) := by
  unfold readParam
  dsimp only
  split
  · exact silent_raiseExc _
  · exact silent_linRead _ _

/-! ### Operations that write memory -/

/-- Changing an access-rights byte changes memory alone, and keeps it canonical. -/
theorem changeAccessRights_ok {addr : DWord} {change : Byte → Byte} {s u : State}
    (h : changeAccessRights addr change s = .ok () u) :
    u = { s with mem := u.mem } ∧ (Memory.wf s.mem = true → Memory.wf u.mem = true) := by
  unfold changeAccessRights at h
  rcases (silent_linRead (addr + 5) 1).cases s with ⟨v, hv⟩ | ⟨e, he⟩
  · rw [bind_of_ok hv] at h
    unfold linWrite at h
    rcases linWriteAs_cases false (addr + 5) 1 ((change (v.setWidth 8)).setWidth 32) s with ⟨a, _, hw⟩ | ⟨e, he⟩
    · rw [hw] at h
      cases h
      exact ⟨rfl, writeAll_wf _ _ _⟩
    · rw [he] at h
      cases h
  · rw [bind_of_error he] at h
    cases h

/-- Where the access-rights byte can be read and written, that byte alone changes (R115, R117). -/
theorem changeAccessRights_of_reachable {addr b x : DWord} {s : State} (change : Byte → Byte)
    (hr : linRead (addr + 5) 1 s = .ok b s) (hw : translate .write false (addr + 5) s = .ok x s) :
    changeAccessRights addr change s = .ok () { s with mem := Memory.write s.mem x.toNat (change (b.setWidth 8)) } := by
  have ha : translateRange .write false 1 (addr + 5) s = .ok [x] s := (bind_of_ok hw).trans rfl
  unfold changeAccessRights
  rw [bind_of_ok hr]
  refine (bind_of_ok ha).trans ?_
  simp [Memory.writeAll]

/-- Setting an accessed bit changes memory alone, and keeps it canonical (R117). -/
theorem setAccessed_ok {f : Found} {s u : State} (h : setAccessed f s = .ok () u) :
    u = { s with mem := u.mem } ∧ (Memory.wf s.mem = true → Memory.wf u.mem = true) := by
  unfold setAccessed at h
  split at h
  · cases h
    exact ⟨rfl, id⟩
  · exact changeAccessRights_ok h

/-- Where the accessed bit can be set in the state before, that is what an abandoned operation leaves (R503 (b)). -/
theorem markAccessed_of_ok {f : Found} {s u : State} (h : setAccessed f s = .ok () u) : s.markAccessed f = u := by
  simp [State.markAccessed, h]

/-- Where it is set already, an abandoned operation leaves the state before. -/
theorem markAccessed_of_accessed {f : Found} (h : f.desc.type.getLsbD 0 = true) (s : State) : s.markAccessed f = s := by
  apply markAccessed_of_ok
  unfold setAccessed
  rw [if_pos h]
  rfl

/-- The accessed bit that an abandoned operation leaves changes memory alone, and keeps it canonical (R503 (b)). -/
theorem markAccessed_spec (f : Found) (s : State) :
    s.markAccessed f = { s with mem := (s.markAccessed f).mem } ∧
      (Memory.wf s.mem = true → Memory.wf (s.markAccessed f).mem = true) := by
  cases h : setAccessed f s with
  | ok _ u =>
    rw [markAccessed_of_ok h]
    exact setAccessed_ok h
  | error e u => simp [State.markAccessed, h]

/-- A write to the TSS changes memory alone, and keeps it canonical (R116). -/
theorem writeFields_ok {base : DWord} {fields : List (Nat × Nat × DWord)} {s u : State}
    (h : writeFields base fields s = .ok () u) :
    u = { s with mem := u.mem } ∧ (Memory.wf s.mem = true → Memory.wf u.mem = true) := by
  induction fields generalizing s with
  | nil =>
    cases h
    exact ⟨rfl, id⟩
  | cons f rest ih =>
    obtain ⟨off, n, v⟩ := f
    unfold writeFields linWrite at h
    rcases linWriteAs_cases false (base + BitVec.ofNat 32 off) n v s with ⟨a, _, hw⟩ | ⟨e, he⟩
    · rw [bind_of_ok hw] at h
      obtain ⟨h1, h2⟩ := ih h
      exact ⟨by rw [h1], fun hs => h2 (writeAll_wf _ _ _ hs)⟩
    · rw [bind_of_error he] at h
      cases h

/-! ### The stack -/

/-- Everything a push can do: raise an exception and change nothing, or store the value and lower the stack pointer (R300). -/
theorem push_cases (w : Width) (v : DWord) (s : State) :
    (∃ addrs, push w v s = .ok () (State.setSp { s with mem := Memory.writeAll s.mem addrs v } (s.pushSp w))) ∨
    ∃ e, push w v s = .error e s := by
  unfold push
  rw [query_id_bind_run]
  rcases memWrite_cases .ss (truncTo s.ssz (s.sp - BitVec.ofNat 32 w.bytes)) w.bytes v s with ⟨a, _, h⟩ | ⟨e, h⟩
  · exact .inl ⟨a, (bind_of_ok h).trans rfl⟩
  · exact .inr ⟨e, bind_of_error h⟩

/-- Everything a pop can do: raise an exception and change nothing, or raise the stack pointer (R301). -/
theorem pop_cases (w : Width) (s : State) : (∃ v, pop w s = .ok v (s.popped w)) ∨ ∃ e, pop w s = .error e s := by
  unfold pop
  rw [query_id_bind_run]
  rcases (silent_memRead .ss s.sp w.bytes).cases s with ⟨v, h⟩ | ⟨e, h⟩
  · exact .inl ⟨v, (bind_of_ok h).trans rfl⟩
  · exact .inr ⟨e, bind_of_error h⟩

/-! ### The checks of several pushes or pops -/

/-- A 16-bit register part that is written is read back. -/
theorem setLow16_low (old v : DWord) : setLow16 old v &&& 0x0000FFFF#32 = v &&& 0x0000FFFF#32 := by
  have h : (0xFFFF0000#32 : DWord) &&& 0x0000FFFF#32 = 0#32 := by decide
  ext i hi
  have hi' := congrArg (fun x : DWord => x[i]) h
  simp only [BitVec.getElem_and, BitVec.getElem_zero] at hi'
  simp only [setLow16, BitVec.getElem_and, BitVec.getElem_or]
  revert hi'
  cases old[i] <;> cases v[i] <;> cases (0xFFFF0000#32)[i] <;> cases (0x0000FFFF#32)[i] <;> decide

/-- The stack offset after it is set, cut to the stack address size. -/
theorem setSp_sp (s : State) (v : DWord) : (s.setSp v).sp = truncTo s.ssz v := by
  have hz : (s.setSp v).ssz = s.ssz := by simp [State.ssz]
  unfold State.sp
  rw [hz]
  cases h : s.ssz <;> simp [State.setSp, State.setRegW, State.regW, h, truncTo, State.setReg, State.reg, Gprs.set, Gprs.get,
    setLow16_low]

/-- Room for one more push: this push, then the others from the state after it (R300). -/
theorem hasRoom_succ (s : State) (w : Width) (v : DWord) (count : Nat) :
    s.hasRoom w.bytes (count + 1) =
      ((segFault s.mode .ss s.seg.ss (s.pushSp w) w.bytes .write).isNone && (s.pushed w v).hasRoom w.bytes count) := by
  have hsp : (s.pushed w v).sp = s.pushSp w := by
    have hz : (s.storedAt .ss (s.pushSp w) w.bytes v).ssz = s.ssz := rfl
    rw [State.pushed, setSp_sp, hz]
    unfold State.pushSp truncTo
    cases s.ssz <;> simp [BitVec.and_assoc]
  have hm : (s.pushed w v).mode = s.mode := by simp [State.mode, State.pe, State.pushed, State.storedAt]
  have hg : (s.pushed w v).seg = s.seg := by simp [State.pushed, State.storedAt]
  unfold State.hasRoom
  rw [hsp, hm, hg]
  rfl

/-- One more item to pop: the top one, then the others from the state after it (R301). -/
theorem holdsItems_succ (s : State) (w : Width) (count : Nat) :
    s.holdsItems w.bytes (count + 1) =
      ((segFault s.mode .ss s.seg.ss s.sp w.bytes .read).isNone && (s.popped w).holdsItems w.bytes count) := by
  have hm : (s.popped w).mode = s.mode := by simp [State.mode, State.pe, State.popped]
  have hg : (s.popped w).seg = s.seg := by simp [State.popped]
  unfold State.holdsItems
  rw [State.popped, setSp_sp, ← State.popped, hm, hg]
  rfl

/-- The check of several pushes completes, or raises #SS(0) and changes nothing (R404). -/
theorem checkPushes_run (w count : Nat) (s : State) :
    checkPushes w count s = if s.hasRoom w count then .ok () s else .error (Exc.ss 0) s := by
  unfold checkPushes
  rw [query_id_bind_run, raiseIf_run]
  cases s.hasRoom w count <;> rfl

/-- The check of several pops completes, or raises #SS(0) and changes nothing (R325, R405, R436). -/
theorem checkPops_run (w count : Nat) (s : State) :
    checkPops w count s = if s.holdsItems w count then .ok () s else .error (Exc.ss 0) s := by
  unfold checkPops
  rw [query_id_bind_run, raiseIf_run]
  cases s.holdsItems w count <;> rfl

/-! ### Segment registers -/

/-- An accessed bit set and a segment register loaded: memory and that register alone change. -/
theorem setAccessed_load_ok {f : Found} {r : SReg} {g : State → SegReg} {s u : State}
    (h : (setAccessed f >>= fun _ => update fun s => s.setSreg r (g s)) s = .ok () u) :
    ∃ (m : List Host.Cell) (v : SegReg), u = State.setSreg { s with mem := m } r v ∧
      (Memory.wf s.mem = true → Memory.wf m = true) := by
  cases hx : setAccessed f s with
  | error e x => rw [bind_of_error hx] at h; cases h
  | ok a x =>
    obtain ⟨h1, h2⟩ := setAccessed_ok hx
    rw [bind_of_ok hx] at h
    cases h
    exact ⟨x.mem, g x, by rw [← h1], h2⟩

/-- The same for the load in protected mode. -/
theorem loadSegProt_ok {r : SReg} {sel : Word} {s u : State} (h : loadSegProt r sel s = .ok () u) :
    ∃ (m : List Host.Cell) (g : SegReg), u = State.setSreg { s with mem := m } r g ∧
      (Memory.wf s.mem = true → Memory.wf m = true) := by
  unfold loadSegProt at h
  rw [query_id_bind_run] at h
  rcases (silent_lookup sel (Exc.gp (selCode sel))).cases s with ⟨f, hf⟩ | ⟨e, he⟩
  · by_cases hr : r = .ss
    · rw [if_pos hr, raiseIf_bind_run, bind_of_ok hf] at h
      simp only [raiseIf_bind_run] at h
      repeat' (split at h; · cases h)
      subst hr
      exact setAccessed_load_ok h
    · rw [if_neg hr] at h
      split at h
      · cases h
        exact ⟨s.mem, _, rfl, id⟩
      · rw [bind_of_ok hf] at h
        simp only [raiseIf_bind_run] at h
        repeat' (split at h; · cases h)
        exact setAccessed_load_ok h
  · by_cases hr : r = .ss
    · rw [if_pos hr, raiseIf_bind_run, bind_of_error he] at h
      split at h <;> cases h
    · rw [if_neg hr] at h
      split at h
      · cases h
        exact ⟨s.mem, _, rfl, id⟩
      · rw [bind_of_error he] at h
        cases h

/-- Loading a segment register changes memory (an accessed bit) and that register alone (R40, R117). -/
theorem loadSeg_ok {r : SReg} {sel : Word} {s u : State} (h : loadSeg r sel s = .ok () u) :
    ∃ (m : List Host.Cell) (g : SegReg), u = State.setSreg { s with mem := m } r g ∧
      (Memory.wf s.mem = true → Memory.wf m = true) := by
  unfold loadSeg at h
  rw [query_bind_run] at h
  cases hm : s.mode with
  | prot => rw [hm] at h; exact loadSegProt_ok h
  | real => rw [hm] at h; cases h; exact ⟨s.mem, _, rfl, id⟩
  | v86 => rw [hm] at h; cases h; exact ⟨s.mem, _, rfl, id⟩

/-- Entering a code segment changes memory (an accessed bit), CS and EIP alone (R407). -/
theorem installCode_ok {f : Found} {sel : Word} {rpl : BitVec 2} {off : DWord} {s u : State}
    (h : installCode f sel rpl off s = .ok () u) :
    ∃ m : List Host.Cell, u = State.withCode { s with mem := m } f sel rpl off ∧ (Memory.wf s.mem = true → Memory.wf m = true) := by
  unfold installCode at h
  cases hx : setAccessed f s with
  | error e x => rw [bind_of_error hx] at h; cases h
  | ok a x =>
    obtain ⟨h1, h2⟩ := setAccessed_ok hx
    rw [bind_of_ok hx] at h
    cases h
    exact ⟨x.mem, by rw [← h1], h2⟩

/-! ### The parameters of a CALL to an inner level -/

/-- A parameter inside the old stack is read with supervisor privilege (R411, D33). -/
theorem readParam_of_inside {old : State} {w : Width} {i : Nat}
    (h : segFault old.mode .ss old.seg.ss (old.stackOff (i * w.bytes)) w.bytes .read = none) :
    readParam old w i = linRead (old.linear .ss (old.stackOff (i * w.bytes))) w.bytes := by
  simp only [readParam, h]

/-- A parameter outside the old stack raises the exception of that access (R411, D33). -/
theorem readParam_of_outside {old : State} {w : Width} {i : Nat} {e : Exc}
    (h : segFault old.mode .ss old.seg.ss (old.stackOff (i * w.bytes)) w.bytes .read = some e) :
    readParam old w i = raiseExc e := by
  simp only [readParam, h]

/-- A parameter that can be read is pushed, and then the ones below it are copied (R411). -/
theorem copyParams_of_read {old s : State} {w : Width} {i : Nat} {v : DWord} (h : readParam old w i s = .ok v s) (hp : CanPush s w) :
    copyParams old w (i + 1) s = copyParams old w i (s.pushed w v) := by
  rw [copyParams, bind_of_ok h, bind_of_ok (push_of_can v hp)]

/-- A parameter that cannot be read ends the copying before any further push (R411). -/
theorem copyParams_of_error {old s t : State} {w : Width} {i : Nat} {e : Exc} (h : readParam old w i s = .error e t) :
    copyParams old w (i + 1) s = .error e t := by
  rw [copyParams, bind_of_error h]

/-! ### The IOPL test of V86 mode -/

/-- The IOPL test raises #GP(0) in V86 mode with IOPL below 3 and otherwise changes nothing (R550). -/
theorem checkV86Iopl_run (s : State) :
    checkV86Iopl s = if s.mode = .v86 ∧ s.flags.iopl < 3 then .error (Exc.gp 0) s else .ok () s := by
  unfold checkV86Iopl
  rw [query_bind_run, raiseIf_run]
  simp [Bool.and_eq_true]

/-! ### Delivery -/

/-- What a delivery at the same level does once CS is loaded: the error code is pushed and the flags are changed, or the push
raises an exception and the accessed bit is all that is left (R438, R503 (b)). -/
theorem deliverSame_of_entered {g : Desc} {cs : Word} {c : Found} {err : Option Word} {ret : DWord} {s p u : State}
    (hroom : s.hasRoom g.gateWidth.bytes (3 + (codeValues err).length) = true)
    (hoff : g.gateOffset.toNat ≤ c.desc.limit.toNat)
    (hpush : pushAllOf g.gateWidth [s.flags.image, s.selD .cs, ret] s = .ok () p) (hacc : setAccessed c p = .ok () u) :
    deliverSame g cs c err ret s =
      match pushAllOf g.gateWidth (codeValues err) (u.withCode c cs s.cpl g.gateOffset) with
      | .ok _ t => .ok () { t with flags := t.flags.enter g.isInterruptGate }
      | .error e _ => .error e (s.markAccessed c) := by
  have hcheck : checkPushes g.gateWidth.bytes (3 + (codeValues err).length) s = .ok () s := by
    rw [checkPushes_run, if_pos hroom]
  have henter : atomically (do
      pushAllOf g.gateWidth [s.flags.image, s.selD .cs, ret]
      installCode c cs s.cpl g.gateOffset) s = .ok () (u.withCode c cs s.cpl g.gateOffset) := by
    apply atomically_of_ok
    rw [bind_of_ok hpush, installCode, bind_of_ok hacc]
    rfl
  unfold deliverSame
  rw [query_id_bind_run]
  refine (bind_of_ok hcheck).trans ?_
  rw [raiseIf_bind_run, decide_eq_false (Nat.not_lt.mpr hoff), if_neg Bool.false_ne_true, bind_of_ok henter]
  cases h : pushAllOf g.gateWidth (codeValues err) (u.withCode c cs s.cpl g.gateOffset) with
  | ok _ t => exact bind_of_ok (undoneTo_of_ok h)
  | error e t => exact bind_of_error (undoneTo_of_error h)

/-- A delivery that completes is the end of it (R433). -/
theorem deliverFrom_of_ok {k n : Nat} {src : Source} {err : Option Word} {ret : DWord} {s u : State}
    (h : deliverOnce n src err ret s = .ok () u) : deliverFrom (k + 1) n src err ret s = u := by
  simp only [deliverFrom, h]

/-- What follows an exception raised by a delivery: shutdown, a double fault, or that exception's own delivery (R530). -/
theorem deliverFrom_of_error {k n : Nat} {src : Source} {err : Option Word} {ret : DWord} {s u : State} {e : Exc}
    (h : deliverOnce n src err ret s = .error e u) :
    deliverFrom (k + 1) n src err ret s =
      let v := u.noteFault e
      let ret' := if e.inNewTask then v.insnStart else ret
      if n = 8 then { v with run := .shutdown }
      else if isDoubleFault n e.vector then deliverFrom k 8 .exception (some 0) ret' v
      else deliverFrom k e.vector .exception (externalCode e) ret' v := by
  simp only [deliverFrom, h]

/-! ### Raising an exception -/

/-- CR2 holds the linear address of a page fault (R47). -/
@[simp] theorem State.noteFault_pf (s : State) (c : Word) (lin : DWord) : s.noteFault (Exc.pf c lin) = { s with cr2 := lin } := rfl

/-- An exception that is no page fault keeps CR2 (R47). -/
theorem State.noteFault_of_none {e : Exc} (h : e.cr2 = none) (s : State) : s.noteFault e = s := by
  simp [State.noteFault, h]

/-- An exception whose delivery completes ends there (R520). -/
theorem raise_of_delivered {e : Exc} {s u : State}
    (h : deliverOnce e.vector .exception e.code s.insnStart { s.noteFault e with trapDue := false, eip := s.insnStart } = .ok () u) :
    s.raise e = u := deliverFrom_of_ok h

end Sys2Proof.Machine
end

