-- ==== Sys2Proof/Tests/Slice0.lean ====
section
/-!
SUPPORT. Tests and witnesses. The words of the decoding tests are written out from the opcode tables of
spec/30_encoding.md; the expected results of the step tests are those of spec/95_test_vectors.md, whose identifiers the
docstrings give. A witness theorem shows one concrete state and operands that meet all the hypotheses of a clause of an
obligation together.
-/
open Sys2Proof Sys2Proof.Machine Sys2Proof.Claims

namespace Sys2Proof.Tests

set_option Elab.async false

/-! ### Small machines -/

/-- A segment register as a load outside protected mode leaves it. -/
def seg86 (sel : Word) : SegReg := { SegReg.resetData with sel := sel, base := sel.setWidth 32 <<< 4 }

/-- Memory with some strings of bytes in it. -/
def bytes (l : List (DWord × List Byte)) : List Host.Cell := l.foldl (fun m p => Memory.place m p.1 p.2) []

/-- Real-address mode at 1000:0100, with a stack at 2000:0100 and data at 3000:0000. -/
def real : State :=
  { State.reset with
    eip := 0x0100
    insnStart := 0x0100
    gpr := { State.reset.gpr with eax := 0, edx := 0, esp := 0x0100 }
    seg := { es := seg86 0x4000, cs := { SegReg.resetCode with sel := 0x1000, base := 0x10000 }, ss := seg86 0x2000,
             ds := seg86 0x3000, fs := seg86 0x5000, gs := seg86 0x6000 } }

/-- A flat-limit segment register: selector, base, DPL, type, D/B. -/
def seg386 (sel : Word) (base : DWord) (dpl : BitVec 2) (type : BitVec 4) (db : Bool) : SegReg :=
  { sel := sel, base := base, limit := 0x0000FFFF, p := true, dpl := dpl, s := true, type := type, db := db, g := false,
    valid := true }

/-- The tables in memory. GDT at 2100H: 08 code of level 0, 10 data of level 0 at 20000H, 18 an LDT, 20 an available 386 TSS
at 2300H, 28 code of level 3, 30 data of level 3 at 20000H, 38 conforming code of level 0, 40 a busy 386 TSS at 2400H, 48 a
286 TSS at 2500H, 50 data whose accessed bit is clear. IDT at 3000H: gate 13 as in program P6, gate 3 a 386 trap gate of
level 3 to 08:0200, gate 14 not present, gate 5 to a null selector. -/
def tables : List Host.Cell :=
  bytes [
    (0x2108, [0xFF, 0xFF, 0, 0, 0, 0x9B, 0, 0]), (0x2110, [0xFF, 0xFF, 0, 0, 2, 0x93, 0, 0]),
    (0x2118, [0x0F, 0, 0, 0x22, 0, 0x82, 0, 0]), (0x2120, [0x67, 0, 0, 0x23, 0, 0x89, 0, 0]),
    (0x2128, [0xFF, 0xFF, 0, 0, 0, 0xFB, 0, 0]), (0x2130, [0xFF, 0xFF, 0, 0, 2, 0xF3, 0, 0]),
    (0x2138, [0xFF, 0xFF, 0, 0, 0, 0x9F, 0, 0]), (0x2140, [0x67, 0, 0, 0x24, 0, 0x8B, 0, 0]),
    (0x2148, [0x2B, 0, 0, 0x25, 0, 0x81, 0, 0]), (0x2150, [0xFF, 0xFF, 0, 0, 3, 0x92, 0, 0]),
    (0x2304, [0, 0x10, 0, 0, 0x10, 0]), (0x2366, [0x68, 0]), (0x2374, [1]),
    (0x3018, [0, 2, 8, 0, 0, 0xEF, 0, 0]), (0x3028, [0, 2, 0, 0, 0, 0xEF, 0, 0]), (0x3068, [0, 2, 8, 0, 0, 0x86, 0, 0]),
    (0x3070, [0, 2, 8, 0, 0, 0x0F, 0, 0])]

/-- Protected mode at level 0 and 0008:0300, 16-bit or 32-bit code and stack. -/
def prot (db : Bool) : State :=
  { real with
    cr0 := 1
    eip := 0x0300
    insnStart := 0x0300
    gpr := { real.gpr with esp := 0x1000 }
    gdtr := { base := 0x2100, limit := 0x57 }
    idtr := { base := 0x3000, limit := 0x77 }
    ldtr := { sel := 0x18, base := 0x2200, limit := 0x0F, valid := true }
    tr := { sel := 0x20, base := 0x2300, limit := 0x0FFF, is386 := true }
    seg := { es := seg386 0x10 0x20000 0 3 false, cs := seg386 0x08 0 0 0xB db, ss := seg386 0x10 0x20000 0 3 db,
             ds := seg386 0x10 0x20000 0 3 false, fs := seg386 0x10 0x20000 0 3 false, gs := seg386 0x10 0x20000 0 3 false }
    mem := tables }

/-- 32-bit protected mode at level 0 with nothing in memory. -/
def wide : State := { prot true with mem := [] }

/-- Protected mode at level 3. -/
def user (db : Bool) : State :=
  { prot db with
    cpl := 3
    seg := { es := seg386 0x33 0x20000 3 3 false, cs := seg386 0x2B 0 3 0xB db, ss := seg386 0x33 0x20000 3 3 db,
             ds := seg386 0x33 0x20000 3 3 false, fs := seg386 0x33 0x20000 3 3 false, gs := seg386 0x33 0x20000 3 3 false } }

/-- V86 mode with an IOPL. -/
def v86 (iopl : BitVec 2) : State :=
  { prot false with
    cpl := 3
    flags := { Flags.reset with vm := true, iopl := iopl }
    seg := { es := v86Segment 0x4000, cs := v86Segment 0x1000, ss := v86Segment 0x2000, ds := v86Segment 0x3000,
             fs := v86Segment 0x5000, gs := v86Segment 0x6000 } }

/-- The state after one step with some bytes at CS:EIP. -/
def after (bs : List Byte) (s : State) : Option State :=
  match step (s.placeAtFetch bs) with
  | .next t => some t
  | _ => none

/-- Something of the state after one step. -/
def saw {α : Type} (bs : List Byte) (s : State) (f : State → α) : Option α := (after bs s).map f

/-- The exception that an operation raises. -/
def raised {α : Type} (x : Op α) (s : State) : Option Exc :=
  match x s with
  | .ok _ _ => none
  | .error e _ => some e

/-- AX, and so on. -/
def w (t : State) (r : Reg) : DWord := t.regW .w16 r

/-- The word at a physical address. -/
def word (t : State) (a : Nat) : Nat := (Memory.read t.mem a).toNat + 256 * (Memory.read t.mem (a + 1)).toNat

/-- OF, SF, ZF, AF, PF, CF. -/
def oszapc (t : State) : List Bool := [t.flags.ofl, t.flags.sf, t.flags.zf, t.flags.af, t.flags.pf, t.flags.cf]

/-- OF, SF, ZF, PF, CF: the status flags of a logical operation, whose AF is free. -/
def oszpc (t : State) : List Bool := [t.flags.ofl, t.flags.sf, t.flags.zf, t.flags.pf, t.flags.cf]

/-- A flags list from ones and zeros. -/
def bits (l : List Nat) : List Bool := l.map fun n => n == 1

/-- Registers of a machine. -/
def with4 (s : State) (eax ebx ecx edx : DWord) : State :=
  { s with gpr := { s.gpr with eax := eax, ebx := ebx, ecx := ecx, edx := edx } }

/-- The carry flag of a machine. -/
def withCf (s : State) (c : Bool) : State := { s with flags := { s.flags with cf := c } }

/-- Memory of a machine: strings of bytes added to what it has. -/
def withMem (s : State) (l : List (DWord × List Byte)) : State :=
  { s with mem := l.foldl (fun m p => Memory.place m p.1 p.2) s.mem }

/-! ### Decoding (spec/30_encoding.md R180 to R185) -/

/-- Each string of bytes is exactly the instruction beside it. -/
def reads (d : Width) (l : List (List Byte × Instr)) : Bool := l.all fun p => decode d p.1 == .ok ⟨[], p.2⟩ []

/-- Whether the decoder rejects the bytes for a reason. -/
def rejects (d : Width) (bs : List Byte) (why : Reject) : Bool := decode d bs == .undefined why

/-- ADD: 00 to 05, 80 /0, 81 /0, 83 /0 (R180). -/
theorem test_decode_add : reads .w16
    [([0x00, 0xD9], .addRm8R8 (.reg .cl) .bl),
     ([0x01, 0xD9], .addRmvRv (.reg .ecx) .ebx),
     ([0x02, 0xD9], .addR8Rm8 .bl (.reg .cl)),
     ([0x03, 0xD9], .addRvRmv .ebx (.reg .ecx)),
     ([0x04, 0x7F], .addAlImm8 0x7F),
     ([0x05, 0x34, 0x12], .addEaxImmv 0x1234),
     ([0x80, 0xC1, 0x05], .addRm8Imm8 (.reg .cl) 5),
     ([0x81, 0xC1, 0x34, 0x12], .addRmvImm (.reg .ecx) (.full 0x1234)),
     ([0x83, 0xC1, 0xFE], .addRmvImm (.reg .ecx) (.short 0xFE))] = true := by decide +kernel

/-- OR: 08 to 0D, 80 /1, 81 /1, 83 /1 (R180). -/
theorem test_decode_or : reads .w16
    [([0x08, 0xD9], .orRm8R8 (.reg .cl) .bl),
     ([0x09, 0xD9], .orRmvRv (.reg .ecx) .ebx),
     ([0x0A, 0xD9], .orR8Rm8 .bl (.reg .cl)),
     ([0x0B, 0xD9], .orRvRmv .ebx (.reg .ecx)),
     ([0x0C, 0x7F], .orAlImm8 0x7F),
     ([0x0D, 0x34, 0x12], .orEaxImmv 0x1234),
     ([0x80, 0xC9, 0x05], .orRm8Imm8 (.reg .cl) 5),
     ([0x81, 0xC9, 0x34, 0x12], .orRmvImm (.reg .ecx) (.full 0x1234)),
     ([0x83, 0xC9, 0xFE], .orRmvImm (.reg .ecx) (.short 0xFE))] = true := by decide +kernel

/-- ADC: 10 to 15, 80 /2, 81 /2, 83 /2 (R180). -/
theorem test_decode_adc : reads .w16
    [([0x10, 0xD9], .adcRm8R8 (.reg .cl) .bl),
     ([0x11, 0xD9], .adcRmvRv (.reg .ecx) .ebx),
     ([0x12, 0xD9], .adcR8Rm8 .bl (.reg .cl)),
     ([0x13, 0xD9], .adcRvRmv .ebx (.reg .ecx)),
     ([0x14, 0x7F], .adcAlImm8 0x7F),
     ([0x15, 0x34, 0x12], .adcEaxImmv 0x1234),
     ([0x80, 0xD1, 0x05], .adcRm8Imm8 (.reg .cl) 5),
     ([0x81, 0xD1, 0x34, 0x12], .adcRmvImm (.reg .ecx) (.full 0x1234)),
     ([0x83, 0xD1, 0xFE], .adcRmvImm (.reg .ecx) (.short 0xFE))] = true := by decide +kernel

/-- SBB: 18 to 1D, 80 /3, 81 /3, 83 /3 (R180). -/
theorem test_decode_sbb : reads .w16
    [([0x18, 0xD9], .sbbRm8R8 (.reg .cl) .bl),
     ([0x19, 0xD9], .sbbRmvRv (.reg .ecx) .ebx),
     ([0x1A, 0xD9], .sbbR8Rm8 .bl (.reg .cl)),
     ([0x1B, 0xD9], .sbbRvRmv .ebx (.reg .ecx)),
     ([0x1C, 0x7F], .sbbAlImm8 0x7F),
     ([0x1D, 0x34, 0x12], .sbbEaxImmv 0x1234),
     ([0x80, 0xD9, 0x05], .sbbRm8Imm8 (.reg .cl) 5),
     ([0x81, 0xD9, 0x34, 0x12], .sbbRmvImm (.reg .ecx) (.full 0x1234)),
     ([0x83, 0xD9, 0xFE], .sbbRmvImm (.reg .ecx) (.short 0xFE))] = true := by decide +kernel

/-- AND: 20 to 25, 80 /4, 81 /4, 83 /4 (R180). -/
theorem test_decode_and : reads .w16
    [([0x20, 0xD9], .andRm8R8 (.reg .cl) .bl),
     ([0x21, 0xD9], .andRmvRv (.reg .ecx) .ebx),
     ([0x22, 0xD9], .andR8Rm8 .bl (.reg .cl)),
     ([0x23, 0xD9], .andRvRmv .ebx (.reg .ecx)),
     ([0x24, 0x7F], .andAlImm8 0x7F),
     ([0x25, 0x34, 0x12], .andEaxImmv 0x1234),
     ([0x80, 0xE1, 0x05], .andRm8Imm8 (.reg .cl) 5),
     ([0x81, 0xE1, 0x34, 0x12], .andRmvImm (.reg .ecx) (.full 0x1234)),
     ([0x83, 0xE1, 0xFE], .andRmvImm (.reg .ecx) (.short 0xFE))] = true := by decide +kernel

/-- SUB: 28 to 2D, 80 /5, 81 /5, 83 /5 (R180). -/
theorem test_decode_sub : reads .w16
    [([0x28, 0xD9], .subRm8R8 (.reg .cl) .bl),
     ([0x29, 0xD9], .subRmvRv (.reg .ecx) .ebx),
     ([0x2A, 0xD9], .subR8Rm8 .bl (.reg .cl)),
     ([0x2B, 0xD9], .subRvRmv .ebx (.reg .ecx)),
     ([0x2C, 0x7F], .subAlImm8 0x7F),
     ([0x2D, 0x34, 0x12], .subEaxImmv 0x1234),
     ([0x80, 0xE9, 0x05], .subRm8Imm8 (.reg .cl) 5),
     ([0x81, 0xE9, 0x34, 0x12], .subRmvImm (.reg .ecx) (.full 0x1234)),
     ([0x83, 0xE9, 0xFE], .subRmvImm (.reg .ecx) (.short 0xFE))] = true := by decide +kernel

/-- XOR: 30 to 35, 80 /6, 81 /6, 83 /6 (R180). -/
theorem test_decode_xor : reads .w16
    [([0x30, 0xD9], .xorRm8R8 (.reg .cl) .bl),
     ([0x31, 0xD9], .xorRmvRv (.reg .ecx) .ebx),
     ([0x32, 0xD9], .xorR8Rm8 .bl (.reg .cl)),
     ([0x33, 0xD9], .xorRvRmv .ebx (.reg .ecx)),
     ([0x34, 0x7F], .xorAlImm8 0x7F),
     ([0x35, 0x34, 0x12], .xorEaxImmv 0x1234),
     ([0x80, 0xF1, 0x05], .xorRm8Imm8 (.reg .cl) 5),
     ([0x81, 0xF1, 0x34, 0x12], .xorRmvImm (.reg .ecx) (.full 0x1234)),
     ([0x83, 0xF1, 0xFE], .xorRmvImm (.reg .ecx) (.short 0xFE))] = true := by decide +kernel

/-- CMP: 38 to 3D, 80 /7, 81 /7, 83 /7 (R180). -/
theorem test_decode_cmp : reads .w16
    [([0x38, 0xD9], .cmpRm8R8 (.reg .cl) .bl),
     ([0x39, 0xD9], .cmpRmvRv (.reg .ecx) .ebx),
     ([0x3A, 0xD9], .cmpR8Rm8 .bl (.reg .cl)),
     ([0x3B, 0xD9], .cmpRvRmv .ebx (.reg .ecx)),
     ([0x3C, 0x7F], .cmpAlImm8 0x7F),
     ([0x3D, 0x34, 0x12], .cmpEaxImmv 0x1234),
     ([0x80, 0xF9, 0x05], .cmpRm8Imm8 (.reg .cl) 5),
     ([0x81, 0xF9, 0x34, 0x12], .cmpRmvImm (.reg .ecx) (.full 0x1234)),
     ([0x83, 0xF9, 0xFE], .cmpRmvImm (.reg .ecx) (.short 0xFE))] = true := by decide +kernel

/-- TEST, INC, DEC, NOT, NEG: 84, 85, A8, A9, F6 /0, F7 /0, 40+r, 48+r, FE, FF, F6 /2 /3 (R180, R183). -/
theorem test_decode_test_inc_dec : reads .w32
    [([0x84, 0xD9], .testRm8R8 (.reg .cl) .bl),
     ([0x85, 0xD9], .testRmvRv (.reg .ecx) .ebx),
     ([0xA8, 0x0F], .testAlImm8 0x0F),
     ([0xA9, 0x78, 0x56, 0x34, 0x12], .testEaxImmv 0x12345678),
     ([0xF6, 0xC2, 0x80], .testRm8Imm8 (.reg .dl) 0x80),
     ([0xF7, 0xC2, 0x01, 0x00, 0x00, 0x80], .testRmvImmv (.reg .edx) 0x80000001),
     ([0x46], .incRv .esi),
     ([0x4F], .decRv .edi),
     ([0xFE, 0xC4], .incRm8 (.reg .ah)),
     ([0xFE, 0xCC], .decRm8 (.reg .ah)),
     ([0xFF, 0xC3], .incRmv (.reg .ebx)),
     ([0xFF, 0xCB], .decRmv (.reg .ebx)),
     ([0xF6, 0xD0], .notRm8 (.reg .al)),
     ([0xF7, 0xD0], .notRmv (.reg .eax)),
     ([0xF6, 0xD8], .negRm8 (.reg .al)),
     ([0xF7, 0xD8], .negRmv (.reg .eax))] = true := by decide +kernel

/-- CBW, CWD and the decimal adjustments: 98, 99, 27, 2F, 37, 3F, D4 0A, D5 0A (R180 to R182). -/
theorem test_decode_adjust : reads .w16
    [([0x98], .cbw),
     ([0x99], .cwd),
     ([0x27], .daa),
     ([0x2F], .das),
     ([0x37], .aaa),
     ([0x3F], .aas),
     ([0xD4, 0x0A], .aam),
     ([0xD5, 0x0A], .aad)] = true := by decide +kernel

/-- MUL, IMUL, DIV, IDIV: F6 and F7 /4 to /7, 69, 6B, 0F AF (R181, R183, R185). -/
theorem test_decode_multiply_divide : reads .w16
    [([0xF6, 0xE3], .mulRm8 (.reg .bl)),
     ([0xF7, 0xE3], .mulRmv (.reg .ebx)),
     ([0xF6, 0xEB], .imulRm8 (.reg .bl)),
     ([0xF7, 0xEB], .imulRmv (.reg .ebx)),
     ([0xF6, 0xF3], .divRm8 (.reg .bl)),
     ([0xF7, 0xF3], .divRmv (.reg .ebx)),
     ([0xF6, 0xFB], .idivRm8 (.reg .bl)),
     ([0xF7, 0xFB], .idivRmv (.reg .ebx)),
     ([0x69, 0xC3, 0xE8, 0x03], .imulRvRmvImmv .eax (.reg .ebx) 1000),
     ([0x6B, 0xC3, 0xFF], .imulRvRmvImm8 .eax (.reg .ebx) 0xFF),
     ([0x0F, 0xAF, 0xC3], .imulRvRmv .eax (.reg .ebx))] = true := by decide +kernel

/-- ROL: D0 /0, D2 /0, C0 /0, D1 /0, D3 /0, C1 /0 (R184). -/
theorem test_decode_rol : reads .w16
    [([0xD0, 0xC2], .rolRm8 (.reg .dl) .one),
     ([0xD2, 0xC2], .rolRm8 (.reg .dl) .cl),
     ([0xC0, 0xC2, 0x09], .rolRm8 (.reg .dl) (.imm 9)),
     ([0xD1, 0xC2], .rolRmv (.reg .edx) .one),
     ([0xD3, 0xC2], .rolRmv (.reg .edx) .cl),
     ([0xC1, 0xC2, 0x09], .rolRmv (.reg .edx) (.imm 9))] = true := by decide +kernel

/-- ROR: D0 /1, D2 /1, C0 /1, D1 /1, D3 /1, C1 /1 (R184). -/
theorem test_decode_ror : reads .w16
    [([0xD0, 0xCA], .rorRm8 (.reg .dl) .one),
     ([0xD2, 0xCA], .rorRm8 (.reg .dl) .cl),
     ([0xC0, 0xCA, 0x09], .rorRm8 (.reg .dl) (.imm 9)),
     ([0xD1, 0xCA], .rorRmv (.reg .edx) .one),
     ([0xD3, 0xCA], .rorRmv (.reg .edx) .cl),
     ([0xC1, 0xCA, 0x09], .rorRmv (.reg .edx) (.imm 9))] = true := by decide +kernel

/-- RCL: D0 /2, D2 /2, C0 /2, D1 /2, D3 /2, C1 /2 (R184). -/
theorem test_decode_rcl : reads .w16
    [([0xD0, 0xD2], .rclRm8 (.reg .dl) .one),
     ([0xD2, 0xD2], .rclRm8 (.reg .dl) .cl),
     ([0xC0, 0xD2, 0x09], .rclRm8 (.reg .dl) (.imm 9)),
     ([0xD1, 0xD2], .rclRmv (.reg .edx) .one),
     ([0xD3, 0xD2], .rclRmv (.reg .edx) .cl),
     ([0xC1, 0xD2, 0x09], .rclRmv (.reg .edx) (.imm 9))] = true := by decide +kernel

/-- RCR: D0 /3, D2 /3, C0 /3, D1 /3, D3 /3, C1 /3 (R184). -/
theorem test_decode_rcr : reads .w16
    [([0xD0, 0xDA], .rcrRm8 (.reg .dl) .one),
     ([0xD2, 0xDA], .rcrRm8 (.reg .dl) .cl),
     ([0xC0, 0xDA, 0x09], .rcrRm8 (.reg .dl) (.imm 9)),
     ([0xD1, 0xDA], .rcrRmv (.reg .edx) .one),
     ([0xD3, 0xDA], .rcrRmv (.reg .edx) .cl),
     ([0xC1, 0xDA, 0x09], .rcrRmv (.reg .edx) (.imm 9))] = true := by decide +kernel

/-- SAL: D0 /4, D2 /4, C0 /4, D1 /4, D3 /4, C1 /4 (R184). -/
theorem test_decode_sal : reads .w16
    [([0xD0, 0xE2], .salRm8 (.reg .dl) .one),
     ([0xD2, 0xE2], .salRm8 (.reg .dl) .cl),
     ([0xC0, 0xE2, 0x09], .salRm8 (.reg .dl) (.imm 9)),
     ([0xD1, 0xE2], .salRmv (.reg .edx) .one),
     ([0xD3, 0xE2], .salRmv (.reg .edx) .cl),
     ([0xC1, 0xE2, 0x09], .salRmv (.reg .edx) (.imm 9))] = true := by decide +kernel

/-- SHR: D0 /5, D2 /5, C0 /5, D1 /5, D3 /5, C1 /5 (R184). -/
theorem test_decode_shr : reads .w16
    [([0xD0, 0xEA], .shrRm8 (.reg .dl) .one),
     ([0xD2, 0xEA], .shrRm8 (.reg .dl) .cl),
     ([0xC0, 0xEA, 0x09], .shrRm8 (.reg .dl) (.imm 9)),
     ([0xD1, 0xEA], .shrRmv (.reg .edx) .one),
     ([0xD3, 0xEA], .shrRmv (.reg .edx) .cl),
     ([0xC1, 0xEA, 0x09], .shrRmv (.reg .edx) (.imm 9))] = true := by decide +kernel

/-- SAR: D0 /7, D2 /7, C0 /7, D1 /7, D3 /7, C1 /7 (R184). -/
theorem test_decode_sar : reads .w16
    [([0xD0, 0xFA], .sarRm8 (.reg .dl) .one),
     ([0xD2, 0xFA], .sarRm8 (.reg .dl) .cl),
     ([0xC0, 0xFA, 0x09], .sarRm8 (.reg .dl) (.imm 9)),
     ([0xD1, 0xFA], .sarRmv (.reg .edx) .one),
     ([0xD3, 0xFA], .sarRmv (.reg .edx) .cl),
     ([0xC1, 0xFA, 0x09], .sarRmv (.reg .edx) (.imm 9))] = true := by decide +kernel

/-- SHLD, SHRD, BT, BTS, BTR, BTC, BSF, BSR: 0F A3 to 0F BD, 0F BA /4 to /7 (R185). -/
theorem test_decode_bits : reads .w32
    [([0x0F, 0xA4, 0xD8, 0x10], .shldImm8 (.reg .eax) .ebx 16),
     ([0x0F, 0xA5, 0xD8], .shldCl (.reg .eax) .ebx),
     ([0x0F, 0xAC, 0xD8, 0x10], .shrdImm8 (.reg .eax) .ebx 16),
     ([0x0F, 0xAD, 0xD8], .shrdCl (.reg .eax) .ebx),
     ([0x0F, 0xA3, 0xC8], .btRmvRv (.reg .eax) .ecx),
     ([0x0F, 0xAB, 0xC8], .btsRmvRv (.reg .eax) .ecx),
     ([0x0F, 0xB3, 0xC8], .btrRmvRv (.reg .eax) .ecx),
     ([0x0F, 0xBB, 0xC8], .btcRmvRv (.reg .eax) .ecx),
     ([0x0F, 0xBA, 0xE0, 0x15], .btRmvImm8 (.reg .eax) 21),
     ([0x0F, 0xBA, 0xE8, 0x15], .btsRmvImm8 (.reg .eax) 21),
     ([0x0F, 0xBA, 0xF0, 0x15], .btrRmvImm8 (.reg .eax) 21),
     ([0x0F, 0xBA, 0xF8, 0x15], .btcRmvImm8 (.reg .eax) 21),
     ([0x0F, 0xBC, 0xC3], .bsf .eax (.reg .ebx)),
     ([0x0F, 0xBD, 0xC3], .bsr .eax (.reg .ebx))] = true := by decide +kernel

/-- SETcc: 0F 90 to 0F 9F (R185). -/
theorem test_decode_set : reads .w16
    [([0x0F, 0x90, 0xC3], .seto (.reg .bl)),
     ([0x0F, 0x91, 0xC3], .setno (.reg .bl)),
     ([0x0F, 0x92, 0xC3], .setb (.reg .bl)),
     ([0x0F, 0x93, 0xC3], .setae (.reg .bl)),
     ([0x0F, 0x94, 0xC3], .sete (.reg .bl)),
     ([0x0F, 0x95, 0xC3], .setne (.reg .bl)),
     ([0x0F, 0x96, 0xC3], .setbe (.reg .bl)),
     ([0x0F, 0x97, 0xC3], .seta (.reg .bl)),
     ([0x0F, 0x98, 0xC3], .sets (.reg .bl)),
     ([0x0F, 0x99, 0xC3], .setns (.reg .bl)),
     ([0x0F, 0x9A, 0xC3], .setp (.reg .bl)),
     ([0x0F, 0x9B, 0xC3], .setnp (.reg .bl)),
     ([0x0F, 0x9C, 0xC3], .setl (.reg .bl)),
     ([0x0F, 0x9D, 0xC3], .setge (.reg .bl)),
     ([0x0F, 0x9E, 0xC3], .setle (.reg .bl)),
     ([0x0F, 0x9F, 0xC3], .setg (.reg .bl))] = true := by decide +kernel

/-- Jcc with an 8-bit offset: 70 to 7F (R181). -/
theorem test_decode_jump_short : reads .w16
    [([0x70, 0xFA], .jo8 0xFA),
     ([0x71, 0xFA], .jno8 0xFA),
     ([0x72, 0xFA], .jb8 0xFA),
     ([0x73, 0xFA], .jae8 0xFA),
     ([0x74, 0xFA], .je8 0xFA),
     ([0x75, 0xFA], .jne8 0xFA),
     ([0x76, 0xFA], .jbe8 0xFA),
     ([0x77, 0xFA], .ja8 0xFA),
     ([0x78, 0xFA], .js8 0xFA),
     ([0x79, 0xFA], .jns8 0xFA),
     ([0x7A, 0xFA], .jp8 0xFA),
     ([0x7B, 0xFA], .jnp8 0xFA),
     ([0x7C, 0xFA], .jl8 0xFA),
     ([0x7D, 0xFA], .jge8 0xFA),
     ([0x7E, 0xFA], .jle8 0xFA),
     ([0x7F, 0xFA], .jg8 0xFA)] = true := by decide +kernel

/-- Jcc with a full offset, here 16 bits, sign-extended: 0F 80 to 0F 8F (R185). -/
theorem test_decode_jump_near : reads .w16
    [([0x0F, 0x80, 0xFC, 0xFF], .joNear 0xFFFFFFFC),
     ([0x0F, 0x81, 0xFC, 0xFF], .jnoNear 0xFFFFFFFC),
     ([0x0F, 0x82, 0xFC, 0xFF], .jbNear 0xFFFFFFFC),
     ([0x0F, 0x83, 0xFC, 0xFF], .jaeNear 0xFFFFFFFC),
     ([0x0F, 0x84, 0xFC, 0xFF], .jeNear 0xFFFFFFFC),
     ([0x0F, 0x85, 0xFC, 0xFF], .jneNear 0xFFFFFFFC),
     ([0x0F, 0x86, 0xFC, 0xFF], .jbeNear 0xFFFFFFFC),
     ([0x0F, 0x87, 0xFC, 0xFF], .jaNear 0xFFFFFFFC),
     ([0x0F, 0x88, 0xFC, 0xFF], .jsNear 0xFFFFFFFC),
     ([0x0F, 0x89, 0xFC, 0xFF], .jnsNear 0xFFFFFFFC),
     ([0x0F, 0x8A, 0xFC, 0xFF], .jpNear 0xFFFFFFFC),
     ([0x0F, 0x8B, 0xFC, 0xFF], .jnpNear 0xFFFFFFFC),
     ([0x0F, 0x8C, 0xFC, 0xFF], .jlNear 0xFFFFFFFC),
     ([0x0F, 0x8D, 0xFC, 0xFF], .jgeNear 0xFFFFFFFC),
     ([0x0F, 0x8E, 0xFC, 0xFF], .jleNear 0xFFFFFFFC),
     ([0x0F, 0x8F, 0xFC, 0xFF], .jgNear 0xFFFFFFFC)] = true := by decide +kernel

/-- MOV: 88 to 8C, 8E, A0 to A3, B0+r, B8+r, C6 /0, C7 /0 (R181 to R183). -/
theorem test_decode_move : reads .w32
    [([0x88, 0xD9], .movRm8R8 (.reg .cl) .bl),
     ([0x89, 0xD9], .movRmvRv (.reg .ecx) .ebx),
     ([0x8A, 0xD9], .movR8Rm8 .bl (.reg .cl)),
     ([0x8B, 0xD9], .movRvRmv .ebx (.reg .ecx)),
     ([0x8C, 0xE8], .movRmvSreg (.reg .eax) .gs),
     ([0x8E, 0xE0], .movSregRm16 .fs (.reg .eax)),
     ([0xA0, 0x44, 0x33, 0x22, 0x11], .movAlMoffs 0x11223344),
     ([0xA1, 0x44, 0x33, 0x22, 0x11], .movEaxMoffs 0x11223344),
     ([0xA2, 0x44, 0x33, 0x22, 0x11], .movMoffsAl 0x11223344),
     ([0xA3, 0x44, 0x33, 0x22, 0x11], .movMoffsEax 0x11223344),
     ([0xB4, 0x7F], .movR8Imm8 .ah 0x7F),
     ([0xBD, 0x78, 0x56, 0x34, 0x12], .movRvImmv .ebp 0x12345678),
     ([0xC6, 0xC3, 0x5A], .movRm8Imm8 (.reg .bl) 0x5A),
     ([0xC7, 0xC3, 0x78, 0x56, 0x34, 0x12], .movRmvImmv (.reg .ebx) 0x12345678)] = true := by decide +kernel

/-- MOVZX, MOVSX, LEA, XLAT, XCHG, far pointers, BOUND: 0F B6, B7, BE, BF, 8D, D7, 86, 87, 91+r, C4, C5, 0F B2, B4, B5, 62. -/
theorem test_decode_extend_exchange : reads .w32
    [([0x0F, 0xB6, 0xC3], .movzxRvRm8 .eax (.reg .bl)),
     ([0x0F, 0xB7, 0xC3], .movzxRdRm16 .eax (.reg .ebx)),
     ([0x0F, 0xBE, 0xC3], .movsxRvRm8 .eax (.reg .bl)),
     ([0x0F, 0xBF, 0xC3], .movsxRdRm16 .eax (.reg .ebx)),
     ([0x8D, 0x43, 0x08], .lea .eax (.a32 (some .ebx) none 8)),
     ([0xD7], .xlat),
     ([0x86, 0xD9], .xchgRm8R8 (.reg .cl) .bl),
     ([0x87, 0xD9], .xchgRmvRv (.reg .ecx) .ebx),
     ([0x95], .xchgEaxRv .ebp),
     ([0xC4, 0x0B], .les .ecx (.a32 (some .ebx) none 0)),
     ([0xC5, 0x0B], .lds .ecx (.a32 (some .ebx) none 0)),
     ([0x0F, 0xB2, 0x0B], .lss .ecx (.a32 (some .ebx) none 0)),
     ([0x0F, 0xB4, 0x0B], .lfs .ecx (.a32 (some .ebx) none 0)),
     ([0x0F, 0xB5, 0x0B], .lgs .ecx (.a32 (some .ebx) none 0)),
     ([0x62, 0x0B], .bound .ecx (.a32 (some .ebx) none 0))] = true := by decide +kernel

/-- PUSH and POP: 50+r, 58+r, 68, 6A, FF /6, 8F /0, 06 to 1F, 0F A0 to A9, 60, 61, 9C, 9D, C8, C9. -/
theorem test_decode_stack : reads .w16
    [([0x54], .pushRv .esp),
     ([0x5C], .popRv .esp),
     ([0x68, 0x34, 0x12], .pushImmv 0x1234),
     ([0x6A, 0x80], .pushImm8 0x80),
     ([0xFF, 0xF3], .pushRmv (.reg .ebx)),
     ([0x8F, 0xC3], .popRmv (.reg .ebx)),
     ([0x06], .pushEs),
     ([0x07], .popEs),
     ([0x0E], .pushCs),
     ([0x16], .pushSs),
     ([0x17], .popSs),
     ([0x1E], .pushDs),
     ([0x1F], .popDs),
     ([0x0F, 0xA0], .pushFs),
     ([0x0F, 0xA1], .popFs),
     ([0x0F, 0xA8], .pushGs),
     ([0x0F, 0xA9], .popGs),
     ([0x60], .pusha),
     ([0x61], .popa),
     ([0x9C], .pushf),
     ([0x9D], .popf),
     ([0xC8, 0x04, 0x00, 0x02], .enter 4 2),
     ([0xC9], .leave)] = true := by decide +kernel

/-- Flag control, HLT, WAIT, NOP, LAHF, SAHF, IN and OUT: F4, F5, F8 to FD, 9B, 90, 9E, 9F, E4 to E7, EC to EF. -/
theorem test_decode_flags_io : reads .w16
    [([0xF4], .hlt),
     ([0xF5], .cmc),
     ([0xF8], .clc),
     ([0xF9], .stc),
     ([0xFA], .cli),
     ([0xFB], .sti),
     ([0xFC], .cld),
     ([0xFD], .std),
     ([0x9B], .wait),
     ([0x90], .nop),
     ([0x9E], .sahf),
     ([0x9F], .lahf),
     ([0xE4, 0x60], .inAlImm8 0x60),
     ([0xE5, 0x60], .inEaxImm8 0x60),
     ([0xE6, 0x80], .outImm8Al 0x80),
     ([0xE7, 0x80], .outImm8Eax 0x80),
     ([0xEC], .inAlDx),
     ([0xED], .inEaxDx),
     ([0xEE], .outDxAl),
     ([0xEF], .outDxEax)] = true := by decide +kernel

/-- The string instructions: 6C to 6F, A4 to A7, AA to AF. -/
theorem test_decode_strings : reads .w16
    [([0x6C], .insb),
     ([0x6D], .insv),
     ([0x6E], .outsb),
     ([0x6F], .outsv),
     ([0xA4], .movsb),
     ([0xA5], .movsv),
     ([0xA6], .cmpsb),
     ([0xA7], .cmpsv),
     ([0xAA], .stosb),
     ([0xAB], .stosv),
     ([0xAC], .lodsb),
     ([0xAD], .lodsv),
     ([0xAE], .scasb),
     ([0xAF], .scasv)] = true := by decide +kernel

/-- JMP, CALL, RET, LOOP, JCXZ, INT, IRET: 9A, C2, C3, CA, CB, CC to CF, E0 to E3, E8 to EB, FF /2 to /5. -/
theorem test_decode_transfers : reads .w16
    [([0xE9, 0x20, 0x00], .jmpRelv 0x20),
     ([0xEB, 0xFE], .jmpRel8 0xFE),
     ([0xEA, 0x00, 0x00, 0x00, 0xF0], .jmpFarPtr 0 0xF000),
     ([0xFF, 0xE3], .jmpRmv (.reg .ebx)),
     ([0xFF, 0x2E, 0x00, 0x03], .jmpFarMem (.a16 none 0x300)),
     ([0xE8, 0xFD, 0xFF], .callRelv 0xFFFFFFFD),
     ([0x9A, 0x05, 0x01, 0x00, 0x10], .callFarPtr 0x105 0x1000),
     ([0xFF, 0xD3], .callRmv (.reg .ebx)),
     ([0xFF, 0x1E, 0x00, 0x03], .callFarMem (.a16 none 0x300)),
     ([0xC3], .retNear),
     ([0xC2, 0x04, 0x00], .retNearImm 4),
     ([0xCB], .retFar),
     ([0xCA, 0x02, 0x00], .retFarImm 2),
     ([0xE0, 0xFE], .loopne 0xFE),
     ([0xE1, 0xFE], .loope 0xFE),
     ([0xE2, 0xFE], .loop 0xFE),
     ([0xE3, 0x05], .jcxz 5),
     ([0xCC], .int3),
     ([0xCD, 0x21], .int 0x21),
     ([0xCE], .into),
     ([0xCF], .iret)] = true := by decide +kernel

/-- System instructions: 63, 0F 00 /0 to /5, 0F 01 /0 to /4 /6, 0F 02, 0F 03, 0F 06, 0F 20 to 26, D8 to DF (R176, R183, R185). -/
theorem test_decode_system : reads .w16
    [([0x63, 0xD8], .arpl (.reg .eax) .ebx),
     ([0x0F, 0x00, 0xC0], .sldt (.reg .eax)),
     ([0x0F, 0x00, 0xC8], .str (.reg .eax)),
     ([0x0F, 0x00, 0xD0], .lldt (.reg .eax)),
     ([0x0F, 0x00, 0xD8], .ltr (.reg .eax)),
     ([0x0F, 0x00, 0xE3], .verr (.reg .ebx)),
     ([0x0F, 0x00, 0xEB], .verw (.reg .ebx)),
     ([0x0F, 0x01, 0x06, 0x00, 0x02], .sgdt (.a16 none 0x200)),
     ([0x0F, 0x01, 0x0E, 0x00, 0x02], .sidt (.a16 none 0x200)),
     ([0x0F, 0x01, 0x16, 0x00, 0x01], .lgdt (.a16 none 0x100)),
     ([0x0F, 0x01, 0x1E, 0x00, 0x01], .lidt (.a16 none 0x100)),
     ([0x0F, 0x01, 0xE0], .smsw (.reg .eax)),
     ([0x0F, 0x01, 0xF0], .lmsw (.reg .eax)),
     ([0x0F, 0x02, 0xC3], .lar .eax (.reg .ebx)),
     ([0x0F, 0x03, 0xC3], .lsl .eax (.reg .ebx)),
     ([0x0F, 0x06], .clts),
     ([0x0F, 0x20, 0xC3], .movRdCr .ebx .cr0),
     ([0x0F, 0x21, 0xFB], .movRdDr .ebx .dr7),
     ([0x0F, 0x22, 0xDB], .movCrRd .cr3 .ebx),
     ([0x0F, 0x23, 0xF3], .movDrRd .dr6 .ebx),
     ([0x0F, 0x24, 0xF3], .movRdTr .ebx .tr6),
     ([0x0F, 0x26, 0xFB], .movTrRd .tr7 .ebx),
     ([0xDD, 0xC8], .esc 5 1 (.reg .eax))] = true := by decide +kernel
/-- The prefix bytes: 26, 2E, 36, 3E, 64, 65, 66, 67, F0, F2, F3 (R141). -/
theorem test_decode_prefixes :
    decode .w16 [0x26, 0x2E, 0x36, 0x3E, 0x64, 0x65, 0x66, 0x67, 0xF0, 0xF2, 0xF3, 0xA4] =
      .ok ⟨[.esOverride, .csOverride, .ssOverride, .dsOverride, .fsOverride, .gsOverride, .operandSize, .addressSize, .lock,
            .repne, .rep], .movsb⟩ [] := by decide +kernel

/-- E1 to E3: the 16-bit address forms. -/
theorem test_decode_address16 :
    reads .w16 [([0x8B, 0x00], .movRvRmv .eax (.mem (.a16 (some .bxSi) 0))),
      ([0x8B, 0x46, 0xFE], .movRvRmv .eax (.mem (.a16 (some .bp) 0xFFFE))),
      ([0x8B, 0x06, 0x34, 0x12], .movRvRmv .eax (.mem (.a16 none 0x1234)))] = true := by decide +kernel

/-- E5, E10 to E12: the 32-bit address forms with and without a SIB byte. -/
theorem test_decode_address32 :
    reads .w32 [([0x8B, 0x04, 0x8B], .movRvRmv .eax (.mem (.a32 (some .ebx) (some (.ecx, .x4)) 0))),
      ([0x8B, 0x04, 0x25, 0x78, 0x56, 0x34, 0x12], .movRvRmv .eax (.mem (.a32 none none 0x12345678))),
      ([0x8B, 0x44, 0x24, 0x08], .movRvRmv .eax (.mem (.a32 (some .esp) none 8))),
      ([0x8B, 0x45, 0x00], .movRvRmv .eax (.mem (.a32 (some .ebp) none 0))),
      ([0x8B, 0x05, 0x78, 0x56, 0x34, 0x12], .movRvRmv .eax (.mem (.a32 none none 0x12345678)))] = true := by decide +kernel

/-- E7, E8, E13: a size prefix selects the other operand or address size. -/
theorem test_decode_sizes :
    decode .w32 [0x67, 0x89, 0x07] = .ok ⟨[.addressSize], .movRmvRv (.mem (.a16 (some .bx) 0)) .eax⟩ [] ∧
    decode .w16 [0x66, 0xB8, 0x78, 0x56, 0x34, 0x12] = .ok ⟨[.operandSize], .movRvImmv .eax 0x12345678⟩ [] := by decide +kernel

/-- E16 to E19, E21: encodings that are no instruction, each rejected for its reason. -/
theorem test_decode_rejects :
    rejects .w16 [0xF6, 0xC8] .unassignedDigit = true ∧ rejects .w16 [0xFE, 0xD0] .unassignedDigit = true ∧
    rejects .w16 [0xFF, 0xF8] .unassignedDigit = true ∧ rejects .w16 [0xD0, 0xF0] .unassignedDigit = true ∧
    rejects .w16 [0x8D, 0xC0] .registerForm = true ∧ rejects .w16 [0xC5, 0xC0] .registerForm = true ∧
    rejects .w16 [0x8E, 0xC8] .segmentRegister = true ∧ rejects .w16 [0x8C, 0xF0] .segmentRegister = true ∧
    rejects .w16 [0xD6] .unknownOpcode = true ∧ rejects .w16 [0xF1] .unknownOpcode = true ∧
    rejects .w16 [0x0F, 0x0B] .unknownOpcode = true ∧ rejects .w16 [0x0F, 0xFF] .unknownOpcode = true := by decide +kernel

/-! ### Ill-formed terms, one for each check of WellFormed -/

theorem test_wf_address_size : Instr.wf ⟨.w16, .w16⟩ (.movRvRmv .eax (.mem (.a32 none none 0))) = false := by decide +kernel
theorem test_wf_address_size32 : Instr.wf ⟨.w32, .w32⟩ (.lea .eax (.a16 none 0)) = false := by decide +kernel
theorem test_wf_esp_index : Instr.wf ⟨.w32, .w32⟩ (.movRvRmv .eax (.mem (.a32 none (some (.esp, .x1)) 0))) = false := by decide +kernel
theorem test_wf_immediate : Instr.wf ⟨.w16, .w16⟩ (.addEaxImmv 0x10000) = false := by decide +kernel
theorem test_wf_full_immediate : Instr.wf ⟨.w16, .w16⟩ (.addRmvImm (.reg .eax) (.full 0x10000)) = false := by decide +kernel
theorem test_wf_relative : Instr.wf ⟨.w16, .w16⟩ (.jmpRelv 0x8000) = false := by decide +kernel
theorem test_wf_offset : Instr.wf ⟨.w32, .w16⟩ (.movEaxMoffs 0x10000) = false := by decide +kernel
theorem test_wf_far_offset : Instr.wf ⟨.w16, .w16⟩ (.jmpFarPtr 0x10000 0) = false := by decide +kernel
theorem test_wf_mov_to_cs : Instr.wf ⟨.w16, .w16⟩ (.movSregRm16 .cs (.reg .eax)) = false := by decide +kernel
theorem test_wf_xchg_eax : Instr.wf ⟨.w16, .w16⟩ (.xchgEaxRv .eax) = false := by decide +kernel

/-! ### Memory and addresses (vectors M1 to M12) -/

/-- M1: no wrap at one megabyte. -/
theorem test_M1 :
    saw [0x8A, 0x07] { withMem (with4 real 0 0xFFFF 0 0) [(0x10FFEF, [0x5A])] with seg := { real.seg with ds := seg86 0xFFFF } }
      (fun t => w t .eax) = some 0x5A := by decide +kernel

/-- M2: the low byte lies lower. -/
theorem test_M2 :
    saw [0xA3, 0x10, 0x00] { with4 real 0x5678 0 0 0 with seg := { real.seg with ds := seg86 0x1234 } }
      (fun t => (Memory.read t.mem 0x12350, Memory.read t.mem 0x12351)) = some (0x78, 0x56) := by decide +kernel

/-- M3: the last byte past the limit takes interrupt 13 with the IP of the instruction. -/
theorem test_M3 :
    saw [0x8B, 0x07] (withMem (with4 real 0x1111 0xFFFF 0 0) [(0x34, [0, 4, 0, 0x70])])
      (fun t => (t.eip, t.seg.cs.sel, word t 0x200FA, w t .eax)) = some (0x400, 0x7000, 0x100, 0x1111) := by decide +kernel

/-- M4: through SS it is interrupt 12. -/
theorem test_M4 :
    saw [0x8B, 0x46, 0x00] (withMem { real with gpr := { real.gpr with ebp := 0xFFFF } } [(0x30, [0, 5, 0, 0x70])])
      (fun t => t.eip) = some 0x500 := by decide +kernel

/-- M7: a null data segment in protected mode raises #GP(0). -/
theorem test_M7 :
    saw [0xA0, 0x00, 0x00] { prot false with seg := { (prot false).seg with ds := { seg386 0 0 0 3 false with valid := false } } }
      (fun t => (t.eip, word t 0x20FF8, word t 0x20FFA)) = some (0x200, 0, 0x300) := by decide +kernel

/-- M10: a read-only segment refuses a write. -/
theorem test_M10 :
    saw [0x88, 0x07] { prot false with seg := { (prot false).seg with ds := seg386 0x10 0x20000 0 0 false } }
      (fun t => (t.eip, Memory.read t.mem 0x20000)) = some (0x200, 0) := by decide +kernel

/-- M12: V86 addresses. -/
theorem test_M12 :
    saw [0x8A, 0x04] { withMem (v86 3) [(0x30010, [0x77])] with gpr := { (v86 3).gpr with esi := 0x10 } }
      (fun t => w t .eax) = some 0x77 := by decide +kernel

/-- E4: a segment prefix replaces DS. -/
theorem test_E4 : saw [0x26, 0x8A, 0x07] (withMem real [(0x40000, [0x21])]) (fun t => w t .eax) = some 0x21 := by decide +kernel

/-- E15: fifteen bytes execute, sixteen take interrupt 13. -/
theorem test_E15 :
    saw (List.replicate 14 0x66 ++ [0x90]) real (fun t => t.eip) = some 0x10F ∧
    saw (List.replicate 15 0x66 ++ [0x90]) (withMem real [(0x34, [0, 4, 0, 0x70])]) (fun t => t.eip) = some 0x400 := by decide +kernel

/-- E20: a misplaced REP or LOCK is interrupt 6. -/
theorem test_E20 :
    saw [0xF3, 0x90] (withMem real [(0x18, [0, 6, 0, 0x70])]) (fun t => t.eip) = some 0x600 ∧
    saw [0xF0, 0x90] (withMem real [(0x18, [0, 6, 0, 0x70])]) (fun t => t.eip) = some 0x600 := by decide +kernel

/-- E22: SLDT outside protected mode is interrupt 6. -/
theorem test_E22 : saw [0x0F, 0x00, 0xC0] (withMem real [(0x18, [0, 6, 0, 0x70])]) (fun t => t.eip) = some 0x600 := by decide +kernel

/-- E23: ESC with EM set is interrupt 7; else it is refused. -/
theorem test_E23 :
    saw [0xD8, 0xC0] { withMem real [(0x1C, [0, 7, 0, 0x70])] with cr0 := 4 } (fun t => t.eip) = some 0x700 ∧
    after [0xD8, 0xC0] real = none := by decide +kernel

/-! ### Arithmetic and logic (vectors A1 to A28) -/

theorem test_A1 :
    saw [0x05, 0x01, 0x00, 0x00, 0x80] (with4 wide 0x80000000 0 0 0) (fun t => (t.gpr.eax, oszapc t)) =
      some (1, bits [1, 0, 0, 0, 0, 1]) := by decide +kernel
theorem test_A2 :
    saw [0x83, 0xC0, 0xFF] (with4 real 1 0 0 0) (fun t => (w t .eax, oszapc t)) = some (0, bits [0, 0, 1, 1, 1, 1]) := by decide +kernel
theorem test_A3 :
    saw [0x83, 0xD2, 0x00] (withCf real true) (fun t => (w t .edx, oszapc t)) = some (1, bits [0, 0, 0, 0, 0, 0]) := by decide +kernel
theorem test_A4 :
    saw [0x83, 0xD0, 0x00] (withCf (with4 real 0x7FFF 0 0 0) true) (fun t => (w t .eax, oszapc t)) =
      some (0x8000, bits [1, 1, 0, 1, 1, 0]) := by decide +kernel
theorem test_A5 :
    saw [0x29, 0xD8] (with4 real 0x8000 1 0 0) (fun t => (w t .eax, oszapc t)) = some (0x7FFF, bits [1, 0, 0, 1, 1, 0]) := by decide +kernel
theorem test_A6 :
    saw [0x1C, 0xFF] (withCf real true) (fun t => (w t .eax, oszapc t)) = some (0, bits [0, 0, 1, 1, 1, 1]) := by decide +kernel
theorem test_A7 :
    saw [0x38, 0xD8] (with4 real 0x80 1 0 0) (fun t => (w t .eax, oszapc t, Cond.l.holds t.flags)) =
      some (0x80, bits [1, 0, 0, 1, 0, 0], true) := by decide +kernel
theorem test_A8 :
    saw [0x83, 0xF8, 0x02] (with4 real 1 0 0 0) (fun t => (w t .eax, oszapc t, Cond.l.holds t.flags, Cond.b.holds t.flags)) =
      some (1, bits [0, 1, 0, 1, 1, 1], true, true) := by decide +kernel
theorem test_A9 :
    saw [0xFE, 0xC0] (withCf (with4 real 0x7F 0 0 0) true) (fun t => (w t .eax, oszapc t)) =
      some (0x80, bits [1, 1, 0, 1, 0, 1]) := by decide +kernel
theorem test_A10 :
    saw [0x48] (with4 real 0x8000 0 0 0) (fun t => (w t .eax, oszapc t)) = some (0x7FFF, bits [1, 0, 0, 1, 1, 0]) := by decide +kernel
theorem test_A11 : saw [0x48] real (fun t => (w t .eax, oszapc t)) = some (0xFFFF, bits [0, 1, 0, 1, 1, 0]) := by decide +kernel
theorem test_A12 :
    saw [0xF6, 0xD8] (with4 real 0x80 0 0 0) (fun t => (w t .eax, oszapc t)) = some (0x80, bits [1, 1, 0, 0, 0, 1]) := by decide +kernel
theorem test_A13 : saw [0xF6, 0xD8] real (fun t => (w t .eax, oszapc t)) = some (0, bits [0, 0, 1, 0, 1, 0]) := by decide +kernel
theorem test_A14 :
    saw [0x25, 0x00, 0xFF] (with4 real 0x1234 0 0 0) (fun t => (w t .eax, oszpc t)) = some (0x1200, bits [0, 0, 0, 1, 0]) := by decide +kernel
theorem test_A15 :
    saw [0x83, 0xC8, 0x80] (with4 real 1 0 0 0) (fun t => (w t .eax, oszpc t)) = some (0xFF81, bits [0, 1, 0, 1, 0]) := by decide +kernel
theorem test_A16 :
    saw [0x34, 0xFF] (with4 real 0x0F 0 0 0) (fun t => (w t .eax, oszpc t)) = some (0xF0, bits [0, 1, 0, 1, 0]) := by decide +kernel
theorem test_A17 : saw [0x85, 0xC0] real (fun t => (w t .eax, oszpc t)) = some (0, bits [0, 0, 1, 1, 0]) := by decide +kernel
theorem test_A18 :
    saw [0xF7, 0xD0] (withCf wide true) (fun t => (t.gpr.eax, oszapc t)) = some (0xFFFFFFFF, bits [0, 0, 0, 0, 0, 1]) := by decide +kernel
theorem test_A19 : saw [0x98] (with4 real 0xAAAA017F 0 0 0) (fun t => t.gpr.eax) = some 0xAAAA007F := by decide +kernel
theorem test_A20 : saw [0x99] (with4 wide 0x80000000 0 0 0) (fun t => t.gpr.edx) = some 0xFFFFFFFF := by decide +kernel
theorem test_A21 :
    saw [0x37] (with4 real 0x6E 0 0 0) (fun t => (w t .eax, t.flags.af, t.flags.cf)) = some (0x104, true, true) := by decide +kernel
theorem test_A22 :
    saw [0x37] (with4 real 0x35 0 0 0) (fun t => (w t .eax, t.flags.af, t.flags.cf)) = some (5, false, false) := by decide +kernel
theorem test_A23 :
    saw [0x3F] { with4 real 0x1FC 0 0 0 with flags := { Flags.reset with af := true } }
      (fun t => (w t .eax, t.flags.af, t.flags.cf)) = some (6, true, true) := by decide +kernel
theorem test_A24 :
    saw [0xD5, 0x0A] (with4 real 0x909 0 0 0) (fun t => (w t .eax, t.flags.sf, t.flags.zf, t.flags.pf)) =
      some (0x63, false, false, true) := by decide +kernel
theorem test_A25 :
    saw [0xD4, 0x0A] (with4 real 0x5500 0 0 0) (fun t => (w t .eax, t.flags.sf, t.flags.zf, t.flags.pf)) =
      some (0, false, true, true) := by decide +kernel
theorem test_A26 :
    saw [0x27] (with4 real 0x9A 0 0 0) (fun t => (w t .eax, oszapc t)) = some (0, bits [0, 0, 1, 1, 1, 1]) := by decide +kernel
theorem test_A27 : saw [0x2F] real (fun t => (w t .eax, oszapc t)) = some (0, bits [0, 0, 1, 0, 1, 0]) := by decide +kernel

/-! ### Multiplication, division, shifts and bits (vectors X1 to X12, H1 to H16, B1 to B10) -/

theorem test_X1 :
    saw [0xF7, 0xE3] (with4 real 0xFFFF 0xFFFF 0 0) (fun t => (w t .edx, w t .eax, t.flags.cf, t.flags.ofl)) =
      some (0xFFFE, 1, true, true) := by decide +kernel
theorem test_X2 :
    saw [0xF7, 0xE3] (with4 wide 0x10000 0x10000 0 7) (fun t => (t.gpr.edx, t.gpr.eax, t.flags.cf)) =
      some (1, 0, true) := by decide +kernel
theorem test_X3 :
    saw [0xF6, 0xEB] (with4 real 0x80 0xFF 0 0) (fun t => (w t .eax, t.flags.cf, t.flags.ofl)) = some (0x80, true, true) := by decide +kernel
theorem test_X4 :
    saw [0xF7, 0xEB] (with4 real 0xFFFF 1 0 0) (fun t => (w t .edx, w t .eax, t.flags.cf)) = some (0xFFFF, 0xFFFF, false) := by decide +kernel
theorem test_X5 :
    saw [0x69, 0xC3, 0xE8, 0x03, 0x00, 0x00] (with4 wide 0 0x64 0 0) (fun t => (t.gpr.eax, t.flags.cf)) =
      some (0x186A0, false) := by decide +kernel
theorem test_X6 :
    saw [0x0F, 0xAF, 0xC3] (with4 real 0x100 0x100 0 0) (fun t => (w t .eax, t.flags.cf, t.flags.ofl)) = some (0, true, true) := by decide +kernel
theorem test_X7 : saw [0xF7, 0xF3] (with4 real 0 2 0 1) (fun t => (w t .eax, w t .edx)) = some (0x8000, 0) := by decide +kernel
theorem test_X8 :
    saw [0xF7, 0xF3] (withMem (with4 real 0 2 0 2) [(0, [0, 3, 0, 0x70])]) (fun t => (t.eip, word t 0x200FA, w t .eax, w t .edx)) =
      some (0x300, 0x100, 0, 2) := by decide +kernel
theorem test_X10 : saw [0xF6, 0xFB] (with4 real 7 0xFE 0 0) (fun t => w t .eax) = some 0x1FD := by decide +kernel
theorem test_X11 :
    saw [0xF7, 0xFB] (with4 real 0x8000 1 0 0xFFFF) (fun t => (w t .eax, w t .edx, t.eip)) = some (0x8000, 0, 0x102) := by decide +kernel
theorem test_X12 :
    saw [0xF7, 0xFB] (withMem (with4 real 0x8000 1 0 0) [(0, [0, 3, 0, 0x70])]) (fun t => t.eip) = some 0x300 := by decide +kernel
theorem test_H1 :
    saw [0xD2, 0xE0] (with4 real 0x40 0 0x21 0) (fun t => (w t .eax, oszpc t)) = some (0x80, bits [1, 1, 0, 0, 0]) := by decide +kernel
theorem test_H2 :
    saw [0xC0, 0xE0, 0x09] (with4 real 0xFF 0 0 0) (fun t => (w t .eax, t.flags.cf, t.flags.zf, t.flags.pf)) =
      some (0, false, true, true) := by decide +kernel
theorem test_H3 : saw [0xC0, 0xE0, 0x08] (with4 real 1 0 0 0) (fun t => (w t .eax, t.flags.cf)) = some (0, true) := by decide +kernel
theorem test_H4 :
    saw [0xD3, 0xE8] (withCf (with4 real 0x1234 0 0 0) true) (fun t => (w t .eax, t.flags.cf, t.flags.zf, t.flags.af)) =
      some (0x1234, true, false, false) := by decide +kernel
theorem test_H5 :
    saw [0xC1, 0xE8, 0x1F] (with4 wide 0x80000000 0 0 0) (fun t => (t.gpr.eax, t.flags.cf, t.flags.pf)) =
      some (1, false, false) := by decide +kernel
theorem test_H6 :
    saw [0xD0, 0xE8] (with4 real 0x80 0 0 0) (fun t => (w t .eax, t.flags.cf, t.flags.ofl)) = some (0x40, false, true) := by decide +kernel
theorem test_H7 :
    saw [0xC1, 0xF8, 0x0F] (with4 real 0x8000 0 0 0) (fun t => (w t .eax, t.flags.cf, t.flags.sf, t.flags.pf)) =
      some (0xFFFF, false, true, true) := by decide +kernel
theorem test_H8 :
    saw [0xD0, 0xF8] (with4 real 0xFF 0 0 0) (fun t => (w t .eax, t.flags.cf, t.flags.ofl)) = some (0xFF, true, false) := by decide +kernel
theorem test_H9 :
    saw [0xC1, 0xC0, 0x10] (withCf (with4 real 0x1234 0 0 0) true) (fun t => (w t .eax, t.flags.cf, t.flags.zf, t.flags.pf)) =
      some (0x1234, false, false, false) := by decide +kernel
theorem test_H10 :
    saw [0xC0, 0xC0, 0x20] (withCf (with4 real 0x81 0 0 0) true) (fun t => (w t .eax, t.flags.cf)) = some (0x81, true) := by decide +kernel
theorem test_H11 :
    saw [0xC1, 0xC8, 0x08] (withCf (with4 wide 0x12345678 0 0 0) true) (fun t => (t.gpr.eax, t.flags.cf)) =
      some (0x78123456, false) := by decide +kernel
theorem test_H12 :
    saw [0xC0, 0xD0, 0x09] (withCf (with4 real 0xA5 0 0 0) true) (fun t => (w t .eax, t.flags.cf)) = some (0xA5, true) := by decide +kernel
theorem test_H13 :
    saw [0xD1, 0xD8] (withCf real true) (fun t => (w t .eax, t.flags.cf, t.flags.ofl)) = some (0x8000, false, true) := by decide +kernel
theorem test_H14 :
    saw [0x0F, 0xA4, 0xD8, 0x10] (with4 wide 0x12345678 0x9ABCDEF0 0 0)
      (fun t => (t.gpr.eax, t.gpr.ebx, t.flags.cf, t.flags.sf, t.flags.zf, t.flags.pf)) =
      some (0x56789ABC, 0x9ABCDEF0, false, false, false, false) := by decide +kernel
theorem test_H16 :
    saw [0x0F, 0xAD, 0xD8] (withCf (with4 real 0x1234 0xFFFF 0x20 0) true) (fun t => (w t .eax, oszapc t)) =
      some (0x1234, bits [0, 0, 0, 0, 0, 1]) := by decide +kernel
theorem test_B1 :
    saw [0x0F, 0xBA, 0xE0, 0x15] (with4 wide 0x200000 0 0 0) (fun t => (t.gpr.eax, oszapc t)) =
      some (0x200000, bits [0, 0, 0, 0, 0, 1]) := by decide +kernel
theorem test_B2 :
    saw [0x0F, 0xA3, 0x07] (withMem (with4 real 13 0x1000 0 0) [(0x31000, [0x00, 0x20])]) (fun t => t.flags.cf) = some true := by decide +kernel
theorem test_B3 :
    saw [0x0F, 0xA3, 0x07] (withMem (with4 real 0xFFF5 0x1000 0 0) [(0x30FFE, [0x20, 0x00])]) (fun t => t.flags.cf) = some true := by decide +kernel
theorem test_B4 :
    saw [0x0F, 0xAB, 0xC8] (with4 wide 0 0 0x25 0) (fun t => (t.gpr.eax, t.flags.cf)) = some (0x20, false) := by decide +kernel
theorem test_B5 :
    saw [0x0F, 0xBA, 0x3F, 0x1F] (withMem real [(0x30000, [0x00, 0x80])]) (fun t => (word t 0x30000, t.flags.cf)) =
      some (0, true) := by decide +kernel
theorem test_B6 :
    saw [0x0F, 0xBA, 0xF0, 0x10] (with4 real 0xFFFF 0 0 0) (fun t => (w t .eax, t.flags.cf)) = some (0xFFFE, true) := by decide +kernel
theorem test_B7 : saw [0x0F, 0xBC, 0xC3] wide (fun t => t.flags.zf) = some true := by decide +kernel
theorem test_B8 :
    saw [0x0F, 0xBD, 0xC3] (with4 real 0 0x8001 0 0) (fun t => (w t .eax, t.flags.zf)) = some (0xF, false) ∧
    saw [0x0F, 0xBC, 0xC3] (with4 real 7 0x8001 0 0) (fun t => (w t .eax, t.flags.zf)) = some (0, false) := by decide +kernel
theorem test_B9 :
    saw [0x0F, 0x9C, 0xC0] { real with flags := { Flags.reset with sf := true } } (fun t => w t .eax) = some 1 ∧
    saw [0x0F, 0x9F, 0xC0] { real with flags := { Flags.reset with sf := true } } (fun t => w t .eax) = some 0 := by decide +kernel
theorem test_B10 :
    saw [0x0F, 0x97, 0xC3] real (fun t => w t .ebx) = some 1 ∧
    saw [0x0F, 0x97, 0xC3] { real with flags := { Flags.reset with zf := true } } (fun t => w t .ebx) = some 0 := by decide +kernel

/-! ### Moves, the stack, flags and ports (vectors D1 to D10, S1 to S10, F1 to F8, IO1 to IO6) -/

theorem test_D1 : saw [0xB8, 0x34, 0x12] (with4 real 0xAAAAAAAA 0 0 0) (fun t => t.gpr.eax) = some 0xAAAA1234 := by decide +kernel
theorem test_D2 : saw [0x0F, 0xBE, 0xC3] (with4 wide 0 0xF6 0 0) (fun t => t.gpr.eax) = some 0xFFFFFFF6 := by decide +kernel
theorem test_D3 : saw [0x0F, 0xB6, 0xC3] (with4 wide 0 0xF6 0 0) (fun t => t.gpr.eax) = some 0xF6 := by decide +kernel
theorem test_D4 : saw [0xB4, 0x7F] (with4 real 0x11112222 0 0 0) (fun t => t.gpr.eax) = some 0x11117F22 := by decide +kernel
theorem test_D5 :
    saw [0x8E, 0xD0] (with4 real 0x2000 0 0 0) (fun t => (t.seg.ss.sel, t.seg.ss.base, t.inhibit)) =
      some (0x2000, 0x20000, .all) := by decide +kernel
theorem test_D7 : saw [0xD7] (withMem (with4 real 0xFF 0x1000 0 0) [(0x310FF, [0x5A])]) (fun t => w t .eax) = some 0x5A := by decide +kernel
theorem test_D8 :
    saw [0x67, 0x8D, 0x04, 0x8B] (with4 real 0 0x12345 1 0) (fun t => t.gpr.eax) = some 0x2349 := by decide +kernel
theorem test_D9 :
    saw [0x66, 0x8D, 0x00] { with4 real 7 0xF000 0 0 with gpr := { real.gpr with ebx := 0xF000, esi := 0x2000 } }
      (fun t => t.gpr.eax) = some 0x1000 := by decide +kernel
theorem test_D10 :
    saw [0x66, 0xC4, 0x1E, 0x00, 0x02] (withMem real [(0x30200, [0x78, 0x56, 0x34, 0x12, 0x00, 0x30])])
      (fun t => (t.gpr.ebx, t.seg.es.sel, t.seg.es.base)) = some (0x12345678, 0x3000, 0x30000) := by decide +kernel
theorem test_S1 : saw [0x54] real (fun t => (word t 0x200FE, w t .esp)) = some (0x100, 0xFE) := by decide +kernel
theorem test_S2 :
    saw [0x50] { with4 real 0x1234 0 0 0 with gpr := { real.gpr with eax := 0x1234, esp := 0xBBBB0000 } }
      (fun t => (word t 0x2FFFE, t.gpr.esp)) = some (0x1234, 0xBBBBFFFE) := by decide +kernel
theorem test_S3 : saw [0x50] { real with gpr := { real.gpr with esp := 1 } } (fun t => t.run) = some .shutdown := by decide +kernel
theorem test_S4 :
    saw [0x1E] { wide with seg := { wide.seg with ds := seg386 0x23 0 0 3 false } }
      (fun t => t.gpr.esp) = some 0xFFC := by decide +kernel
theorem test_S5 :
    saw [0x60] { real with gpr := { eax := 1, ecx := 2, edx := 3, ebx := 4, esp := 0x100, ebp := 5, esi := 6, edi := 7 } }
      (fun t => ([0x200FE, 0x200FC, 0x200FA, 0x200F8, 0x200F6, 0x200F4, 0x200F2, 0x200F0].map (word t), w t .esp)) =
      some ([1, 2, 3, 4, 0x100, 5, 6, 7], 0xF0) := by decide +kernel
theorem test_S6 :
    saw [0x61] { withMem real [(0x200F0, [7, 0, 6, 0, 5, 0, 0, 1, 4, 0, 3, 0, 2, 0, 1, 0])] with
        gpr := { real.gpr with esp := 0xF0 } }
      (fun t => t.gpr) = some { eax := 1, ecx := 2, edx := 3, ebx := 4, esp := 0x100, ebp := 5, esi := 6, edi := 7 } := by decide +kernel
theorem test_S7 :
    saw [0xC8, 0x04, 0x00, 0x02] { withMem real [(0x201FE, [0xAA, 0xAA])] with gpr := { real.gpr with ebp := 0x200 } }
      (fun t => (word t 0x200FE, word t 0x200FC, word t 0x200FA, w t .ebp, w t .esp)) =
      some (0x200, 0xAAAA, 0xFE, 0xFE, 0xF6) := by decide +kernel
theorem test_S8 :
    saw [0xC9] { withMem real [(0x200FE, [0x00, 0x02])] with gpr := { real.gpr with ebp := 0xFE, esp := 0xF6 } }
      (fun t => (w t .ebp, w t .esp)) = some (0x200, 0x100) := by decide +kernel
theorem test_S9 :
    saw [0x8F, 0x06, 0x00, 0x03] { withMem real [(0x200FE, [0x21, 0x43])] with gpr := { real.gpr with esp := 0xFE } }
      (fun t => (word t 0x30300, w t .esp)) = some (0x4321, 0x100) := by decide +kernel
theorem test_S10 :
    saw [0x5C] { withMem real [(0x200FE, [0x00, 0x02])] with gpr := { real.gpr with esp := 0xFE } } (fun t => w t .esp) =
      some 0x200 := by decide +kernel
theorem test_F1 : saw [0x9C] { real with flags := Flags.ofImage 0xAD7 } (fun t => word t 0x200FE) = some 0xAD7 := by decide +kernel
theorem test_F2 :
    saw [0x9D] (withMem (prot false) [(0x21000, [0x02, 0x32])]) (fun t => (t.flags.iopl, t.flags.ifl)) = some (3, true) ∧
    saw [0x9D] (withMem (user false) [(0x21000, [0x02, 0x32])]) (fun t => (t.flags.iopl, t.flags.ifl, t.eip)) =
      some (0, false, 0x301) := by decide +kernel
theorem test_F3 : saw [0xF5] real (fun t => t.flags.cf) = some true := by decide +kernel
theorem test_F4 : saw [0x9F] real (fun t => w t .eax) = some 0x200 := by decide +kernel
theorem test_F5 :
    saw [0x9E] { with4 real 0xFF00 0 0 0 with flags := { Flags.reset with ofl := true, df := true } }
      (fun t => (oszapc t, t.flags.df)) = some (bits [1, 1, 1, 1, 1, 1], true) := by decide +kernel
theorem test_F6 :
    saw [0xFA] { v86 3 with flags := { (v86 3).flags with ifl := true } } (fun t => (t.flags.ifl, t.eip)) = some (false, 0x301) := by decide +kernel
theorem test_F7 :
    saw [0xFA] { user false with flags := { Flags.reset with ifl := true }, idtr := { base := 0x3000, limit := 0 } }
      (fun t => t.run) = some .shutdown := by decide +kernel
theorem test_IO2 :
    saw [0xE6, 0x80] (with4 { prot false with mem := [] } 0x5A 0 0 0) (fun t => t.ioWrites) = some [⟨0x80, .byte, 0x5A⟩] := by decide +kernel
theorem test_IO3 : raised (checkIo 0x60 .byte) (v86 3) = some (Exc.gp 0) := by decide +kernel
theorem test_IO4 : raised (checkIo 0x3F8 .word) (v86 3) = none := by decide +kernel

/-! ### Strings (vectors T1 to T8) -/

theorem test_T1 :
    saw [0x66, 0xA5] { withMem real [(0x30103, [0x11, 0x22, 0x33, 0x44])] with
        gpr := { real.gpr with esi := 0x103, edi := 0x203 }, flags := { Flags.reset with df := true } }
      (fun t => (word t 0x40203, word t 0x40205, w t .esi, w t .edi)) = some (0x2211, 0x4433, 0xFF, 0x1FF) := by decide +kernel
theorem test_T2 :
    saw [0x26, 0xA4] (withMem real [(0x40000, [0x66])]) (fun t => (Memory.read t.mem 0x40000, w t .esi, w t .edi)) =
      some (0x66, 1, 1) := by decide +kernel
theorem test_T3 :
    saw [0xA6] (withMem real [(0x30000, [0x43]), (0x40000, [0x44])]) (fun t => (oszapc t, w t .esi, w t .edi)) =
      some (bits [0, 1, 0, 1, 1, 1], 1, 1) := by decide +kernel
theorem test_T4 :
    saw [0xF2, 0xAE] { withMem real [(0x40200, [0x48])] with gpr := { real.gpr with ecx := 0xFFFF, edi := 0x200 } }
      (fun t => (w t .ecx, w t .edi, t.flags.zf, t.eip)) = some (0xFFFE, 0x201, false, 0x100) := by decide +kernel
theorem test_T5 : saw [0xF3, 0xA6] real (fun t => (w t .ecx, w t .edi, t.flags.zf, t.eip)) = some (0, 0, false, 0x102) := by decide +kernel
theorem test_T6 :
    saw [0xF3, 0xA7] { withMem real [(0x30104, [2, 0]), (0x40204, [3, 0])] with
        gpr := { real.gpr with ecx := 1, esi := 0x104, edi := 0x204 } }
      (fun t => (w t .ecx, w t .esi, w t .edi, t.flags.zf, t.flags.cf, t.eip)) =
      some (0, 0x106, 0x206, false, true, 0x102) := by decide +kernel
theorem test_T7 :
    saw [0xF3, 0xAB] { with4 real 0x2020 0 4 0 with gpr := { real.gpr with eax := 0x2020, ecx := 4, edi := 0x400 } }
      (fun t => (word t 0x40400, w t .edi, w t .ecx, t.eip)) = some (0x2020, 0x402, 3, 0x100) := by decide +kernel
theorem test_T8 :
    saw [0x67, 0xF3, 0xA4] { real with gpr := { real.gpr with ecx := 0x10001, esi := 0x100, edi := 0xFFFF } }
      (fun t => (t.gpr.ecx, t.gpr.esi, t.gpr.edi)) = some (0x10000, 0x101, 0x10000) := by decide +kernel
theorem test_lods : saw [0xAC] (withMem real [(0x30000, [0x3C])]) (fun t => (w t .eax, w t .esi)) = some (0x3C, 1) := by decide +kernel
theorem test_outs :
    saw [0x6E] { withMem real [(0x30000, [0x3C])] with gpr := { real.gpr with edx := 0x3F8 } } (fun t => t.ioWrites) =
      some [⟨0x3F8, .byte, 0x3C⟩] := by decide +kernel

/-! ### Control transfer (vectors C1 to C13) -/

theorem test_C1 :
    saw [0x7C, 0xFA] { real with eip := 0x200, flags := { Flags.reset with sf := true } } (fun t => t.eip) = some 0x1FC := by decide +kernel
theorem test_C2 :
    saw [0x77, 0x02] { real with eip := 0x200 } (fun t => t.eip) = some 0x204 ∧
    saw [0x77, 0x02] { real with eip := 0x200, flags := { Flags.reset with zf := true } } (fun t => t.eip) = some 0x202 := by decide +kernel
theorem test_C3 : saw [0xE9, 0x20, 0x00] { real with eip := 0xFFF0 } (fun t => t.eip) = some 0x13 := by decide +kernel
theorem test_C4 : saw [0xE2, 0xFE] real (fun t => (w t .ecx, t.eip)) = some (0xFFFF, 0x100) := by decide +kernel
theorem test_C5 :
    saw [0xE1, 0xFE] { with4 real 0 0 1 0 with flags := { Flags.reset with zf := true } } (fun t => (w t .ecx, t.eip)) =
      some (0, 0x102) := by decide +kernel
theorem test_C6 :
    saw [0xE3, 0x05] (with4 real 0 0 0x10000 0) (fun t => t.eip) = some 0x107 ∧
    saw [0x67, 0xE3, 0x05] (with4 real 0 0 0x10000 0) (fun t => t.eip) = some 0x103 := by decide +kernel
theorem test_C7 :
    saw [0xE8, 0xFD, 0xFF] { real with gpr := { real.gpr with esp := 0x200 } } (fun t => (word t 0x201FE, t.eip, w t .esp)) =
      some (0x103, 0x100, 0x1FE) := by decide +kernel
theorem test_C8 :
    saw [0xCA, 0x02, 0x00] { withMem real [(0x201FC, [0x05, 0x01, 0x00, 0x10])] with gpr := { real.gpr with esp := 0x1FC } }
      (fun t => (t.eip, t.seg.cs.sel, t.seg.cs.base, w t .esp)) = some (0x105, 0x1000, 0x10000, 0x202) := by decide +kernel
theorem test_C9 :
    saw [0xFF, 0x2E, 0x00, 0x03] (withMem real [(0x30300, [0x00, 0x10, 0x00, 0xF0])])
      (fun t => (t.eip, t.seg.cs.sel, t.seg.cs.base)) = some (0x1000, 0xF000, 0xF0000) := by decide +kernel
theorem test_C11 :
    saw [0xEA, 0x00, 0x04, 0x38, 0x00] (user false) (fun t => (t.eip, t.seg.cs.sel, t.cpl)) = some (0x400, 0x3B, 3) := by decide +kernel
theorem test_ret : saw [0xC3] (withMem real [(0x20100, [0x34, 0x12])]) (fun t => (t.eip, w t .esp)) = some (0x1234, 0x102) := by decide +kernel

/-! ### Interrupts and IRET (vectors I1 to I15, X13 to X18) -/

theorem test_I1 :
    saw [0xCE] { withMem real [(0x10, [0x00, 0x04, 0x00, 0x00])] with flags := Flags.ofImage 0xA02, gpr := { real.gpr with esp := 0x200 } }
      (fun t => (word t 0x201FE, word t 0x201FC, word t 0x201FA, t.flags.image, t.seg.cs.sel, t.eip)) =
      some (0xA02, 0x1000, 0x101, 0x802, 0, 0x400) := by decide +kernel
theorem test_I2 : saw [0xCD, 0x21] { real with idtr := { base := 0, limit := 0x1F } } (fun t => t.run) = some .shutdown := by decide +kernel
theorem test_I3 :
    saw [0xCD, 0x21] { withMem real [(0x20, [0x00, 0x08, 0x00, 0x70])] with idtr := { base := 0, limit := 0x23 } }
      (fun t => (t.eip, t.run)) = some (0x800, .running) := by decide +kernel
theorem test_I4 :
    saw [0x62, 0x07] (withMem (with4 real 0xFFFF 0 0 0) [(0x30000, [0, 0, 9, 0]), (0x14, [0x00, 0x05, 0x00, 0x70])])
      (fun t => (t.eip, word t 0x200FA)) = some (0x500, 0x100) := by decide +kernel
theorem test_I6 :
    raised (deliverOnce 13 .software none 0) (user false) = some (Exc.gp 0x6A) := by decide +kernel
theorem test_I9 :
    saw [0xCC] { prot true with flags := { Flags.reset with ifl := true } }
      (fun t => (t.gpr.esp, t.eip, t.flags.ifl, word t 0x20FF4, word t 0x20FF8)) = some (0xFF4, 0x200, true, 0x301, 8) := by decide +kernel
theorem test_I10 :
    saw [0xCC] { user true with gpr := { (user true).gpr with esp := 0x800 } }
      (fun t => (t.cpl, t.seg.ss.sel, word t 0x20FFC, word t 0x20FF8, word t 0x20FF0, t.eip)) =
      some (0, 0x10, 0x33, 0x800, 0x2B, 0x200) := by decide +kernel
theorem test_I11 :
    saw [0xCC] (v86 0) (fun t => (t.flags.vm, t.seg.ds.sel, t.cpl, word t 0x20FFC, word t 0x20FEC, word t 0x20FDC)) =
      some (false, 0, 0, 0x6000, 0x2000, 0x301) := by decide +kernel
theorem test_I13 :
    saw [0xCF] { withMem real [(0x201FA, [0x02, 0x01, 0x00, 0x10, 0x02, 0x02])] with gpr := { real.gpr with esp := 0x1FA } }
      (fun t => (t.eip, t.seg.cs.sel, t.flags.image, w t .esp)) = some (0x102, 0x1000, 0x202, 0x200) := by decide +kernel
theorem test_I14 :
    saw [0xCF] (withMem (prot true) [(0x21000, [0x34, 0x12, 0, 0, 0, 0x10, 0, 0, 0x02, 0, 0x02, 0]), (0x2100C, [0, 2, 0, 0, 0, 0x20])])
      (fun t => (t.flags.vm, t.cpl, t.eip, t.seg.cs.base, t.gpr.esp, t.seg.ss.sel)) =
      some (true, 3, 0x1234, 0x10000, 0x200, 0x2000) := by decide +kernel
theorem test_I15 :
    saw [0xCF] { withMem (user false) [(0x21000, [0x00, 0x04, 0x2B, 0x00, 0x02, 0x30])] with
        flags := { Flags.reset with ifl := true } }
      (fun t => (t.eip, t.flags.ifl, t.flags.iopl)) = some (0x400, true, 0) := by decide +kernel
theorem test_X13 :
    ((after [0x90] { real with flags := Flags.ofImage 0x302 }).bind fun t =>
      match step (withMem t [(4, [0x00, 0x04, 0x00, 0x70])]) with
      | .next u => some (word u 0x200FE, word u 0x200FA, u.flags.tf, u.flags.ifl)
      | _ => none) = some (0x302, 0x101, false, false) := by decide +kernel
theorem test_X18 :
    saw [0x9B] { withMem real [(0x1C, [0, 7, 0, 0x70])] with cr0 := 0xA } (fun t => (t.eip, word t 0x200FA)) =
      some (0x700, 0x100) := by decide +kernel

/-! ### Protection instructions and reset (vectors Y1 to Y14, Z1, Z2) -/

theorem test_Y1 :
    saw [0x63, 0xD8] { with4 (prot false) 0x13 8 0 0 with flags := { Flags.reset with zf := true } }
      (fun t => (w t .eax, t.flags.zf)) = some (0x13, false) := by decide +kernel
theorem test_Y2 :
    saw [0x0F, 0x02, 0xC3] (with4 (prot true) 0 0x10 0 0) (fun t => t.flags.zf) = some true := by decide +kernel
theorem test_Y3 :
    saw [0x0F, 0x03, 0xC3] (with4 (prot true) 0 0x10 0 0) (fun t => (t.gpr.eax, t.flags.zf)) = some (0xFFFF, true) := by decide +kernel
theorem test_Y4 :
    saw [0x0F, 0x03, 0xC3] (withMem (with4 (prot true) 0 0x10 0 0) [(0x2110, [0x10, 0, 0, 0, 2, 0x93, 0x80, 0])]) (fun t => t.gpr.eax) =
      some 0x10FFF := by decide +kernel
theorem test_Y5 :
    saw [0x0F, 0x02, 0xC3] { with4 (prot true) 7 0 0 0 with flags := { Flags.reset with zf := true } }
      (fun t => (t.gpr.eax, t.flags.zf)) = some (7, false) := by decide +kernel
theorem test_Y6 :
    saw [0x0F, 0x00, 0xE3] { with4 (user false) 0 0x13 0 0 with flags := { Flags.reset with zf := true } } (fun t => t.flags.zf) =
      some false := by decide +kernel
theorem test_Y7 : saw [0x0F, 0x00, 0xE3] (with4 (user false) 0 0x3B 0 0) (fun t => t.flags.zf) = some true := by decide +kernel
theorem test_Y8 : saw [0x0F, 0x00, 0xEB] (with4 (prot false) 0 8 0 0) (fun t => t.flags.zf) = some false := by decide +kernel
theorem test_Y9 :
    saw [0x0F, 0x01, 0x06, 0x00, 0x02] (user false) (fun t => (word t 0x20200, word t 0x20202)) = some (0x57, 0x2100) := by decide +kernel
theorem test_ltr :
    saw [0x0F, 0x00, 0xD8] (with4 (prot false) 0x20 0 0 0) (fun t => (t.tr.base, t.tr.is386, Memory.read t.mem 0x2125)) =
      some (0x2300, true, 0x8B) := by decide +kernel
theorem test_lldt :
    saw [0x0F, 0x00, 0xD0] (with4 (prot false) 0x18 0 0 0) (fun t => t.ldtr) =
      some { sel := 0x18, base := 0x2200, limit := 0x0F, valid := true } := by decide +kernel
theorem test_Y12 : saw [0x0F, 0x01, 0xF0] { prot false with cr0 := 0x1F } (fun t => t.cr0) = some 0x11 := by decide +kernel
theorem test_Y13 : saw [0x0F, 0x06] { prot false with cr0 := 9 } (fun t => t.cr0) = some 1 := by decide +kernel
theorem test_Y14 : saw [0x0F, 0x22, 0xC0] (with4 real 0x60000010 0 0 0) (fun t => t.cr0) = some 0x60000010 := by decide +kernel
theorem test_Z1 :
    (match step { prot true with inputs := [{ Pins.idle with reset := true }] } with
      | .next t => some (t.cr0, t.idtr.limit, t.eip, t.seg.cs.base, t.flags.image)
      | _ => none) = some (0, 0x3FF, 0xFFF0, 0xFFFF0000, 2) := by decide +kernel
theorem test_Z2 :
    saw [0xEA, 0x00, 0x00, 0x00, 0xF0] State.reset (fun t => (t.seg.cs.base, t.eip)) = some (0xF0000, 0) := by decide +kernel
theorem test_Z4 :
    (match step { withMem real [(0x20, [0, 8, 0, 0x70])] with
        run := .halted, eip := 0x101, flags := { Flags.reset with ifl := true }, inputs := [{ Pins.idle with intr := some 8 }] } with
      | .next t => some (t.eip, word t 0x200FA, t.run)
      | _ => none) = some (0x800, 0x101, .running) := by decide +kernel
/-- A jump through a TSS descriptor switches tasks: the registers of the new TSS are loaded and TS is set. -/
theorem test_task_switch :
    saw [0xEA, 0x00, 0x00, 0x20, 0x00]
      { withMem (prot false) [(0x2320, [0x78, 0x56, 0, 0, 2, 0, 0, 0, 0x11]), (0x2348, [0x10, 0, 0, 0, 0x08, 0, 0, 0, 0x10])] with
        tr := { sel := 0x40, base := 0x2400, limit := 0x67, is386 := true } }
      (fun t => ((t.eip, t.gpr.eax, t.cr0), (t.seg.cs.sel, t.tr.sel), Memory.read t.mem 0x2125, Memory.read t.mem 0x2145)) =
      some ((0x5678, 0x11, 9), (0x08, 0x20), 0x8B, 0x89) := by decide +kernel
/-- R436, C16: in V86 mode with IOPL 3, IRET with NT 1 pops IP, CS and FLAGS as in real-address mode and stays in its task. -/
theorem test_iret_v86_nt :
    saw [0xCF] (withMem { v86 3 with flags := { (v86 3).flags with nt := true } } [(0x21000, [0x34, 0x12, 0x00, 0x40, 0x02, 0x30])])
      (fun t => ((t.tr.sel, t.seg.cs.base, t.eip), (t.flags.vm, t.flags.nt, t.cpl), w t .esp)) =
      some ((0x20, 0x40000, 0x1234), (true, false, 3), 0x1006) := by decide +kernel
/-- R411, D5: a CALL to an inner level whose new stack overlaps the old one reads its parameter after it has pushed old ESP there. -/
theorem test_call_gate_overlap :
    saw [0x9A, 0, 0, 0, 0, 0x4B, 0]
      (withMem { user true with gpr := { real.gpr with esp := 0xFF8 } } [(0x2148, [0, 2, 8, 0, 1, 0xEC, 0, 0]), (0x20FF8, [0xAA])])
      (fun t => (word t 0x20FF4, t.gpr.esp, t.cpl)) = some (0xFF8, 0xFEC, 0) := by decide +kernel
/-- R100, R106: with B = 0 a far RET reads its frame at offsets cut to 16 bits, also in a segment with a limit above 0FFFFH. -/
theorem test_return_frame_wraps :
    saw [0xCB]
      (withMem { prot false with gpr := { real.gpr with esp := 0xFFFE },
                                 seg := { (prot false).seg with ss := { (prot false).seg.ss with limit := 0x1FFFF } } }
        [(0x2FFFE, [0x00, 0x04]), (0x20000, [0x08, 0x00])])
      (fun t => (t.eip, t.seg.cs.sel, w t .esp)) = some (0x400, 0x08, 2) := by decide +kernel
/-- An undefined digit is rejected after the immediate that its opcode's entry has (R171, R186). -/
theorem test_undefined_digit_immediate :
    decode .w16 [0xC0, 0xF0] = .more ∧ rejects .w16 [0xC0, 0xF0, 0] .unassignedDigit = true ∧
    decode .w16 [0x0F, 0xBA, 0xC0] = .more ∧ rejects .w16 [0x0F, 0xBA, 0xC0, 0] .unassignedDigit = true := by decide +kernel
/-- A fault whose deliveries all fail leaves EIP at the first byte of the instruction (R24). -/
theorem test_shutdown_eip :
    saw [0x26, 0x0F, 0x0B] { real with idtr := { base := 0, limit := 0 } } (fun t => (t.run, t.eip)) = some (.shutdown, 0x100) := by
  decide +kernel
/-- A stale read-only DS makes a store raise interrupt 13, and a stale execute-only ES a load (R573); a store through a CS that
holds code is made (R101). -/
theorem test_stale_attributes :
    saw [0xA2, 0, 0] (withMem { real with seg := { real.seg with ds := { real.seg.ds with type := 1 } } } [(0x34, [0, 5, 0, 0])])
      (fun t => t.eip) = some 0x500 ∧
    saw [0x26, 0xA0, 0, 0] (withMem { real with seg := { real.seg with es := { real.seg.es with type := 9 } } } [(0x34, [0, 5, 0, 0])])
      (fun t => t.eip) = some 0x500 ∧
    saw [0x2E, 0xA2, 0, 0] { with4 real 0x5A 0 0 0 with seg := { real.seg with cs := { real.seg.cs with type := 0xB } } }
      (fun t => (t.eip, Memory.read t.mem 0x10000)) = some (0x104, 0x5A) := by decide +kernel
/-- An entry from V86 mode loads all 32 bits of ESP although the new stack has B = 0 (R441). -/
theorem test_v86_entry_esp :
    saw [0xCC] { v86 3 with gpr := { real.gpr with esp := 0xABCD0100 } } (fun t => (t.gpr.esp, t.eip, t.seg.gs.sel, t.cpl)) =
      some (0xFDC, 0x200, 0, 0) := by decide +kernel
/-- The fault code of a write at CPL 3 to a page that is present, and of a supervisor read of one that is not (R501). -/
theorem test_page_fault_code : pageFaultCode true .write true 0 = 7 ∧ pageFaultCode false .read false 0 = 0 := by decide +kernel
/-- A word placed where the next instruction is fetched runs there. -/
theorem test_withFetchWord :
    (match step (State.reset.withFetchWord 8 0xF9) with
      | .next t => some (t.flags.cf, t.eip)
      | _ => none) = some (true, 0xFFF1) := by decide +kernel

/-! ### Witnesses: states and operands that meet the hypotheses of each obligation -/

/-- An outcome that is a next state is one for some state. -/
theorem exists_next {o : Host.Outcome State Fault Refusal}
    (h : (match o with | .next _ => true | .fault _ => false | .refused _ => false) = true) : ∃ t, o = .next t := by
  cases o with
  | next t => exact ⟨t, rfl⟩
  | fault r => exact nomatch h
  | refused r => exact nomatch h

/-- An operation that completes does so in some state. -/
theorem exists_ok {x : Op Unit} {s : State} (h : raised x s = none) : ∃ u, x s = .ok () u := by
  revert h
  unfold raised
  cases x s <;> simp

/-- An operation that raises an exception does so in some state. -/
theorem exists_error {x : Op Unit} {s : State} {e : Exc} (h : raised x s = some e) : ∃ u, x s = .error e u := by
  revert h
  unfold raised
  cases x s <;> simp

/-- Whether values can be pushed one after another. -/
def pushable (w : Width) : List DWord → State → Bool
  | [], _ => true
  | v :: rest, s => decide (CanPush s w) && pushable w rest (s.pushed w v)

/-- Whether values can be popped one after another. -/
def poppable (w : Width) : Nat → State → Bool
  | 0, _ => true
  | n + 1, s => decide (CanPop s w) && poppable w n (s.popped w)

theorem canPopAll_of {w : Width} {n : Nat} {s : State} (h : poppable w n s = true) : CanPopAll w n s := by
  induction n generalizing s with
  | zero => trivial
  | succ n ih =>
    simp only [poppable, Bool.and_eq_true, decide_eq_true_eq] at h
    exact ⟨h.1, ih h.2⟩

theorem canPushAll_of {w : Width} {l : List DWord} {s : State} (h : pushable w l s = true) : CanPushAll w l s := by
  induction l generalizing s with
  | nil => trivial
  | cons v rest ih =>
    simp only [pushable, Bool.and_eq_true, decide_eq_true_eq] at h
    exact ⟨h.1, ih h.2⟩

/-- The other conditions of a real-mode vector, and room for its three words. -/
theorem realVector_of {s : State} {n : Nat} {ret off sel : DWord}
    (h : 4 * n + 3 ≤ s.idtr.limit.toNat ∧ peek s (s.idtr.base + BitVec.ofNat 32 (4 * n)) 2 = some off ∧
      peek s (s.idtr.base + BitVec.ofNat 32 (4 * n + 2)) 2 = some sel)
    (room : pushable .w16 [s.flags.image, s.selD .cs, ret] s = true) : RealVector s n ret off sel :=
  ⟨h.1, h.2.1, h.2.2, canPushAll_of room⟩

/-- A machine whose pins are about to be sampled as given. -/
def withPins (s : State) (p : Pins) : State := { s with inputs := [p] }

theorem witness_DecodeEncodeRoundTrip :
    (Instr.wf ⟨.w16, .w16⟩ (.addEaxImmv 0xFFFF) = true ∧ Instr.addEaxImmv 0xFFFF ∉ prefixInstrs) ∧
    (∀ p ∈ [Instr.operandSize, .rep], p ∈ prefixInstrs) ∧ Instr.movsv ∉ prefixInstrs ∧
    Instr.wf (attrsAfter .w16 [.operandSize, .rep]) .movsv = true := by decide +kernel

theorem witness_ResetLeavesStatedValues : (withPins (prot true) { Pins.idle with reset := true }).sample.pins.reset = true := by
  decide +kernel

theorem witness_StepKeepsInvariant : real.Inv ∧ ∃ t, step (real.placeAtFetch [0x50]) = .next t :=
  ⟨⟨by decide +kernel, by decide +kernel⟩, exists_next (by decide +kernel)⟩

theorem witness_StepRunsDecodedInstruction :
    let s := real.placeAtFetch [0xF3, 0xA4]
    let f := fetchBytes (atFetch s) maxLength (atFetch s).eip.toNat
    s.sample.pins.reset = false ∧ NothingDue s.sample ∧ s.sample.run = .running ∧
    decode (atFetch s).defaultSize f.1 = .ok ⟨[.rep], .movsb⟩ (f.1.drop 2) ∧
    (atFetch s).eip.toNat + (f.1.length - (f.1.drop 2).length) < 4294967296 := by decide +kernel

theorem witness_StepRunsDecodedInstruction_plain :
    let s := real.placeAtFetch [0xF9]
    let f := fetchBytes (atFetch s) maxLength (atFetch s).eip.toNat
    s.sample.pins.reset = false ∧ NothingDue s.sample ∧ s.sample.run = .running ∧
    decode (atFetch s).defaultSize f.1 = .ok ⟨[], .stc⟩ (f.1.drop 1) ∧
    (atFetch s).eip.toNat + (f.1.length - (f.1.drop 1).length) < 4294967296 := by decide +kernel

theorem witness_StepRaisesUndefinedOpcode :
    let s := real.placeAtFetch [0xD6]
    s.sample.pins.reset = false ∧ NothingDue s.sample ∧ s.sample.run = .running ∧
    decode (atFetch s).defaultSize (fetchBytes (atFetch s) maxLength (atFetch s).eip.toNat).1 = .undefined .unknownOpcode := by
  decide +kernel

theorem witness_StepRaisesUndefinedOpcode_more :
    let s := { real with eip := 0xFFFF }.placeAtFetch [0x81]
    s.sample.pins.reset = false ∧ NothingDue s.sample ∧ s.sample.run = .running ∧
    decode (atFetch s).defaultSize (fetchBytes (atFetch s) maxLength (atFetch s).eip.toNat).1 = .more := by decide +kernel

theorem witness_StepRaisesUndefinedOpcode_length :
    let s := real.placeAtFetch (List.replicate 15 0x66)
    s.sample.pins.reset = false ∧ NothingDue s.sample ∧ s.sample.run = .running ∧
    decode (atFetch s).defaultSize (fetchBytes (atFetch s) maxLength (atFetch s).eip.toNat).1 = .more ∧
    (fetchBytes (atFetch s) maxLength (atFetch s).eip.toNat).1.length = maxLength := by decide +kernel

/-- A byte past the CS limit: the fetch stops there, and the segment check is what stops it. -/
theorem witness_StepRaisesUndefinedOpcode_limit :
    let s := { real with eip := 0xFFFF }.placeAtFetch [0x81]
    let q := atFetch s
    let f := fetchBytes q maxLength q.eip.toNat
    s.sample.pins.reset = false ∧ NothingDue s.sample ∧ s.sample.run = .running ∧ f.1.length < maxLength ∧ f.1[0]? = some 0x81 ∧
    q.eip.toNat + f.1.length < 4294967296 ∧
    segFault q.mode .cs (q.sreg .cs) (BitVec.ofNat 32 (q.eip.toNat + f.1.length)) 1 .execute = some (Exc.gp 0) := by decide +kernel

/-- A 4G code segment, with an instruction that ends at its last byte and one that would run past it. -/
theorem witness_StepRaisesUndefinedOpcode_top :
    let top := { real with eip := 0xFFFFFFFF, seg := { real.seg with cs := { real.seg.cs with limit := 0xFFFFFFFF } } }
    (let s := top.placeAtFetch [0x90];
      let f := fetchBytes (atFetch s) maxLength (atFetch s).eip.toNat;
      s.sample.pins.reset = false ∧ NothingDue s.sample ∧ s.sample.run = .running ∧
      decode (atFetch s).defaultSize f.1 = .ok ⟨[], .nop⟩ [] ∧ 4294967296 ≤ (atFetch s).eip.toNat + (f.1.length - 0)) ∧
    (let s := top.placeAtFetch [0x81];
      let f := fetchBytes (atFetch s) maxLength (atFetch s).eip.toNat;
      s.sample.pins.reset = false ∧ NothingDue s.sample ∧ s.sample.run = .running ∧
      f.1.length < maxLength ∧ 4294967296 ≤ (atFetch s).eip.toNat + f.1.length) := by decide +kernel

theorem witness_BoundaryServesEventsInOrder_trap :
    let p := { real with trapDue := true }.sample
    p.pins.reset = false ∧ p.run ≠ .shutdown ∧ p.run.isWaiting = false ∧ p.trapDue = true ∧ p.inhibit ≠ .all := by decide +kernel

theorem witness_BoundaryServesEventsInOrder_nmi :
    let p := (withPins { real with run := .shutdown, trapDue := true } { Pins.idle with nmi := true }).sample
    p.pins.reset = false ∧ (p.trapDue = false ∨ p.run.isWaiting = true ∨ p.run = .shutdown) ∧ p.nmiPending = true ∧ p.nmiBlocked = false ∧
    p.inhibit ≠ .all := by decide +kernel

theorem witness_BoundaryServesEventsInOrder_intr :
    let p := (withPins { real with flags := { Flags.reset with ifl := true } } { Pins.idle with intr := some 0xFF }).sample
    p.pins.reset = false ∧ p.run ≠ .shutdown ∧ (p.trapDue = false ∨ p.run.isWaiting = true) ∧
    (p.nmiPending = false ∨ p.nmiBlocked = true) ∧ p.flags.ifl = true ∧ p.inhibit = .none ∧ p.pins.intr = some 0xFF := by decide +kernel

theorem witness_BoundaryServesEventsInOrder_reset : (withPins real { Pins.idle with reset := true }).sample.pins.reset = true := by
  decide +kernel

/-- Halted with INTR present and IF 0; shut down with INTR present and IF 1; running with INTR under a shadow. -/
theorem witness_BoundaryServesEventsInOrder_halted :
    (let p := (withPins { real with run := .halted } { Pins.idle with intr := some 8 }).sample;
      p.pins.reset = false ∧ NothingDue p ∧ p.pins.intr = some 8 ∧ p.run = .halted) ∧
    (let p := (withPins { real with run := .shutdown, flags := { Flags.reset with ifl := true } } { Pins.idle with intr := some 8 }).sample;
      p.pins.reset = false ∧ NothingDue p ∧ p.pins.intr = some 8 ∧ p.run = .shutdown) ∧
    (let p := (withPins { real with inhibit := .intr, flags := { Flags.reset with ifl := true } } { Pins.idle with intr := some 8 }).sample;
      p.pins.reset = false ∧ NothingDue p ∧ p.pins.intr = some 8 ∧ p.run = .running) := by decide +kernel

theorem witness_BoundaryServesEventsInOrder_waiting :
    let p := { real with run := .waiting 0x101, trapDue := true }.sample
    p.pins.reset = false ∧ NothingDue p ∧ p.run = .waiting 0x101 := by decide +kernel

theorem witness_MemoryStoreBytes :
    let s := { real with seg := { real.seg with ds := { real.seg.ds with base := 0xFFFFFFFF } } }
    (s.pe && s.pg) = false ∧ Memory.wf s.mem = true ∧ (4 = 1 ∨ 4 = 2 ∨ 4 = 4) ∧
    s.range .write .ds 0 4 = some [0xFFFFFFFF, 0, 1, 2] := by decide +kernel

/-- At the limit of an expand-up segment and one past it; the same for an expand-down one; code that is not readable. -/
theorem witness_SegmentLimitAndRightsChecks :
    let up := seg386 0x10 0 0 3 false
    let down : SegReg := { seg386 0x10 0 0 7 false with limit := 0xFF, db := true }
    let code := seg386 8 0 0 9 false
    1 ≤ 2 ∧ ({ up with valid := false }).valid = false ∧
    (up.valid = true ∧ up.isExpandDown = false ∧ (0xFFFE#32).toNat + 2 - 1 ≤ up.limit.toNat ∧
      ¬(0xFFFF#32).toNat + 2 - 1 ≤ up.limit.toNat ∧ up.isWritable = true) ∧
    (down.valid = true ∧ down.isExpandDown = true ∧ down.limit.toNat < (0x100#32).toNat ∧ ¬down.limit.toNat < (0xFF#32).toNat ∧
      (0xFFFFFFFE#32).toNat + 2 - 1 ≤ 0xFFFFFFFF ∧ ¬(0xFFFFFFFF#32).toNat + 2 - 1 ≤ 0xFFFFFFFF) ∧
    (code.isReadable = false ∧ code.isWritable = false ∧ code.isExpandDown = false) := by decide +kernel

theorem witness_RegisterPartsAreViews : Reg.ebp ≠ Reg.esp ∧ Reg.edi ≠ wholeReg .bh := by decide +kernel

theorem witness_EffectiveAddressForms : real.pfx.seg = none := by decide +kernel

theorem witness_AddSubtractFlags : (0xFF#32).toNat < 2 ^ Size.byte.bits ∧ (0x80#32).toNat < 2 ^ Size.byte.bits := by decide +kernel

theorem witness_TwoOperandResult :
    aluForm real (.addRmvRv (.mem (.a16 (some .bx) 2)) .eax) = some ⟨.add, .word, .mem .ds 2, .loc (.reg .eax)⟩ ∧
    Src.ready (.loc (.reg .eax)) real .word ∧ Readable real .word (.mem .ds 2) ∧
    (AluOp.add.writes = true → Writable real .word (.mem .ds 2)) :=
  ⟨by decide +kernel, trivial, ⟨by decide +kernel, by decide +kernel⟩, fun _ => ⟨by decide +kernel, by decide +kernel⟩⟩

theorem witness_TwoOperandValues : (0xFFFF#32).toNat < 2 ^ Size.word.bits ∧ (1#32).toNat < 2 ^ Size.word.bits := by decide +kernel

theorem witness_OneOperandResult :
    unaryForm real (.negRmv (.mem (.a16 none 4))) = some (.neg, .word, .mem .ds 4) ∧ Readable real .word (.mem .ds 4) ∧
    Writable real .word (.mem .ds 4) :=
  ⟨by decide +kernel, ⟨by decide +kernel, by decide +kernel⟩, by decide +kernel, by decide +kernel⟩

theorem witness_MultiplyResult :
    (mulForm real (.imulRmv (.mem (.a16 none 4))) = some (true, .word, .mem .ds 4) ∧ Readable real .word (.mem .ds 4)) ∧
    imulForm real (.imulRvRmvImm8 .ebx (.mem (.a16 none 4)) 0xFF) = some (.ebx, .loc (.mem .ds 4), .imm 0xFFFFFFFF) ∧
    Src.ready (.loc (.mem .ds 4)) real real.osz.size ∧ Src.ready (.imm 0xFFFFFFFF) real real.osz.size :=
  ⟨⟨by decide +kernel, by decide +kernel, by decide +kernel⟩, by decide +kernel, ⟨by decide +kernel, by decide +kernel⟩, trivial⟩

/-- The largest quotient that fits, and the least that does not; a divisor of 0. -/
theorem witness_DivideResultAndError :
    (let s := with4 real 0x7FFF 1 0 0;
      divForm s (.idivRmv (.reg .ebx)) = some (true, .word, .reg .ebx) ∧ number true .word (s.value .word (.reg .ebx)) ≠ 0 ∧
      fits true .word (Int.tdiv (wideValue true s .word) (number true .word (s.value .word (.reg .ebx)))) = true) ∧
    (let s := with4 real 0x8000 1 0 0;
      fits true .word (Int.tdiv (wideValue true s .word) (number true .word (s.value .word (.reg .ebx)))) = false) ∧
    number true .word (real.value .word (.reg .ebx)) = 0 := by decide +kernel

theorem witness_ShiftRotateResult :
    shiftForm real (.rclRm8 (.mem (.a16 none 4)) (.imm 31)) = some ⟨.rcl, .byte, .mem .ds 4, 31⟩ ∧
    Readable real .byte (.mem .ds 4) ∧ Writable real .byte (.mem .ds 4) :=
  ⟨by decide +kernel, ⟨by decide +kernel, by decide +kernel⟩, by decide +kernel, by decide +kernel⟩

theorem witness_ShiftRotateValues : (0xFF#32).toNat < 2 ^ Size.byte.bits := by decide +kernel

/-- A count of 0, of 15 and of 16 with 16-bit operands. -/
theorem witness_DoubleShiftResult :
    doubleForm real (.shldImm8 (.reg .eax) .ebx 32) = some (.left, .reg .eax, .ebx, 0) ∧
    doubleForm real (.shldImm8 (.reg .eax) .ebx 15) = some (.left, .reg .eax, .ebx, 15) ∧
    doubleForm real (.shrdImm8 (.reg .eax) .ebx 16) = some (.right, .reg .eax, .ebx, 16) ∧ real.osz.size.bits = 16 := by
  decide +kernel

theorem witness_DoubleShiftResult_operand : Readable real real.osz.size (.reg .eax) ∧ Writable real real.osz.size (.reg .eax) :=
  ⟨trivial, trivial⟩

/-- A negative bit offset reaches the word below. -/
theorem witness_BitTestResult :
    let s := with4 real 0xFFFF 0x1000 0 0
    bitForm s (.btsRmvRv (.mem (.a16 (some .bx) 0)) .eax) = some (.bts, .mem .ds 0xFFE, 15) ∧
    Readable s s.osz.size (.mem .ds 0xFFE) ∧ (BitOp.bts ≠ .bt → Writable s s.osz.size (.mem .ds 0xFFE)) :=
  ⟨by decide +kernel, ⟨by decide +kernel, by decide +kernel⟩, fun _ => ⟨by decide +kernel, by decide +kernel⟩⟩

theorem witness_BitScanResult :
    Readable real real.osz.size (locV real (.reg .ebx)) ∧ real.value real.osz.size (locV real (.reg .ebx)) = 0 ∧
    (with4 real 0 0x8000 0 0).value real.osz.size (locV real (.reg .ebx)) ≠ 0 := ⟨trivial, by decide +kernel⟩

theorem witness_SetConditionResult :
    setForm (.setle (.mem (.a16 none 4))) = some (.le, .mem (.a16 none 4)) ∧ Writable real .byte (loc8 real (.mem (.a16 none 4))) :=
  ⟨by decide +kernel, by decide +kernel, by decide +kernel⟩

theorem witness_MoveResult :
    movForm real (.movMoffsEax 0xFFFE) = some (.word, .mem .ds 0xFFFE, .loc (.reg .eax)) ∧
    Src.ready (.loc (.reg .eax)) real .word ∧ Writable real .word (.mem .ds 0xFFFE) :=
  ⟨by decide +kernel, trivial, by decide +kernel, by decide +kernel⟩

theorem witness_ExtendAddressExchangeResult :
    (extendForm real (.movsxRvRm8 .eax (.mem (.a16 none 4))) = some (true, .byte, .eax, .mem .ds 4) ∧
      Readable real .byte (.mem .ds 4)) ∧
    Allowed real .read (real.segOr .ds) 0 1 ∧
    (Readable real real.osz.size (locV real (.mem (.a16 none 4))) ∧ Writable real real.osz.size (locV real (.mem (.a16 none 4)))) ∧
    Readable real .byte (loc8 real (.reg .bl)) ∧ Writable real .byte (loc8 real (.reg .bl)) :=
  ⟨⟨by decide +kernel, by decide +kernel, by decide +kernel⟩, by decide +kernel,
    ⟨⟨by decide +kernel, by decide +kernel⟩, by decide +kernel, by decide +kernel⟩, trivial, trivial⟩

theorem witness_SegmentRegisterMoves8086 :
    wide.osz = .w32 ∧ (real.osz = .w16 ∨ isMemory (.reg Reg.eax) = true) ∧ Writable real .word (locV real (.reg .eax)) ∧
    real.mode ≠ .prot ∧ Readable real .word (locV real (.reg .eax)) ∧
    pointerForm (.lss .ebx (.a16 none 0xFFFC)) = some (.ss, .ebx, .a16 none 0xFFFC) ∧ FarReadable real (.a16 none 0xFFFC) ∧
    (v86 0).pe = true ∧ real.pe = false :=
  ⟨rfl, by decide +kernel, trivial, by decide +kernel, trivial, rfl, by unfold FarReadable; decide +kernel, rfl, rfl⟩

/-- A null selector, one past the table, the LDT descriptor, a level-0 segment for level 3. -/
theorem witness_SegmentRegisterLoadProtected :
    let s := prot false
    s.mode = .prot ∧ selNull 3 = true ∧ (selNull 0x58 = false ∧ s.descAddr 0x58 = none) ∧
    (selNull 0x18 = false ∧ s.descAddr 0x18 = some 0x2118 ∧ peekDesc s 0x2118 = some ⟨0x2200000F, 0x00008200⟩ ∧
      ((⟨0x2200000F, 0x00008200⟩ : Desc).isData || (⟨0x2200000F, 0x00008200⟩ : Desc).isReadableCode) = false) ∧
    (let u := user false
      let d : Desc := ⟨0x0000FFFF, 0x00009302⟩;
      u.mode = .prot ∧ u.descAddr 0x10 = some 0x2110 ∧ peekDesc u 0x2110 = some d ∧ d.isData = true ∧
      ¬(d.isConforming = true ∨ (selRpl 0x10 ≤ d.dpl ∧ u.cpl ≤ d.dpl))) := by decide +kernel

/-- MOV from memory, POP and LSS with operands that can be read. -/
theorem witness_SegmentRegisterLoadProtected_forms :
    let s := prot false
    locV s (.mem (.a16 none 0)) = .mem .ds 0 ∧ Allowed s .read .ds 0 2 ∧ popSegForm .popSs = some .ss ∧ CanPop s s.osz ∧
    pointerForm (.lss .ebx (.a16 none 0x300)) = some (.ss, .ebx, .a16 none 0x300) ∧ FarReadable s (.a16 none 0x300) :=
  ⟨rfl, by decide +kernel, rfl, by decide +kernel, rfl, by decide +kernel, by decide +kernel, by decide +kernel⟩

/-- A loadable segment whose accessed bit is clear: for DS and for SS. -/
theorem witness_SegmentRegisterLoadProtected_loads :
    let s := prot false
    let d : Desc := ⟨0x0000FFFF, 0x00009203⟩
    (s.descAddr 0x50 = some 0x2150 ∧ peekDesc s 0x2150 = some d ∧ d.isData = true ∧ d.p = true ∧
      (d.isConforming = true ∨ (selRpl 0x50 ≤ d.dpl ∧ s.cpl ≤ d.dpl))) ∧
    (selRpl 0x50 = s.cpl ∧ d.isWritableData = true ∧ d.dpl = s.cpl) ∧ (∃ u, setAccessed ⟨0x2150, d⟩ s = .ok () u) ∧
    d.hi.getLsbD 8 = false ∧ peek s (0x2150 + 5) 1 = some 0x92 ∧ translate .write false (0x2150 + 5) s = .ok 0x2155 s ∧
    Memory.wf s.mem = true ∧ (s.pe && s.pg) = false ∧ (⟨0x0000FFFF, 0x00009302⟩ : Desc).hi.getLsbD 8 = true :=
  ⟨by decide +kernel, by decide +kernel, exists_ok (by decide +kernel), by decide +kernel, by decide +kernel, rfl, by decide +kernel,
    by decide +kernel, by decide +kernel⟩

theorem witness_PushResult :
    pushForm real (.pushRv .esp) = some (.loc (.reg .esp)) ∧ Src.ready (.loc (.reg .esp)) real real.osz.size ∧
    CanPush real real.osz ∧ pushSegForm .pushFs = some .fs ∧ real.osz = .w16 ∧ wide.osz = .w32 ∧ CanPush wide wide.osz :=
  ⟨by decide +kernel, trivial, by decide +kernel, by decide +kernel, by decide +kernel, by decide +kernel, by decide +kernel⟩

theorem witness_PopResult :
    popForm (.popRmv (.mem (.a16 none 4))) = some (.mem (.a16 none 4)) ∧ CanPop real real.osz ∧
    Writable (real.popped real.osz) real.osz.size (locV (real.popped real.osz) (.mem (.a16 none 4))) ∧
    popSegForm .popSs = some .ss ∧ real.mode ≠ .prot :=
  ⟨by decide +kernel, by decide +kernel, ⟨by decide +kernel, by decide +kernel⟩, by decide +kernel, by decide +kernel⟩

/-- Room for eight pushes and none; eight pops; a frame at level 31; bounds that can be read. -/
theorem witness_PushAllAndFrameResult :
    (real.mode = .prot ∨ real.hasRoom real.osz.bytes 8 = true) ∧ CanPushAll .w16 [1, 2, 3, 4, 5, 6, 7, 8] real ∧ real.osz = .w16 ∧
    (let s := { real with gpr := { real.gpr with esp := 7 } };
      s.mode ≠ .prot ∧ s.hasRoom s.osz.bytes 8 = false) ∧
    (let s := { prot false with gpr := { real.gpr with esp := 7 } }
      let u := pushedAll .w16 [1, 2, 3] s
      s.mode = .prot ∧ s.osz = .w16 ∧ CanPushAll .w16 [1, 2, 3] s ∧
        segFault u.mode .ss u.seg.ss (u.pushSp .w16) 2 .write = some (Exc.ss 0)) ∧
    ({ real with gpr := { real.gpr with esp := 0xFFF1 } } : State).holdsItems 2 8 = false ∧
    CanPopAll .w16 8 real ∧ CanPush real real.osz ∧ CanCopyFrames .w16 2 (real.pushed .w16 0) ∧
    CanPush (framesCopied .w16 2 (real.pushed .w16 0)) .w16 :=
  ⟨by decide +kernel,
    canPushAll_of (by decide +kernel), by decide +kernel, by decide +kernel,
    ⟨by decide +kernel, rfl, canPushAll_of (by decide +kernel), by decide +kernel⟩, by decide +kernel,
    canPopAll_of (by decide +kernel), by decide +kernel, ⟨by decide +kernel, by decide +kernel, by decide +kernel, by decide +kernel, trivial⟩, by decide +kernel⟩

theorem witness_PushAllAndFrameResult_leave_bound :
    CanPop (real.setSp (real.reg .ebp)) real.osz ∧
    segFault real.mode .ds (real.sreg .ds) 4 (2 * real.osz.size.bytes) .read = none ∧ Allowed real .read .ds 4 real.osz.size.bytes ∧
    Allowed real .read .ds 6 real.osz.size.bytes := by decide +kernel

theorem witness_FlagsOnStackAndInAh :
    ((v86 2).mode = .v86 ∧ (v86 2).flags.iopl < 3) ∧ ((v86 3).mode ≠ .v86 ∨ (v86 3).flags.iopl = 3) ∧ CanPush real real.osz ∧
    CanPop real real.osz := by decide +kernel

theorem witness_PortInputOutputResult :
    inForm real .inEaxDx = some (0, .word) ∧ outForm real (.outImm8Al 0xFF) = some (0xFF, .byte) ∧
    IoAllowed (v86 3) 0x3F8 .word ∧ checkIo 0x60 .byte (v86 3) = .error (Exc.gp 0) (v86 3) ∧ real.mode = .real ∧
    ((user false).mode = .prot ∧ (user false).flags.iopl < (user false).cpl) ∧
    ({ user false with tr := { (user false).tr with is386 := false } }).tr.is386 = false :=
  ⟨by decide +kernel, by decide +kernel, rfl, rfl, by decide +kernel, by decide +kernel, by decide +kernel⟩

/-- The last port of all: its four bits are past the limit; a port whose bits are clear. -/
theorem witness_IoPermissionBitMap :
    (v86 3).mode = .v86 ∧ (v86 3).tr.is386 = true ∧ (v86 3).pg = false ∧ (0xFFFC#16).toNat + Size.dword.bytes ≤ 65536 ∧
    (v86 3).tr.limit.toNat < 0xFFFC / 8 + 0x68 + 1 := by decide +kernel

theorem witness_InterruptFlagHaltWaitResult :
    (real.pe = false ∨ real.cpl ≤ real.flags.iopl) ∧ ¬((user false).pe = false ∨ (user false).cpl ≤ (user false).flags.iopl) ∧
    ((user false).pe = true ∧ (user false).cpl ≠ 0) ∧ (({ real with cr0 := 0xA }).mp = true ∧ ({ real with cr0 := 0xA }).ts = true) ∧
    ((real.mp && real.ts) = false ∧ real.pins.error = false ∧ real.pins.busy = false) ∧
    ({ Pins.idle with error := true }).error = true ∧ ({ Pins.idle with busy := true }).busy = true := by decide +kernel

theorem witness_StringOperationResult :
    (∃ f, stringForm real .movsv = some (.word, false, f)) ∧ (∃ f, stringForm real .cmpsb = some (.byte, true, f)) ∧
    (∃ f, stringForm real .scasb = some (.byte, true, f)) ∧ (∃ f, stringForm real .lodsb = some (.byte, false, f)) ∧
    (∃ f, stringForm real .stosb = some (.byte, false, f)) ∧ (∃ f, stringForm real .insb = some (.byte, false, f)) ∧
    (∃ f, stringForm real .outsb = some (.byte, false, f)) ∧ real.pfx.rep = none ∧
    Allowed real .read (real.segOr .ds) (real.regW real.asz .esi) 2 ∧ Allowed real .read .es (real.regW real.asz .edi) 2 ∧
    Allowed real .write .es (real.regW real.asz .edi) 2 ∧ IoAllowed real real.dx .byte :=
  by and_intros <;> first | exact ⟨_, rfl⟩ | decide +kernel | rfl

/-- A count of 0; a last iteration; one that goes on; one whose access raises an exception. -/
theorem witness_StringRepeatResult :
    let rep : State := { real with pfx := { Prefixes.empty with rep := some .rep } }
    (∃ f, stringForm rep .movsb = some (.byte, false, f)) ∧ rep.pfx.rep = some .rep ∧ rep.regW rep.asz .ecx = 0 ∧
    (with4 rep 0 0 1 0).regW rep.asz .ecx ≠ 0 ∧ (∃ u, movs .byte (with4 rep 0 0 1 0) = .ok () u) ∧
    (∃ u, movs .byte (with4 rep 0 0 0xFFFF 0) = .ok () u) ∧
    ∃ u, movs .word { rep with gpr := { rep.gpr with ecx := 1, esi := 0xFFFF } } = .error (Exc.gp 0) u :=
  ⟨⟨_, rfl⟩, by decide +kernel, by decide +kernel, by decide +kernel, exists_ok (by decide +kernel), exists_ok (by decide +kernel),
    exists_error (by decide +kernel)⟩

theorem witness_ConditionalJumpAndLoopResult :
    jumpForm (.jle8 0x80) = some (.le, 0xFFFFFF80) ∧ loopForm (.loopne 0x7F) = some (.ne, 0x7F) := by decide +kernel

/-- A near jump, call and return, and a target past the CS limit. -/
theorem witness_NearJumpCallReturnResult :
    nearJumpForm real (.jmpRmv (.mem (.a16 none 4))) = some (.loc (.mem .ds 4)) ∧ Src.ready (.loc (.mem .ds 4)) real real.osz.size ∧
    nearCallForm real (.callRelv 5) = some (.imm 0x105) ∧ Src.ready (.imm 0x105) real real.osz.size ∧ CanPush real real.osz ∧
    CanPop real real.osz ∧ (wide.mode = .prot ∧ wide.seg.cs.limit.toNat < (0x10000#32).toNat) :=
  ⟨by decide +kernel, ⟨by decide +kernel, by decide +kernel⟩, by decide +kernel, trivial, by decide +kernel, by decide +kernel, by decide +kernel⟩

theorem witness_FarTransfer8086Result :
    real.mode ≠ .prot ∧ real.osz = .w16 ∧ FarReadable real (.a16 none 0x300) ∧ CanPushAll .w16 [real.selD .cs, real.eip] real ∧
    CanPopAll .w16 2 real :=
  ⟨by decide +kernel, rfl, by unfold FarReadable; decide +kernel, canPushAll_of (by decide +kernel), canPopAll_of (by decide +kernel)⟩

/-- A CALL at SP 3, whose second push would cross offset 0, and a RET at SP FFFDH, whose second item crosses the limit. -/
theorem witness_FarTransfer8086Result_noRoom :
    ({ real with gpr := { real.gpr with esp := 3 } } : State).hasRoom 2 2 = false ∧
    FarReadable { real with gpr := { real.gpr with esp := 3 } } (.a16 none 0x300) ∧
    ({ real with gpr := { real.gpr with esp := 0xFFFD } } : State).holdsItems 2 2 = false :=
  ⟨by decide +kernel, by unfold FarReadable; decide +kernel, by decide +kernel⟩

/-- A null selector, one past the table, one of another level, one that is entered, an offset just past its limit, and a stack
with no room for a CALL. -/
theorem witness_FarTransferProtectedResult :
    let s := prot false
    let d : Desc := ⟨0x0000FFFF, 0x00009B00⟩
    let d3 : Desc := ⟨0x0000FFFF, 0x0000FB00⟩
    s.mode = .prot ∧ selNull 1 = true ∧ (selNull 0x58 = false ∧ s.descAddr 0x58 = none) ∧
    (s.descAddr 0x28 = some 0x2128 ∧ peekDesc s 0x2128 = some d3 ∧ d3.isCode = true ∧ d3.dpl ≠ s.cpl) ∧
    (selNull 8 = false ∧ s.descAddr 8 = some 0x2108 ∧ peekDesc s 0x2108 = some d ∧ d.isCode = true ∧ d.isConforming = false ∧
      d.dpl = s.cpl ∧ selRpl 8 ≤ s.cpl ∧ d.p = true ∧ (0xFFFF#32).toNat ≤ d.limit.toNat ∧ d.limit.toNat < (0x10000#32).toNat) ∧
    s.hasRoom s.osz.bytes 2 = true ∧ ({ s with gpr := { s.gpr with esp := 3 } } : State).hasRoom s.osz.bytes 2 = false := by
  decide +kernel

/-- A far CALL through a pointer in memory. -/
theorem witness_FarTransferProtectedResult_indirect :
    let s := withMem (prot false) [(0x20300, [0x00, 0x02, 0x08, 0x00])]
    farForm s (.callFarMem (.a16 none 0x300)) = some (true, 8, 0x200) ∧ FarReady s (.callFarMem (.a16 none 0x300)) :=
  ⟨by decide +kernel, by decide +kernel, by decide +kernel, by decide +kernel⟩

theorem witness_FarTransferProtectedResult_access :
    (∃ u, setAccessed ⟨0x2108, ⟨0x0000FFFF, 0x00009B00⟩⟩ (prot false) = .ok () u) ∧
    CanPushAll .w16 [(prot false).selD .cs, (prot false).eip] (prot false) ∧
    ∃ u, setAccessed ⟨0x2108, ⟨0x0000FFFF, 0x00009B00⟩⟩
      (pushedAll .w16 [(prot false).selD .cs, (prot false).eip] (prot false)) = .ok () u :=
  ⟨exists_ok (by decide +kernel), ⟨by decide +kernel, by decide +kernel, trivial⟩, exists_ok (by decide +kernel)⟩

/-- An 80386 call gate of level 3 to 0008:0200 with one parameter, at selector 48. -/
def gated (s : State) : State := withMem s [(0x2148, [0, 2, 8, 0, 1, 0xEC, 0, 0])]

/-- The gate from level 0, to the same level: by JMP, and by CALL with and without room; and an offset past the limit. -/
theorem witness_FarTransferProtectedResult_gate :
    let s := gated (prot false)
    let g : Desc := ⟨0x00080200, 0x0000EC01⟩
    let c : Desc := ⟨0x0000FFFF, 0x00009B00⟩
    (s.mode = .prot ∧ selNull 0x48 = false ∧ s.descAddr 0x48 = some 0x2148 ∧ peekDesc s 0x2148 = some g ∧ g.isSystem 12 = true ∧
      s.cpl ≤ g.dpl ∧ selRpl 0x48 ≤ g.dpl ∧ g.p = true ∧ g.gateSelector = 8 ∧ selNull 8 = false ∧ s.descAddr 8 = some 0x2108 ∧
      peekDesc s 0x2108 = some c ∧ c.isCode = true ∧ c.dpl = s.cpl ∧ c.p = true ∧ g.gateOffset.toNat ≤ c.limit.toNat) ∧
    s.hasRoom g.gateWidth.bytes 2 = true ∧ ({ s with gpr := { s.gpr with esp := 7 } } : State).hasRoom g.gateWidth.bytes 2 = false ∧
    CanPushAll g.gateWidth [s.selD .cs, s.eip] s ∧
    (∃ u, setAccessed ⟨0x2108, c⟩ (pushedAll g.gateWidth [s.selD .cs, s.eip] s) = .ok () u) ∧
    (∃ u, setAccessed ⟨0x2108, c⟩ s = .ok () u) ∧
    (⟨0x0008FFFF, 0x0001EC00⟩ : Desc).gateOffset = 0x1FFFF ∧ c.limit.toNat < (0x1FFFF#32).toNat :=
  ⟨by decide +kernel, by decide +kernel, by decide +kernel, ⟨by decide +kernel, by decide +kernel, trivial⟩,
    exists_ok (by decide +kernel), exists_ok (by decide +kernel), by decide +kernel, by decide +kernel⟩

/-- Gates that fail: of level 0 for level 3, not present, to a null selector, to one past the table, and to code that a JMP from
level 3 may not enter. -/
theorem witness_FarTransferProtectedResult_gateFaults :
    let s := gated (user true)
    let g : Desc := ⟨0x00080200, 0x0000EC01⟩
    (⟨0x00080200, 0x00008C01⟩ : Desc).dpl < s.cpl ∧ (⟨0x00080200, 0x00006C01⟩ : Desc).p = false ∧
    selNull (⟨0x00030200, 0x0000EC01⟩ : Desc).gateSelector = true ∧
    (selNull (⟨0x00580200, 0x0000EC01⟩ : Desc).gateSelector = false ∧ s.descAddr (⟨0x00580200, 0x0000EC01⟩ : Desc).gateSelector = none) ∧
    (s.cpl ≤ g.dpl ∧ selRpl 0x4B ≤ g.dpl ∧ g.p = true ∧ peekDesc s 0x2148 = some g ∧
      peekDesc s 0x2108 = some ⟨0x0000FFFF, 0x00009B00⟩ ∧ (⟨0x0000FFFF, 0x00009B00⟩ : Desc).isConforming = false ∧
      (⟨0x0000FFFF, 0x00009B00⟩ : Desc).dpl ≠ s.cpl) ∧ (⟨0x0000FFFF, 0x00001B00⟩ : Desc).p = false := by decide +kernel

/-- CALL from level 3 through the gate to level 0: the stack of the TSS, one parameter; one that lies outside the old stack; and a
TSS too small to hold the pointer. -/
theorem witness_FarTransferProtectedResult_inner :
    let s := gated (user true)
    let g : Desc := ⟨0x00080200, 0x0000EC01⟩
    let c : Desc := ⟨0x0000FFFF, 0x00009B00⟩
    let f : Found := ⟨0x2110, ⟨0x0000FFFF, 0x00009302⟩⟩
    let inner := s.withStack f 0x10 0x1000 c.dpl
    let p := pushedAll g.gateWidth [s.selD .ss, s.gpr.esp] inner
    let frame := [s.selD .cs, s.eip]
    (s.mode = .prot ∧ s.descAddr 0x4B = some 0x2148 ∧ peekDesc s 0x2148 = some g ∧ c.isCode = true ∧ c.dpl ≤ s.cpl ∧
      ¬(c.isConforming = true ∨ c.dpl = s.cpl)) ∧
    InnerStack s c.dpl 0x10 0x1000 f ∧
    stackRoom .prot (f.desc.toSeg 0x10) g.gateWidth.bytes (g.gateCount + 4) (spFor (f.desc.toSeg 0x10) 0x1000) = true ∧
    setAccessed f s = .ok () s ∧ CanPushAll g.gateWidth [s.selD .ss, s.gpr.esp] inner ∧ g.gateCount = 1 ∧
    ParamsCopied s g.gateWidth 1 p (p.pushed g.gateWidth 0) ∧ CanPushAll g.gateWidth frame (p.pushed g.gateWidth 0) ∧
    (∃ u, setAccessed ⟨0x2108, c⟩ (pushedAll g.gateWidth frame (p.pushed g.gateWidth 0)) = .ok () u) ∧
    (let o := { s with gpr := { s.gpr with esp := 0xFFFE } };
      segFault o.mode .ss o.seg.ss (paramOffset o g.gateWidth 0) g.gateWidth.bytes .read = some (Exc.ss 0)) ∧
    ¬InnerStackInTss { s with tr := { s.tr with limit := 8 } } c.dpl :=
  ⟨by decide +kernel, by decide +kernel, by decide +kernel, rfl, canPushAll_of (by decide +kernel), by decide +kernel,
    ⟨by decide +kernel, 0, by decide +kernel, by decide +kernel, rfl⟩, canPushAll_of (by decide +kernel),
    exists_ok (by decide +kernel), by decide +kernel, by decide +kernel⟩

/-- RET to the same level, to level 3 over two bytes of parameters, and with a CS of lower RPL; a stack that ends in the frame. -/
theorem witness_FarTransferProtectedResult_return :
    (let s := withMem (user false) [(0x21000, [0x00, 0x04, 0x2B, 0x00])];
      let d : Desc := ⟨0x0000FFFF, 0x0000FB00⟩;
      s.mode = .prot ∧ s.osz = .w16 ∧ segFault s.mode .ss s.seg.ss s.sp 4 .read = none ∧ Allowed s .read .ss (s.stackOff 2) 2 ∧
      s.loaded .ss (s.stackOff 2) 2 = 0x2B ∧ selRpl 0x2B = s.cpl ∧ ReturnCode s 0x2B s.cpl 0x2128 d ∧ Allowed s .read .ss (s.stackOff 0) 2 ∧
      (s.loaded .ss (s.stackOff 0) 2).toNat ≤ d.limit.toNat ∧ raised (setAccessed ⟨0x2128, d⟩) s = none) ∧
    (let s := withMem (prot false) [(0x21000, [0x00, 0x04, 0x2B, 0x00, 0xAA, 0xAA, 0x00, 0x08, 0x33, 0x00])];
      let d : Desc := ⟨0x0000FFFF, 0x0000FB00⟩
      let f : Desc := ⟨0x0000FFFF, 0x0000F302⟩;
      s.mode = .prot ∧ s.osz = .w16 ∧ segFault s.mode .ss s.seg.ss s.sp 10 .read = none ∧ s.loaded .ss (s.stackOff 2) 2 = 0x2B ∧
      s.cpl < selRpl 0x2B ∧ ReturnCode s 0x2B 3 0x2128 d ∧ Allowed s .read .ss (s.stackOff 6) 2 ∧ Allowed s .read .ss (s.stackOff 8) 2 ∧
      s.loaded .ss (s.stackOff 8) 2 = 0x33 ∧ ReturnStack s 0x33 3 0x2130 f ∧ (s.loaded .ss (s.stackOff 0) 2).toNat ≤ d.limit.toNat ∧
      setAccessed ⟨0x2128, d⟩ s = .ok () s ∧ setAccessed ⟨0x2130, f⟩ s = .ok () s) ∧
    (let s := withMem (user false) [(0x21000, [0x00, 0x04, 0x08, 0x00])];
      s.loaded .ss (s.stackOff 2) 2 = 8 ∧ selRpl 8 < s.cpl) ∧
    (let s := { user false with gpr := { real.gpr with esp := 0xFFFD } };
      segFault s.mode .ss s.seg.ss s.sp 4 .read = some (Exc.ss 0)) :=
  ⟨by decide +kernel, by and_intros <;> first | rfl | decide +kernel, by decide +kernel, by decide +kernel⟩

/-- A vector that can be taken, one beyond the limit with vector 8 takeable, and an IRET frame. -/
theorem witness_RealModeEntryAndReturn :
    real.pe = false ∧ RealVector real 255 real.eip 0 0 ∧ RealVector real 8 real.insnStart 0 0 ∧
    (RealVector real 12 real.insnStart 0 0 ∧ RealVector real 13 real.insnStart 0 0) ∧
    (let s := { real with idtr := { base := 0, limit := 0x23 } };
      s.idtr.limit.toNat < 4 * (9#8).toNat + 3 ∧ RealVector s 8 s.insnStart 0 0) ∧
    ({ real with gpr := { real.gpr with esp := 0xFFFB } } : State).holdsItems 2 3 = false ∧
    ((v86 2).mode = .v86 ∧ (v86 2).flags.iopl < 3) ∧ real.mode = .real ∧ CanPopAll .w16 3 real ∧ real.osz = .w16 :=
  ⟨by decide +kernel, realVector_of (by decide +kernel) (by decide +kernel), realVector_of (by decide +kernel) (by decide +kernel),
    ⟨realVector_of (by decide +kernel) (by decide +kernel), realVector_of (by decide +kernel) (by decide +kernel)⟩,
    ⟨by decide +kernel, realVector_of (by decide +kernel) (by decide +kernel)⟩,
    by decide +kernel, by decide +kernel, rfl, canPopAll_of (by decide +kernel), rfl⟩

/-- Software interrupts of each kind: INT n in protected mode and in V86 mode with IOPL 3, INT 3, INTO; a vector past the limit;
and an IRET frame in V86 mode. -/
theorem witness_RealModeEntryAndReturn_everyMode :
    let ofl := { prot true with flags := { Flags.reset with ofl := true } }
    (∃ t, deliverOnce (3#8).toNat .software none (prot true).eip (prot true) = .ok () t) ∧ (prot true).mode ≠ .v86 ∧
    ((∃ t, deliverOnce (3#8).toNat .software none (v86 3).eip (v86 3) = .ok () t) ∧ (v86 3).mode = .v86 ∧ (v86 3).flags.iopl = 3) ∧
    (∃ t, deliverOnce 3 .software none (user true).eip (user true) = .ok () t) ∧
    (∃ t, deliverOnce 15 .software none (user true).eip (user true) = .error (Exc.gp 0x7A) t) ∧
    ((∃ t, deliverOnce 4 .software none ofl.eip ofl = .error (Exc.gp 0x22) t) ∧ ofl.flags.ofl = true) ∧
    ((v86 3).osz = .w16 ∧ CanPopAll .w16 3 (v86 3)) :=
  ⟨exists_ok (by decide +kernel), by decide +kernel, ⟨exists_ok (by decide +kernel), rfl, rfl⟩, exists_ok (by decide +kernel),
    exists_error (by decide +kernel), ⟨exists_error (by decide +kernel), rfl⟩, rfl, canPopAll_of (by decide +kernel)⟩

/-- INT 3 at level 0 through the gate of level 3, with an error code pushed as well once CS is loaded. -/
theorem witness_ProtectedEntrySameLevel :
    let s := prot true
    let g : Desc := ⟨0x00080200, 0x0000EF00⟩
    let c : Found := ⟨0x2108, ⟨0x0000FFFF, 0x00009B00⟩⟩
    let frame := [s.flags.image, s.selD .cs, s.eip]
    let u := pushedAll g.gateWidth frame s
    s.mode = .prot ∧ GateVector s 3 g c ∧ (Source.software = .software → s.cpl ≤ g.dpl) ∧
    (if c.desc.isConforming then c.desc.dpl ≤ s.cpl else c.desc.dpl = s.cpl) ∧
    s.hasRoom g.gateWidth.bytes (frame.length + (codeValues (some 0)).length) = true ∧ CanPushAll g.gateWidth frame s ∧
    setAccessed c u = .ok () u ∧ setAccessed c s = .ok () s ∧
    CanPushAll g.gateWidth (codeValues (some 0))
      { u.setSreg .cs (c.desc.toSeg (selWithRpl g.gateSelector s.cpl)) with eip := g.gateOffset } :=
  ⟨by decide +kernel, by unfold GateVector; decide +kernel, by decide +kernel, by decide +kernel, by decide +kernel,
    canPushAll_of (by decide +kernel), rfl, rfl, canPushAll_of (by decide +kernel)⟩

/-- The same with a code segment whose accessed bit is clear: an abandoned delivery leaves it set and nothing else changed. -/
theorem test_abandoned_delivery_keeps_accessed :
    let s := withMem (prot true) [(0x210D, [0x9A])]
    s.markAccessed ⟨0x2108, ⟨0x0000FFFF, 0x00009A00⟩⟩ = { s with mem := (prot true).mem } := by decide +kernel

/-- INT 3 at level 3 through the same gate, onto the stack that the TSS gives for level 0; and a TSS too small to hold it. -/
theorem witness_ProtectedEntryInnerLevel :
    let s := user true
    let g : Desc := ⟨0x00080200, 0x0000EF00⟩
    let c : Found := ⟨0x2108, ⟨0x0000FFFF, 0x00009B00⟩⟩
    let f : Found := ⟨0x2110, ⟨0x0000FFFF, 0x00009302⟩⟩
    let old := [s.selD .ss, s.gpr.esp, s.flags.image, s.selD .cs, s.eip] ++ codeValues none
    let inner := s.withStack f 0x10 0x1000 c.desc.dpl
    GateVector s 3 g c ∧ s.cpl ≤ g.dpl ∧ c.desc.isConforming = false ∧ (s.mode = .prot ∧ c.desc.dpl < s.cpl) ∧
    InnerStack s c.desc.dpl 0x10 0x1000 f ∧
    stackRoom .prot (f.desc.toSeg 0x10) g.gateWidth.bytes old.length (spFor (f.desc.toSeg 0x10) 0x1000) = true ∧
    setAccessed f s = .ok () s ∧ CanPushAll g.gateWidth old inner ∧
    (∃ u, setAccessed c (pushedAll g.gateWidth old inner) = .ok () u) ∧
    GateVector { s with tr := { s.tr with limit := 8 } } 3 g c ∧ ¬InnerStackInTss { s with tr := { s.tr with limit := 8 } } c.desc.dpl :=
  ⟨by unfold GateVector; decide +kernel, by decide +kernel, by decide +kernel, by decide +kernel, by decide +kernel,
    by decide +kernel, rfl, canPushAll_of (by decide +kernel), exists_ok (by decide +kernel), by unfold GateVector; decide +kernel,
    by decide +kernel⟩

/-- INT 3 in V86 mode with IOPL 3 through the same gate. -/
theorem witness_ProtectedEntryInnerLevel_v86 :
    let s := v86 3
    let g : Desc := ⟨0x00080200, 0x0000EF00⟩
    let c : Found := ⟨0x2108, ⟨0x0000FFFF, 0x00009B00⟩⟩
    let f : Found := ⟨0x2110, ⟨0x0000FFFF, 0x00009302⟩⟩
    let frame := [s.selD .gs, s.selD .fs, s.selD .ds, s.selD .es] ++
      ([s.selD .ss, s.gpr.esp, s.flags.image, s.selD .cs, s.eip] ++ codeValues none)
    let null := fun r : SegReg => { r with sel := 0, valid := false }
    let in0 : State := { s with
      flags := { s.flags with vm := false }
      cpl := 0
      gpr := { s.gpr with esp := 0x1000 }
      seg := { cs := s.seg.cs, ss := f.desc.toSeg 0x10, es := null s.seg.es, ds := null s.seg.ds, fs := null s.seg.fs,
               gs := null s.seg.gs } }
    GateVector s 3 g c ∧ s.cpl ≤ g.dpl ∧ (s.mode = .v86 ∧ g.is386 = true ∧ c.desc.dpl = 0) ∧ InnerStack s 0 0x10 0x1000 f ∧
    stackRoom .prot (f.desc.toSeg 0x10) g.gateWidth.bytes frame.length (spFor (f.desc.toSeg 0x10) 0x1000) = true ∧
    setAccessed f s = .ok () s ∧ CanPushAll .w32 frame in0 ∧ ∃ u, setAccessed c (pushedAll .w32 frame in0) = .ok () u :=
  ⟨by unfold GateVector; decide +kernel, by decide +kernel, by decide +kernel, by decide +kernel, by decide +kernel, rfl,
    canPushAll_of (by decide +kernel), exists_ok (by decide +kernel)⟩

/-- A vector one past the limit; an empty entry; a gate of level 0 for level 3; a gate that is not present; a null selector. -/
theorem witness_GateChecksOfDelivery :
    let s := user false
    s.pe = true ∧ s.idtr.limit.toNat < 8 * 15 + 7 ∧ 8 * 14 + 7 ≤ s.idtr.limit.toNat ∧
    (peekDesc s 0x3000 = some ⟨0, 0⟩ ∧ ((⟨0, 0⟩ : Desc).isIntOrTrapGate || (⟨0, 0⟩ : Desc).isSystem 5) = false) ∧
    (let g : Desc := ⟨0x00080200, 0x00008600⟩;
      peekDesc s 0x3068 = some g ∧ g.isIntOrTrapGate = true ∧ g.dpl < s.cpl) ∧
    (let g : Desc := ⟨0x00080200, 0x00000F00⟩;
      peekDesc s 0x3070 = some g ∧ g.isIntOrTrapGate = true ∧ g.p = false) ∧
    (let g : Desc := ⟨0x00000200, 0x0000EF00⟩;
      peekDesc s 0x3028 = some g ∧ g.isIntOrTrapGate = true ∧ ¬(Source.software = .software ∧ g.dpl < s.cpl) ∧ g.p = true ∧
      selNull g.gateSelector = true) := by decide +kernel

/-- A gate that leads to a code segment of the LDT, whose table holds nothing there: no code; and one past the GDT. -/
theorem witness_GateChecksOfDelivery_selector :
    let s := user false
    s.descAddr 0x58 = none ∧ (s.descAddr 0x10 = some 0x2110 ∧ peekDesc s 0x2110 = some ⟨0x0000FFFF, 0x00009302⟩ ∧
      (⟨0x0000FFFF, 0x00009302⟩ : Desc).isCode = false) ∧
    (⟨0x0000FFFF, 0x00001B00⟩ : Desc).isCode = true ∧ (⟨0x0000FFFF, 0x00001B00⟩ : Desc).p = false := by decide +kernel

/-- A state whose IDT holds a gate at vector 3. -/
def withGate (s : State) (g : List Byte) : State := withMem s [(0x3018, g)]

/-- V86 mode: a 16-bit gate, and one to conforming code. Level 0: a gate to code of level 3; a stack without room for the frame;
an offset past the code limit. -/
theorem witness_GateChecksOfDelivery_code :
    (let s := withGate (v86 3) [0, 2, 8, 0, 0, 0xE6, 0, 0];
      peekDesc s 0x3018 = some ⟨0x00080200, 0x0000E600⟩ ∧ s.flags.vm = true ∧ (⟨0x00080200, 0x0000E600⟩ : Desc).is386 = false) ∧
    (let s := withGate (v86 3) [0, 2, 0x38, 0, 0, 0xEF, 0, 0];
      peekDesc s 0x3018 = some ⟨0x00380200, 0x0000EF00⟩ ∧ s.descAddr 0x38 = some 0x2138 ∧
      peekDesc s 0x2138 = some ⟨0x0000FFFF, 0x00009F00⟩ ∧ (⟨0x0000FFFF, 0x00009F00⟩ : Desc).isConforming = true) ∧
    (let s := withGate (prot false) [0, 2, 0x28, 0, 0, 0xEF, 0, 0]
      let d : Desc := ⟨0x0000FFFF, 0x0000FB00⟩;
      peekDesc s 0x3018 = some ⟨0x00280200, 0x0000EF00⟩ ∧ s.flags.vm = false ∧ peekDesc s 0x2128 = some d ∧
      d.isConforming = false ∧ s.cpl < d.dpl) ∧
    (let s := { prot false with gpr := { real.gpr with esp := 3 } };
      peekDesc s 0x3018 = some ⟨0x00080200, 0x0000EF00⟩ ∧ (⟨0x0000FFFF, 0x00009B00⟩ : Desc).dpl = s.cpl ∧ s.hasRoom 4 3 = false) ∧
    (let s := withGate (prot false) [0xFF, 0xFF, 8, 0, 0, 0xEF, 1, 0]
      let g : Desc := ⟨0x0008FFFF, 0x0001EF00⟩;
      peekDesc s 0x3018 = some g ∧ s.hasRoom 4 3 = true ∧
      (⟨0x0000FFFF, 0x00009B00⟩ : Desc).limit.toNat < g.gateOffset.toNat) := by decide +kernel

/-- INT 3 from level 3 to level 0 with a TSS whose stack selector is good, null, past the table, of level 3; a stack segment
that is not present; a stack pointer without room. -/
theorem witness_GateChecksOfDelivery_inner :
    let s := user true
    let c : Desc := ⟨0x0000FFFF, 0x00009B00⟩
    let f : Desc := ⟨0x0000FFFF, 0x00009302⟩
    (c.isConforming = false ∧ s.flags.vm = false ∧ c.dpl < s.cpl ∧ InnerPointer s c.dpl 0x10 0x1000 ∧ selNull 0x10 = false ∧
      s.descAddr 0x10 = some 0x2110 ∧ peekDesc s 0x2110 = some f ∧ selRpl 0x10 = c.dpl ∧ f.dpl = c.dpl ∧
      f.isWritableData = true ∧ f.p = true ∧ stackRoom .prot (f.toSeg 0x10) 4 5 (spFor (f.toSeg 0x10) 0x1000) = true) ∧
    InnerPointer (withMem s [(0x2308, [0, 0])]) c.dpl 0 0x1000 ∧
    (InnerPointer (withMem s [(0x2308, [0x58, 0])]) c.dpl 0x58 0x1000 ∧ selNull 0x58 = false ∧ s.descAddr 0x58 = none) ∧
    (InnerPointer (withMem s [(0x2308, [0x33, 0])]) c.dpl 0x33 0x1000 ∧ selRpl 0x33 ≠ c.dpl) ∧
    (⟨0x0000FFFF, 0x00001302⟩ : Desc).p = false ∧
    (InnerPointer (withMem s [(0x2304, [3, 0])]) c.dpl 0x10 3 ∧ stackRoom .prot (f.toSeg 0x10) 4 5 (spFor (f.toSeg 0x10) 3) = false) ∧
    ¬InnerStackInTss { s with tr := { s.tr with limit := 8 } } c.dpl := by decide +kernel

/-- Task gates at vector 3: to a TSS that can be entered, with an error code and without room for it; to the busy one; to a
selector with TI set and one past the table. -/
theorem witness_GateChecksOfDelivery_task :
    let s := { withMem (withGate (prot false) [0, 0, 0x20, 0, 0, 0xE5, 0, 0]) [(0x2348, [0x10, 0, 0, 0, 0x08, 0, 0, 0, 0x10]),
      (0x2338, [0, 1])] with tr := { sel := 0x40, base := 0x2400, limit := 0x67, is386 := true } }
    let d : Desc := ⟨0x23000067, 0x00008900⟩
    let go := switchTasks ⟨0x2120, d⟩ 0x20 .nest 0x300
    (peekDesc s 0x3018 = some ⟨0x00200000, 0x0000E500⟩ ∧ (⟨0x00200000, 0x0000E500⟩ : Desc).isSystem 5 = true ∧ selTi 0x20 = false ∧
      s.descAddr 0x20 = some 0x2120 ∧ peekDesc s 0x2120 = some d ∧ d.isAvailableTss = true ∧ d.p = true) ∧
    (match go s with | .ok _ t => t.hasRoom 4 1 && pushable .w32 (codeValues (some 0)) t | .error _ _ => false) = true ∧
    (match go (withMem s [(0x2338, [3, 0])]) with | .ok _ t => !t.hasRoom 4 1 | .error _ _ => false) = true ∧
    (match go (withMem s [(0x2322, [1, 0])]) with | .ok _ t => decide (t.seg.cs.limit.toNat < t.eip.toNat) | .error _ _ => false) = true ∧
    raised go (withMem s [(0x2348 + 4, [0, 0])]) = some { Exc.ts 0 with inNewTask := true } ∧
    ((⟨0x24000067, 0x00008B00⟩ : Desc).isAvailableTss = false ∧ (⟨0x23000067, 0x00000900⟩ : Desc).p = false) ∧
    (selTi (⟨0x00240000, 0x0000E500⟩ : Desc).gateSelector = true ∧ s.descAddr 0x58 = none) := by decide +kernel

/-- Exceptions that are delivered: a #GP(0) at level 0 and at level 3, a #BP in V86 mode, and a page fault. -/
theorem witness_FaultsInDeliveryChain_raise :
    let begun := fun (s : State) (e : Exc) => { s with trapDue := false, eip := s.insnStart, cr2 := e.cr2.getD s.cr2 }
    let delivered := fun (s : State) (e : Exc) => deliverOnce e.vector .exception e.code s.insnStart (begun s e)
    (∃ u, delivered (prot false) (Exc.gp 0) = .ok () u) ∧ (∃ u, delivered (user false) (Exc.gp 0) = .ok () u) ∧
    (∃ u, delivered (v86 0) (Exc.plain 3) = .ok () u) ∧
    (∃ u, delivered (withMem (user true) [(0x3070, [0, 2, 8, 0, 0, 0xEF, 0, 0])]) (Exc.pf 6 0x12345678) = .ok () u) ∧
    (Exc.gp 0).cr2 = none :=
  ⟨exists_ok (by decide +kernel), exists_ok (by decide +kernel), exists_ok (by decide +kernel), exists_ok (by decide +kernel), rfl⟩

/-- R47: a page fault loads CR2 with its linear address, and a #GP keeps it. -/
theorem test_raise_cr2 :
    ((withMem (user true) [(0x3070, [0, 2, 8, 0, 0, 0xEF, 0, 0])]).raise (Exc.pf 6 0x12345678)).cr2 = 0x12345678 ∧
    (({ user true with cr2 := 5 } : State).raise (Exc.gp 0)).cr2 = 5 := by decide +kernel

/-- A #BP that is delivered. Vector 8 cannot be delivered; a #GP that cannot; a #DB that cannot. -/
theorem witness_FaultsInDeliveryChain :
    let s := { user false with idtr := { base := 0x3000, limit := 0 } }
    (∃ t, deliverOnce 3 .exception none 0 (user false) = .ok () t) ∧
    (∃ u, deliverOnce 8 .exception (some 0) 0 s = .error (Exc.gp 0x42) u) ∧
    (∃ u, deliverOnce 13 .exception (some 0) 0 s = .error (Exc.gp 0x6A) u) ∧ isDoubleFault 13 (Exc.gp 0x6A).vector = true ∧
    (∃ u, deliverOnce 1 .exception none 0 s = .error (Exc.gp 0x0A) u) ∧ isDoubleFault 1 (Exc.gp 0x0A).vector = false ∧
    (Exc.gp 0x42).inNewTask = false ∧ Source.exception ≠ .software ∧ (Exc.gp 0x42).code = some 0x42 ∧ Exc.ud.code = none :=
  ⟨exists_ok (by decide +kernel), exists_error (by decide +kernel), exists_error (by decide +kernel), by decide +kernel,
    exists_error (by decide +kernel), by decide +kernel, by decide +kernel, by decide +kernel, rfl, rfl⟩

/-- A frame at level 3 with CS 2B, and at level 0 one whose image has VM set. -/
theorem witness_ProtectedInterruptReturn :
    let s := withMem (user false) [(0x21000, [0x00, 0x04, 0x2B, 0x00, 0x02, 0x30])]
    let d : Desc := ⟨0x0000FFFF, 0x0000FB00⟩
    (s.mode = .prot ∧ s.flags.nt = false ∧ s.osz = .w16 ∧ segFault s.mode .ss s.seg.ss s.sp 6 .read = none ∧
      Allowed s .read .ss (s.stackOff 2) 2 ∧ Allowed s .read .ss (s.stackOff 0) 2 ∧ Allowed s .read .ss (s.stackOff 4) 2 ∧
      s.loaded .ss (s.stackOff 2) 2 = 0x2B ∧ s.descAddr 0x2B = some 0x2128 ∧ peekDesc s 0x2128 = some d ∧ d.isCode = true ∧
      d.isConforming = false ∧ d.dpl = s.cpl ∧ d.p = true ∧ (s.loaded .ss (s.stackOff 0) 2).toNat ≤ d.limit.toNat) ∧
    ∃ u, setAccessed ⟨0x2128, d⟩ s = .ok () u :=
  ⟨by decide +kernel, exists_ok (by decide +kernel)⟩

/-- A frame at level 0 with CS 2B and SS 33; one at level 3 with CS 8; a stack that ends in the frame. -/
theorem witness_ProtectedInterruptReturn_outer :
    (let s := withMem (prot false) [(0x21000, [0x00, 0x04, 0x2B, 0x00, 0x02, 0x30, 0x00, 0x08, 0x33, 0x00])];
      let d : Desc := ⟨0x0000FFFF, 0x0000FB00⟩
      let f : Desc := ⟨0x0000FFFF, 0x0000F302⟩
      (s.mode = .prot ∧ s.flags.nt = false ∧ s.osz = .w16) ∧ segFault s.mode .ss s.seg.ss s.sp 4 .read = none ∧
      segFault s.mode .ss s.seg.ss s.sp 10 .read = none ∧ (∀ k ∈ [0, 2, 4, 6, 8], Allowed s .read .ss (s.stackOff k) 2) ∧
      s.loaded .ss (s.stackOff 2) 2 = 0x2B ∧ s.cpl < selRpl 0x2B ∧ ReturnCode s 0x2B 3 0x2128 d ∧ s.loaded .ss (s.stackOff 8) 2 = 0x33 ∧
      ReturnStack s 0x33 3 0x2130 f ∧ (s.loaded .ss (s.stackOff 0) 2).toNat ≤ d.limit.toNat ∧
      setAccessed ⟨0x2128, d⟩ s = .ok () s ∧ setAccessed ⟨0x2130, f⟩ s = .ok () s) ∧
    (let s := withMem (user false) [(0x21000, [0x00, 0x04, 0x08, 0x00])];
      s.mode = .prot ∧ s.flags.nt = false ∧ Allowed s .read .ss (s.stackOff 2) 2 ∧ s.loaded .ss (s.stackOff 2) 2 = 8 ∧ selRpl 8 < s.cpl) ∧
    (let s := { user false with gpr := { real.gpr with esp := 0xFFFD } };
      s.mode = .prot ∧ s.flags.nt = false ∧ segFault s.mode .ss s.seg.ss s.sp 4 .read = some (Exc.ss 0)) :=
  ⟨by and_intros <;> first | rfl | decide +kernel, by decide +kernel, by decide +kernel⟩

theorem witness_ProtectedInterruptReturn_v86 :
    let s := withMem (prot true) [(0x21008, [0x02, 0, 0x02, 0])]
    s.mode = .prot ∧ s.flags.nt = false ∧ s.osz = .w32 ∧ s.cpl = 0 ∧ (s.loaded .ss (s.stackOff 8) 4).getLsbD 17 = true ∧
    segFault s.mode .ss s.seg.ss s.sp 6 .read = none ∧ segFault s.mode .ss s.seg.ss s.sp 36 .read = none ∧
    (∀ k ∈ [0, 8, 12], Allowed s .read .ss (s.stackOff k) 4) ∧
    (∀ k ∈ [4, 16, 20, 24, 28, 32], Allowed s .read .ss (s.stackOff k) 2) := by decide +kernel

/-- IRET with NT 1: back links to the busy TSS, to an available one, past the table; a switch that completes, one whose EIP is
past the new limit, and one that fails. -/
theorem witness_ProtectedInterruptReturn_task :
    let s := withMem { prot false with flags := { Flags.reset with nt := true } }
      [(0x2300, [0x40, 0]), (0x2448, [0x10, 0, 0, 0, 0x08, 0, 0, 0, 0x10])]
    let d : Desc := ⟨0x24000067, 0x00008B00⟩
    let go := switchTasks ⟨0x2140, d⟩ 0x40 .iret s.eip
    (s.mode = .prot ∧ s.flags.nt = true ∧ peek s s.tr.base 2 = some 0x40 ∧ selTi 0x40 = false ∧ s.descAddr 0x40 = some 0x2140 ∧
      peekDesc s 0x2140 = some d ∧ d.isBusyTss = true ∧ d.p = true) ∧
    (match go s with | .ok _ t => !decide (t.seg.cs.limit.toNat < t.eip.toNat) | .error _ _ => false) = true ∧
    (match go (withMem s [(0x2422, [1, 0])]) with | .ok _ t => decide (t.seg.cs.limit.toNat < t.eip.toNat) | .error _ _ => false) = true ∧
    raised go (withMem s [(0x244C, [0, 0])]) = some { Exc.ts 0 with inNewTask := true } ∧
    ((⟨0x2500002B, 0x00008100⟩ : Desc).isBusyTss = false ∧ (⟨0x24000067, 0x00000B00⟩ : Desc).p = false) ∧
    (peek (withMem s [(0x2300, [0x58, 0])]) s.tr.base 2 = some 0x58 ∧ s.descAddr 0x58 = none) := by decide +kernel

/-- The task switch of `test_task_switch`, by JMP and nested, one to an 80286 TSS, and TSSs one byte too small. -/
theorem witness_TaskSwitchEffects :
    let s := { withMem (prot false) [(0x2348, [0x10, 0, 0, 0, 0x08, 0, 0, 0, 0x10]), (0x2524, [8, 0, 0x10, 0])] with
      tr := { sel := 0x40, base := 0x2400, limit := 0x67, is386 := true } }
    (∃ t, switchTasks ⟨0x2120, ⟨0x23000067, 0x00008900⟩⟩ 0x20 .jmp 0x300 s = .ok () t) ∧
    ((∃ t, switchTasks ⟨0x2120, ⟨0x23000067, 0x00008900⟩⟩ 0x20 .nest 0x300 s = .ok () t) ∧ (s.pe && s.pg) = false ∧
      Memory.wf s.mem = true) ∧
    (∃ t, switchTasks ⟨0x2148, ⟨0x2500002B, 0x00008100⟩⟩ 0x48 .nest 0x300 s = .ok () t) ∧
    ((⟨0x23000066, 0x00008900⟩ : Desc).is386 = true ∧ (⟨0x23000066, 0x00008900⟩ : Desc).limit.toNat < 0x67) ∧
    ((⟨0x2500002A, 0x00008100⟩ : Desc).is386 = false ∧ (⟨0x2500002A, 0x00008100⟩ : Desc).limit.toNat < 0x2B) :=
  ⟨exists_ok (by decide +kernel), ⟨exists_ok (by decide +kernel), by decide +kernel, by decide +kernel⟩,
    exists_ok (by decide +kernel), by decide +kernel, by decide +kernel⟩

/-- Far transfers to tasks: a task gate of level 3 and one of level 0 for level 3, the TSS that it names, the busy one, one that
is not present, and the descriptor of an LDT. -/
theorem witness_TaskSwitchEffects_far :
    let s := withMem (prot false) [(0x2148, [0, 0, 0x20, 0, 0, 0xE5, 0, 0])]
    let g : Desc := ⟨0x00200000, 0x0000E500⟩
    let d : Desc := ⟨0x23000067, 0x00008900⟩
    let l : Desc := ⟨0x2200000F, 0x00008200⟩
    (s.mode = .prot ∧ farForm s (.jmpFarPtr 0 0x48) = some (false, 0x48, 0) ∧ selNull 0x48 = false ∧
      s.descAddr 0x48 = some 0x2148 ∧ peekDesc s 0x2148 = some g ∧ g.isSystem 5 = true ∧ s.cpl ≤ g.dpl ∧ selRpl 0x48 ≤ g.dpl ∧
      g.p = true ∧ selTi g.gateSelector = false ∧ s.descAddr g.gateSelector = some 0x2120 ∧ peekDesc s 0x2120 = some d ∧
      d.isAvailableTss = true ∧ d.p = true) ∧
    ((⟨0x00200000, 0x00008500⟩ : Desc).dpl < (user false).cpl ∧ (⟨0x00200000, 0x00006500⟩ : Desc).p = false ∧
      selTi (⟨0x00240000, 0x0000E500⟩ : Desc).gateSelector = true) ∧
    (farForm s (.callFarPtr 0 0x20) = some (true, 0x20, 0) ∧ selTi 0x20 = false ∧ s.cpl ≤ d.dpl ∧ selRpl 0x20 ≤ d.dpl) ∧
    (peekDesc s 0x2140 = some ⟨0x24000067, 0x00008B00⟩ ∧ (⟨0x24000067, 0x00008B00⟩ : Desc).isBusyTss = true ∧
      (⟨0x24000067, 0x00008B00⟩ : Desc).isAvailableTss = false ∧ (⟨0x23000067, 0x00000900⟩ : Desc).p = false) ∧
    (peekDesc s 0x2118 = some l ∧ l.isCode = false ∧ ∀ t ∈ [4, 12, 5, 1, 9, 3, 11], l.isSystem t = false) := by decide +kernel

theorem witness_SelectorChecksResult :
    let s := prot false
    (∃ f, probeForm s (.verr (.reg .ebx)) = some (.word, .reg .ebx, f)) ∧ s.mode = .prot ∧ Readable s .word (locV s (.reg .ebx)) ∧
    (selNull ((s.value .word (locV s (.reg .ebx))).extractLsb' 0 16) = true) ∧ s.descAddr 0x58 = none ∧
    (selNull 0x10 = false ∧ s.descAddr 0x10 = some 0x2110 ∧ peekDesc s 0x2110 = some ⟨0x0000FFFF, 0x00009302⟩) ∧
    Writable s .word (locV s (.reg .eax)) :=
  ⟨⟨_, rfl⟩, by decide +kernel, trivial, by decide +kernel, by decide +kernel, by decide +kernel, trivial⟩

theorem witness_DescriptorTableRegisters :
    segFault real.mode .ds (real.sreg .ds) 0xFFFA 6 .read = none ∧ Allowed real .read .ds 0xFFFA 2 ∧
    Allowed real .read .ds (0xFFFA + 2) 4 ∧ (real.pe = false ∨ real.cpl = 0) ∧
    segFault real.mode .ds (real.sreg .ds) 0xFFFA 6 .write = none ∧ Allowed real .write .ds 0xFFFA 2 ∧
    Allowed (real.storedAt .ds 0xFFFA 2 (real.gdtr.limit.setWidth 32)) .write .ds (0xFFFA + 2) 4 := by decide +kernel

/-- An LDT, an available and a busy TSS, an LDT selector, and a selector past the table. -/
theorem witness_LocalTableAndTaskRegisters :
    let s := prot false
    let d : Desc := ⟨0x2200000F, 0x00008200⟩
    let t : Desc := ⟨0x23000067, 0x00008900⟩
    let b : Desc := ⟨0x24000067, 0x00008B00⟩
    (s.mode = .prot ∧ s.cpl = 0 ∧ selNull 0 = true ∧ selTi 0x14 = true ∧ s.descAddr 0x58 = none) ∧
    (s.descAddr 0x18 = some 0x2118 ∧ peekDesc s 0x2118 = some d ∧ d.isSystem 2 = true ∧ d.p = true ∧ d.isAvailableTss = false) ∧
    (s.descAddr 0x20 = some 0x2120 ∧ peekDesc s 0x2120 = some t ∧ t.isAvailableTss = true ∧ t.p = true ∧ t.isSystem 2 = false) ∧
    (s.descAddr 0x40 = some 0x2140 ∧ peekDesc s 0x2140 = some b ∧ b.isAvailableTss = false) := by decide +kernel

theorem witness_LocalTableAndTaskRegisters_operand :
    let s := prot false
    Writable s .word (locV s (.reg .eax)) ∧ Readable s .word (locV s (.reg .eax)) ∧
    (∃ u, changeAccessRights 0x2120 (fun b => b ||| 2#8) s = .ok () u) ∧
    peek s (0x2120 + 5) 1 = some 0x89 ∧ translate .write false (0x2120 + 5) s = .ok 0x2125 s :=
  ⟨trivial, trivial, exists_ok (by decide +kernel), by decide +kernel, rfl⟩

theorem witness_SpecialRegisterMoves :
    (real.pe = false ∨ real.cpl = 0) ∧ Readable real .word (locV real (.reg .eax)) ∧ Writable real .word (locV real (.reg .eax)) ∧
    ∃ f, specialForm (.movCrRd .cr0 .eax) = some f := ⟨by decide +kernel, trivial, trivial, _, rfl⟩

theorem witness_PrivilegeAndModeFaults :
    isPrivileged .clts = true ∧ (user false).pe = true ∧ (user false).cpl ≠ 0 ∧ (user false).mode = .prot ∧
    isProtectedOnly (.arpl (.reg .eax) .ebx) = true ∧ (v86 3).mode ≠ .prot := by decide +kernel

theorem witness_UserCodeKeepsSystemRegisters :
    (user false).pe = true ∧ (user false).cpl ≠ 0 ∧ ∃ t, exec .int3 (user false) = .next t :=
  ⟨by decide +kernel, by decide +kernel, exists_next (by decide +kernel)⟩

theorem witness_CoprocessorEscapeOutcome :
    (({ real with cr0 := 4 }).em || ({ real with cr0 := 4 }).ts) = true ∧ (real.em || real.ts) = false ∧ real.pins.error = false ∧
    ({ real with pins := { Pins.idle with error := true } }).pins.error = true := by decide +kernel

theorem witness_PrefixEffects :
    (∃ f, prefixForm .lock = some f) ∧ lockable .nop = false ∧
    (let s := { real with pfx := { Prefixes.empty with rep := some .repne } };
      s.pfx.rep = some .repne ∧ repeatable .repne .movsb = false) ∧
    (let s := { v86 2 with pfx := { Prefixes.empty with lock := true } };
      s.pfx.lock = true ∧ lockable (.xchgRmvRv (.mem (.a16 none 0)) .eax) = true ∧ s.pfx.rep = none ∧ s.mode = .v86 ∧ s.flags.iopl < 3) ∧
    real.pfx.lock = false :=
  ⟨⟨_, rfl⟩, by decide +kernel, by decide +kernel, by decide +kernel, by decide +kernel⟩

end Sys2Proof.Tests
end

section
/-!
PROOFS. The invariant at reset (00_scope.md R2, 10_state.md R41, 20_memory.md R83): memory that lists no byte is canonical,
and a machine with VM clear at CPL 0 has a legal mode.
-/
namespace Sys2Proof.Machine

/-- Memory that lists no byte is in canonical form. -/
@[simp] theorem Memory.wf_nil : Memory.wf [] = true := rfl

/-- VM clear and CPL 0, as real-address mode has them, are legal whatever PE is (R2, R41). -/
theorem State.legalMode_of_vm_clear_of_cpl_zero {s : State} (hvm : s.flags.vm = false) (hcpl : s.cpl = 0) :
    s.legalMode = true := by
  simp [State.legalMode, hvm, hcpl]

/-- Settles O4: memory lists no byte at reset, and EFLAGS at reset has VM clear beside CPL 0. -/
theorem resetMeetsInvariant : Obligations.ResetMeetsInvariant := by
  unfold Obligations.ResetMeetsInvariant
  have hmem : State.reset.mem = [] := rfl
  have hvm : State.reset.flags.vm = false := rfl
  have hcpl : State.reset.cpl = 0 := rfl
  exact ⟨hmem ▸ Memory.wf_nil, State.legalMode_of_vm_clear_of_cpl_zero hvm hcpl⟩

end Sys2Proof.Machine
end

section
/-!
PROOFS. Memory and the checks of an access (20_memory.md R80 to R104, R118): where the bytes of an access lie with paging off,
what a store and a load of several bytes do, and when a segment refuses an access.
-/
namespace Sys2Proof.Machine

/-! ### Physical addresses with paging off (R100, R118) -/

/-- With paging off a linear address is the physical one (R118). -/
theorem translate_of_unpaged {s : State} (h : (s.pe && s.pg) = false) (k : AccessKind) (u : Bool) (lin : DWord) :
    translate k u lin s = .ok lin s := by
  simp [translate, h]

/-- `n` consecutive addresses, modulo 2^32. -/
def consecutive (lin : DWord) (n : Nat) : List DWord := (List.range n).map fun j => lin + BitVec.ofNat 32 j

@[simp] theorem consecutive_zero (lin : DWord) : consecutive lin 0 = [] := rfl

theorem consecutive_succ (lin : DWord) (n : Nat) : consecutive lin (n + 1) = lin :: consecutive (lin + 1) n := by
  simp [consecutive, List.range_succ_eq_map, Function.comp_def, BitVec.add_assoc, BitVec.add_comm 1#32, BitVec.ofNat_add]

@[simp] theorem consecutive_length (lin : DWord) (n : Nat) : (consecutive lin n).length = n := by simp [consecutive]

@[simp] theorem consecutive_getElem (lin : DWord) (n j : Nat) (h : j < (consecutive lin n).length) :
    (consecutive lin n)[j] = lin + BitVec.ofNat 32 j := by
  simp [consecutive]

/-- Up to 2^32 consecutive addresses are all different. -/
theorem consecutive_nodup (lin : DWord) {n : Nat} (h : n ≤ 4294967296) : (consecutive lin n).Nodup := by
  refine List.pairwise_map.mpr (List.Pairwise.imp_of_mem (fun {i j} hi hj hne hij => hne ?_) (List.nodup_range (n := n)))
  have hi := List.mem_range.mp hi
  have hj := List.mem_range.mp hj
  have hval := congrArg BitVec.toNat ((BitVec.add_right_inj lin).mp hij)
  simp only [BitVec.toNat_ofNat] at hval
  omega

/-- With paging off an access reaches consecutive addresses (R100). -/
theorem translateRange_of_unpaged {s : State} (h : (s.pe && s.pg) = false) (k : AccessKind) (u : Bool) (n : Nat) (lin : DWord) :
    translateRange k u n lin s = .ok (consecutive lin n) s := by
  induction n generalizing lin with
  | zero => rfl
  | succ n ih => rw [translateRange, bind_of_ok (translate_of_unpaged h k u lin), bind_of_ok (ih (lin + 1)), consecutive_succ]; rfl

theorem range_of_unpaged {s : State} (h : (s.pe && s.pg) = false) (k : AccessKind) (seg : SReg) (off : DWord) (n : Nat) :
    s.range k seg off n = some (consecutive (s.linear seg off) n) := by
  simp [State.range, translateRange_of_unpaged h]

/-- With paging off a read answers the bytes at consecutive addresses (R80, R100). -/
theorem linReadAs_of_unpaged {s : State} (h : (s.pe && s.pg) = false) (u : Bool) (lin : DWord) (n : Nat) :
    linReadAs u lin n s = .ok (valueOf (Memory.readAll s.mem (consecutive lin n))) s :=
  bind_of_ok (translateRange_of_unpaged h .read u n lin)

/-! ### The bytes of a value (R80) -/

theorem byteOf_zero (v : DWord) : byteOf v 0 = v.setWidth 8 := by simp [byteOf]

theorem byteOf_succ (v : DWord) (j : Nat) : byteOf v (j + 1) = byteOf (v >>> 8) j := by
  simp [byteOf, BitVec.shiftRight_add, Nat.mul_add, Nat.add_comm (8 * j)]

/-- A value of one byte. -/
theorem valueOf_singleton (b : Byte) : valueOf [b] = b.setWidth 32 := by simp [valueOf]

/-- A value of two bytes, the low-order one first. -/
theorem valueOf_pair_toNat (lo hi : Byte) : (valueOf [lo, hi]).toNat = lo.toNat + 256 * hi.toNat := by
  have hlt : hi.toNat * 2 ^ 8 < 2 ^ 32 := by have := hi.isLt; omega
  rw [valueOf, valueOf_singleton, BitVec.toNat_or, BitVec.toNat_shiftLeft, BitVec.toNat_setWidth_of_le (by decide),
    BitVec.toNat_setWidth_of_le (by decide), Nat.shiftLeft_eq, Nat.mod_eq_of_lt hlt, Nat.or_comm, ← Nat.shiftLeft_eq,
    ← Nat.shiftLeft_add_eq_or_of_lt lo.isLt, Nat.shiftLeft_eq]
  omega

/-- The value of the first `n` bytes of a value has the low `8 * n` bits of it. -/
theorem getLsbD_valueOf_bytes (v : DWord) (n i : Nat) :
    (valueOf ((List.range n).map (byteOf v))).getLsbD i = (decide (i < 8 * n) && v.getLsbD i) := by
  induction n generalizing v i with
  | zero => simp [valueOf]
  | succ n ih =>
    have htail : (List.range n).map (byteOf v ∘ Nat.succ) = (List.range n).map (byteOf (v >>> 8)) :=
      List.map_congr_left fun j _ => byteOf_succ v j
    rw [List.range_succ_eq_map, List.map_cons, List.map_map, htail, valueOf, BitVec.getLsbD_or, BitVec.getLsbD_shiftLeft, ih,
      byteOf_zero]
    by_cases hi : i < 32
    · by_cases h8 : i < 8
      · have : i < 8 * (n + 1) := by omega
        simp [h8, hi, this]
      · have hsub : 8 + (i - 8) = i := by omega
        have hlt : i - 8 < 8 * n ↔ i < 8 * (n + 1) := by omega
        simp [h8, hi, hsub, hlt]
    · simp [hi, BitVec.getLsbD_of_ge v i (by omega)]

/-- The value of its first byte, word or doubleword is a value cut to that size. -/
theorem valueOf_bytes_eq_cut (v : DWord) {n : Nat} (h : n = 1 ∨ n = 2 ∨ n = 4) :
    valueOf ((List.range n).map (byteOf v)) = if n = 1 then v &&& 0xFF#32 else if n = 2 then v &&& 0xFFFF#32 else v := by
  have mask8 : ∀ i < 32, (0xFF#32).getLsbD i = decide (i < 8) := by decide
  have mask16 : ∀ i < 32, (0xFFFF#32).getLsbD i = decide (i < 16) := by decide
  apply BitVec.eq_of_getLsbD_eq
  intro i hi
  rw [getLsbD_valueOf_bytes]
  rcases h with rfl | rfl | rfl
  · simp [mask8 i hi, Bool.and_comm]
  · simp [mask16 i hi, Bool.and_comm]
  · simp [hi]

/-! ### Stores of several bytes (R80) -/

/-- At different addresses a store leaves byte `j` of the value at address `j`. -/
theorem read_writeAll_getElem {m : List Host.Cell} (hwf : Memory.wf m = true) {addrs : List DWord} (hnd : addrs.Nodup) (v : DWord)
    {j : Nat} (hj : j < addrs.length) : Memory.read (Memory.writeAll m addrs v) addrs[j].toNat = byteOf v j := by
  induction addrs generalizing m v j with
  | nil => simp at hj
  | cons a rest ih =>
    obtain ⟨hnot, hrest⟩ := List.nodup_cons.mp hnd
    cases j with
    | zero =>
      have hother : ∀ b ∈ rest, a.toNat ≠ b.toNat := fun b hb he => hnot (BitVec.eq_of_toNat_eq he ▸ hb)
      rw [Memory.writeAll, List.getElem_cons_zero, read_writeAll_other _ _ _ _ hother, read_write_same _ _ _ hwf, byteOf_zero]
    | succ j =>
      rw [Memory.writeAll, List.getElem_cons_succ, ih (write_wf m a _ hwf) hrest, byteOf_succ]

/-- The bytes at the addresses of a store are then the bytes of the value. -/
theorem readAll_writeAll {m : List Host.Cell} (hwf : Memory.wf m = true) {addrs : List DWord} (hnd : addrs.Nodup) (v : DWord) :
    Memory.readAll (Memory.writeAll m addrs v) addrs = (List.range addrs.length).map (byteOf v) := by
  apply List.ext_getElem (by simp [Memory.readAll])
  intro j hj _
  have hj : j < addrs.length := by simpa [Memory.readAll] using hj
  simp [Memory.readAll, read_writeAll_getElem hwf hnd v hj]

/-- A store changes no byte outside its addresses. -/
theorem storedAt_onlyBytes (s : State) (seg : SReg) (off : DWord) (n : Nat) (v : DWord) :
    OnlyBytes ((s.range .write seg off n).getD []) s (s.storedAt seg off n v) :=
  fun a ha => read_writeAll_other s.mem _ v a ha

/-- A store keeps memory canonical. -/
theorem storedAt_wf {s : State} (h : Memory.wf s.mem = true) (seg : SReg) (off : DWord) (n : Nat) (v : DWord) :
    Memory.wf (s.storedAt seg off n v).mem = true :=
  writeAll_wf s.mem _ v h

/-- With paging off a store writes at consecutive addresses. -/
theorem storedAt_mem_of_unpaged {s : State} (h : (s.pe && s.pg) = false) (seg : SReg) (off : DWord) (n : Nat) (v : DWord) :
    (s.storedAt seg off n v).mem = Memory.writeAll s.mem (consecutive (s.linear seg off) n) v := by
  simp [State.storedAt, range_of_unpaged h]

/-- With paging off the byte at address `j` of a store is byte `j` of the value. -/
theorem read_storedAt {s : State} (h : (s.pe && s.pg) = false) (hwf : Memory.wf s.mem = true) (seg : SReg) (off : DWord) {n : Nat}
    (hn : n ≤ 4294967296) (v : DWord) {j : Nat} (hj : j < n) :
    Memory.read (s.storedAt seg off n v).mem (s.linear seg off + BitVec.ofNat 32 j).toNat = byteOf v j := by
  have hlen : j < (consecutive (s.linear seg off) n).length := by simpa using hj
  rw [storedAt_mem_of_unpaged h, ← consecutive_getElem _ n j hlen]
  exact read_writeAll_getElem hwf (consecutive_nodup _ hn) v hlen

/-- With paging off a load of the bytes that were stored answers them. -/
theorem loaded_storedAt {s : State} (h : (s.pe && s.pg) = false) (hwf : Memory.wf s.mem = true) (seg : SReg) (off : DWord) {n : Nat}
    (hn : n ≤ 4294967296) (v : DWord) : (s.storedAt seg off n v).loaded seg off n = valueOf ((List.range n).map (byteOf v)) := by
  have hunpaged : ((s.storedAt seg off n v).pe && (s.storedAt seg off n v).pg) = false := h
  have hlin : (s.storedAt seg off n v).linear seg off = s.linear seg off := rfl
  rw [State.loaded, range_of_unpaged hunpaged, hlin, storedAt_mem_of_unpaged h, Option.getD_some,
    readAll_writeAll hwf (consecutive_nodup _ hn), consecutive_length]

/-- Settles O9: a store writes one byte after another, each at an address that the others leave alone. -/
theorem memoryStoreBytes : Obligations.MemoryStoreBytes := by
  unfold Obligations.MemoryStoreBytes
  intro s seg off n v
  refine ⟨storedAt_onlyBytes s seg off n v, fun hwf => storedAt_wf hwf seg off n v, fun hunpaged => ?_⟩
  refine ⟨fun k => range_of_unpaged hunpaged k seg off n, fun hwf hsize => ?_⟩
  have hn : n ≤ 4294967296 := by omega
  refine ⟨fun j hj => read_storedAt hunpaged hwf seg off hn v hj, ?_⟩
  rw [loaded_storedAt hunpaged hwf seg off hn, valueOf_bytes_eq_cut v hsize]

/-! ### The check of an access through a segment register (R101 to R104) -/

/-- The limit check passes up to the limit of a segment that expands up, and above the limit and below the top of one that
expands down (R104 step 2). -/
theorem SegReg.inLimit_iff (g : SegReg) (off : DWord) (n : Nat) :
    g.inLimit off n = true ↔
      (g.isExpandDown = false ∧ off.toNat + n - 1 ≤ g.limit.toNat) ∨
      (g.isExpandDown = true ∧ g.limit.toNat < off.toNat ∧ off.toNat + n - 1 ≤ if g.db then 0xFFFFFFFF else 0xFFFF) := by
  unfold SegReg.inLimit
  cases g.isExpandDown <;> simp

section
variable {g : SegReg} {off : DWord} {n : Nat} (r : SReg) (k : AccessKind)

/-- In V86 mode only offsets past 0FFFFH are refused (R102). -/
theorem segFault_v86 (g : SegReg) (off : DWord) (n : Nat) :
    segFault .v86 r g off n k = if off.toNat + n - 1 ≤ 0xFFFF then none else some (segViolation r) := by
  simp [segFault]

/-- In protected mode nothing is reached through a null selector (R104). -/
theorem segFault_prot_of_null (h : g.valid = false) : segFault .prot r g off n k = some (segViolation r) := by
  simp [segFault, h]

/-- Outside the limit every access is refused in protected mode (R104). -/
theorem segFault_prot_of_outside (h : ¬g.inLimit off n = true) : segFault .prot r g off n k = some (segViolation r) := by
  simp [segFault, h]

/-- Inside the limit the rights of the segment decide in protected mode (R104). -/
theorem segFault_prot_of_inside (hv : g.valid = true) (h : g.inLimit off n = true) :
    segFault .prot r g off n k =
      if (k = .write ∧ g.isWritable = false) ∨ (k = .read ∧ g.isReadable = false) then some (Exc.gp 0) else none := by
  cases k <;> simp [segFault, hv, h]

/-- The limit stays in force in real-address mode (R101, R571). -/
theorem segFault_real_of_outside (h : ¬g.inLimit off n = true) : segFault .real r g off n k = some (segViolation r) := by
  simp [segFault, h]

/-- Inside the limit the rights decide in real-address mode too, except through CS (R101, R572, R573). -/
theorem segFault_real_of_inside (h : g.inLimit off n = true) :
    segFault .real r g off n k =
      if r ≠ .cs ∧ ((k = .write ∧ g.isWritable = false) ∨ (k = .read ∧ g.isReadable = false)) then some (segViolation r)
      else none := by
  by_cases hr : r = .cs
  · simp [segFault, h, hr]
  · cases k <;> simp [segFault, h, hr]

end

/-- What the hidden rights of a segment register say (R39, R104). -/
theorem SegReg.rights_iff (g : SegReg) :
    (g.isCode = true ↔ g.s = true ∧ g.type.getLsbD 3 = true) ∧
    (g.isExpandDown = true ↔ g.isCode = false ∧ g.type.getLsbD 2 = true) ∧
    (g.isWritable = true ↔ g.isCode = false ∧ g.type.getLsbD 1 = true) ∧
    (g.isReadable = true ↔ g.isCode = false ∨ g.type.getLsbD 1 = true) := by
  unfold SegReg.isExpandDown SegReg.isWritable SegReg.isReadable
  refine ⟨by simp [SegReg.isCode], ?_⟩
  cases g.isCode <;> simp

/-- With paging on the paging function's answer is the outcome of a translation (R118). -/
theorem translate_of_paged {s : State} (h : (s.pe && s.pg) = true) (k : AccessKind) (u : Bool) (lin : DWord) :
    translate k u lin s = match Config.translate s.cr3 s.mem lin k u with
      | .phys a => .ok a s
      | .pageFault protection upper => .error (Exc.pf (pageFaultCode protection k u upper) lin) s := by
  unfold translate
  exact if_pos h

/-- The fields of a page fault's code, bit by bit (R501). -/
theorem getLsbD_pageFaultCode (protection : Bool) (k : AccessKind) (user : Bool) (upper : BitVec 13) (i : Nat) :
    (pageFaultCode protection k user upper).getLsbD i =
      if i = 0 then protection else if i = 1 then k == .write else if i = 2 then user else upper.getLsbD (i - 3) := by
  change (upper ++ BitVec.ofBool user ++ BitVec.ofBool (k == .write) ++ BitVec.ofBool protection :
    BitVec (13 + 1 + 1 + 1)).getLsbD i = _
  rw [BitVec.getLsbD_append, BitVec.getLsbD_append, BitVec.getLsbD_append]
  match i with
  | 0 | 1 | 2 | i + 3 => simp

/-- Bit 0 says a protection violation, bit 1 a write, bit 2 an access at CPL 3 (R501). -/
theorem pageFaultCode_bits (protection : Bool) (k : AccessKind) (user : Bool) (upper : BitVec 13) :
    (pageFaultCode protection k user upper).getLsbD 0 = protection ∧
    (pageFaultCode protection k user upper).getLsbD 1 = decide (k = .write) ∧
    (pageFaultCode protection k user upper).getLsbD 2 = user ∧ (pageFaultCode protection k user upper).extractLsb' 3 13 = upper := by
  refine ⟨getLsbD_pageFaultCode .., (getLsbD_pageFaultCode ..).trans ?_, getLsbD_pageFaultCode .., ?_⟩
  · cases k <;> rfl
  · apply BitVec.eq_of_getLsbD_eq
    intro i hi
    have hbig : ¬3 + i = 0 ∧ ¬3 + i = 1 ∧ ¬3 + i = 2 := by omega
    simp [getLsbD_pageFaultCode, hi, hbig]

/-- Settles O10: in each mode the limit check decides first and the rights after it. -/
theorem segmentLimitAndRightsChecks : Obligations.SegmentLimitAndRightsChecks := by
  unfold Obligations.SegmentLimitAndRightsChecks
  refine ⟨fun r g off n k _ => ?_, SegReg.rights_iff, fun s k user lin => ?_, pageFaultCode_bits⟩
  · have hin := g.inLimit_iff off n
    refine ⟨segFault_v86 r k g off n, segFault_prot_of_null r k, fun _ hout => ?_, fun hv hins => ?_, fun hout => ?_, fun hins => ?_⟩
    · exact segFault_prot_of_outside r k (mt hin.mp hout)
    · exact segFault_prot_of_inside r k hv (hin.mpr hins)
    · exact segFault_real_of_outside r k (mt hin.mp hout)
    · exact segFault_real_of_inside r k (hin.mpr hins)
  · by_cases h : s.pe = true ∧ s.pg = true
    · exact (translate_of_paged (by simpa using h) k user lin).trans (if_pos h).symm
    · exact (translate_of_unpaged (by simpa using h) k user lin).trans (if_neg h).symm

end Sys2Proof.Machine
end

section
/-!
PROOFS. The I/O permission bit map (20_memory.md R121, R122).
-/
namespace Sys2Proof.Machine

/-! ### The I/O permission bit map -/

/-- With paging off a word of memory is read with its low-order byte first (R80). -/
theorem linRead_word_of_unpaged {s : State} (h : (s.pe && s.pg) = false) (lin : DWord) :
    ∃ w : DWord, linRead lin 2 s = .ok w s ∧
      w.toNat = (Memory.read s.mem lin.toNat).toNat + 256 * (Memory.read s.mem (lin + 1#32).toNat).toNat := by
  refine ⟨_, linReadAs_of_unpaged h false lin 2, ?_⟩
  simp [consecutive_succ, Memory.readAll, valueOf_pair_toNat]

/-- Under the mask of `n` bits from bit `k` on a word is 0 exactly when those bits of it are. -/
theorem and_mask_eq_zero_iff (w : DWord) {n k : Nat} (h : k + n ≤ 32) :
    w &&& BitVec.ofNat 32 ((2 ^ n - 1) * 2 ^ k) = 0#32 ↔ ∀ j < n, w.toNat.testBit (k + j) = false := by
  have hmask : ∀ i < 32, (BitVec.ofNat 32 ((2 ^ n - 1) * 2 ^ k)).getLsbD i = (decide (k ≤ i) && decide (i - k < n)) := by
    intro i hi
    rw [BitVec.getLsbD_ofNat, Nat.testBit_mul_two_pow, Nat.testBit_two_pow_sub_one]
    simp [hi]
  simp only [BitVec.testBit_toNat]
  constructor
  · intro hzero j hj
    have hbit := congrArg (fun x => BitVec.getLsbD x (k + j)) hzero
    simpa [hmask (k + j) (by omega), hj] using hbit
  · intro hbits
    apply BitVec.eq_of_getLsbD_eq
    intro i hi
    rw [BitVec.getLsbD_and, hmask i hi, BitVec.getLsbD_zero]
    by_cases hin : k ≤ i ∧ i - k < n
    · have hbit := hbits (i - k) hin.2
      rw [Nat.add_sub_cancel' hin.1] at hbit
      simp [hbit]
    · simp [← Bool.decide_and, hin]

/-- With paging off, and a map pointer and a map word as memory holds them, the test of the bit map answers whether both bytes of
the word are inside the TSS and the bits of the ports are 0 (R122). -/
theorem ioPermissionBits_of_unpaged {s : State} {port count off : Nat} {ptr word : DWord} (h386 : s.tr.is386 = true)
    (hptr : linRead (s.tr.base + 0x66#32) 2 s = .ok ptr s) (hoff : port / 8 + ptr.toNat = off)
    (hword : linRead (s.tr.base + BitVec.ofNat 32 off) 2 s = .ok word s) (hcount : count ≤ 4) :
    ioPermissionBits port count s =
      .ok (decide (off + 1 ≤ s.tr.limit.toNat ∧ ∀ j < count, word.toNat.testBit (port % 8 + j) = false)) s := by
  subst hoff
  unfold ioPermissionBits
  rw [query_id_bind_run, h386, Bool.not_true, if_neg Bool.false_ne_true, bind_of_ok hptr]
  by_cases hlimit : s.tr.limit.toNat < port / 8 + ptr.toNat + 1
  · simp [hlimit, Nat.not_le.mpr hlimit]
  · have hbits := and_mask_eq_zero_iff word (n := count) (k := port % 8) (by omega)
    simp only [hlimit, if_false, bind_of_ok hword, pure_run, ← hbits, Nat.not_lt.mp hlimit, true_and]
    rfl

/-- Where the bit map is consulted, its answer decides the access (R121). -/
theorem checkIo_of_consulted {s : State} {p : Word} {sz : Size} {ok : Bool}
    (hmode : s.mode = .v86 ∨ (s.mode = .prot ∧ s.flags.iopl < s.cpl)) (hport : p.toNat + sz.bytes ≤ 65536)
    (hbits : ioPermissionBits p.toNat sz.bytes s = .ok ok s) :
    checkIo p sz s = if ok then .ok () s else .error (Exc.gp 0) s := by
  have hconsult : (s.pe && (s.flags.vm || decide (s.flags.iopl < s.cpl))) = true := by
    revert hmode
    unfold State.mode
    cases s.pe <;> cases s.flags.vm <;> simp
  have hperm : ioPermission p sz.bytes s = .ok ok s := by
    rw [ioPermission, if_pos hport, hbits]
  unfold checkIo
  rw [query_id_bind_run, if_pos hconsult, bind_of_ok hperm, raiseIf_run]
  cases ok <;> rfl

/-- Settles O37: the two words that the check reads are the map's pointer and the map's word, and its mask has one bit for each
port of the access. -/
theorem ioPermissionBitMap : Obligations.IoPermissionBitMap := by
  unfold Obligations.IoPermissionBitMap
  intro s p sz hmode h386 hpg hport mapAt mapHi off lo hi bits
  have hunpaged : (s.pe && s.pg) = false := by simp [hpg]
  have hnext : s.tr.base + 0x66#32 + 1#32 = s.tr.base + 0x67#32 := by rw [BitVec.add_assoc]; rfl
  have hcount : sz.bytes ≤ 4 := by cases sz <;> decide
  obtain ⟨ptr, hptr, hptrVal⟩ := linRead_word_of_unpaged hunpaged (s.tr.base + 0x66#32)
  obtain ⟨word, hword, hwordVal⟩ := linRead_word_of_unpaged hunpaged (s.tr.base + BitVec.ofNat 32 off)
  rw [hnext] at hptrVal
  have hoff : p.toNat / 8 + ptr.toNat = off := by rw [hptrVal]
  have hwordBits : word.toNat = bits := hwordVal
  rw [checkIo_of_consulted hmode hport (ioPermissionBits_of_unpaged h386 hptr hoff hword hcount), hwordBits]
  simp only [decide_eq_true_eq]

end Sys2Proof.Machine
end

section
/-!
PROOFS. Selectors, descriptors and the load of a segment register in protected mode (20_memory.md R110 to R117).
-/
namespace Sys2Proof.Machine

open Sys2Proof.Claims

/-! ### The fields of a descriptor (R110, R113, R115) -/

/-- Base 31:24, base 23:16 and base 15:0 (R110). -/
theorem Desc.base_eq (d : Desc) : d.base = d.hi.extractLsb' 24 8 ++ d.hi.extractLsb' 0 8 ++ d.lo.extractLsb' 16 16 := by
  have low8 : ∀ i < 32, (0xFF#32).getLsbD i = decide (i < 8) := by decide
  have high8 : ∀ i < 32, (0xFF000000#32).getLsbD i = decide (24 ≤ i) := by decide
  apply BitVec.eq_of_getLsbD_eq
  intro i hi
  rw [BitVec.getLsbD_append, BitVec.getLsbD_append]
  simp only [Desc.base, BitVec.getLsbD_or, BitVec.getLsbD_ushiftRight, BitVec.getLsbD_shiftLeft, BitVec.getLsbD_and,
    BitVec.getLsbD_extractLsb', high8 i hi, low8 (i - 16) (by omega)]
  by_cases h16 : i < 16
  · have : ¬24 ≤ i := by omega
    simp [h16, this]
  · by_cases h24 : i < 24
    · have : 16 + i ≥ 32 ∧ i - 16 < 8 ∧ ¬24 ≤ i := by omega
      simp [h16, hi, this]
    · have hback : 24 + (i - 16 - 8) = i := by omega
      have : 16 + i ≥ 32 ∧ ¬i - 16 < 8 ∧ 24 ≤ i ∧ i - 16 - 8 < 8 := by omega
      simp [h16, hback, this]

/-- Limit 19:16 and limit 15:0 (R110). -/
theorem Desc.rawLimit_eq (d : Desc) : d.rawLimit = (d.hi.extractLsb' 16 4 ++ d.lo.extractLsb' 0 16).setWidth 32 := by
  have low16 : ∀ i < 32, (0xFFFF#32).getLsbD i = decide (i < 16) := by decide
  have mid4 : ∀ i < 32, (0xF0000#32).getLsbD i = (decide (16 ≤ i) && decide (i < 20)) := by decide
  apply BitVec.eq_of_getLsbD_eq
  intro i hi
  rw [BitVec.getLsbD_setWidth, BitVec.getLsbD_append]
  simp only [Desc.rawLimit, BitVec.getLsbD_or, BitVec.getLsbD_and, BitVec.getLsbD_extractLsb', low16 i hi, mid4 i hi]
  by_cases h16 : i < 16
  · have : ¬16 ≤ i := by omega
    simp [hi, h16, this]
  · have hge : 16 ≤ i ∧ 16 + (i - 16) = i := by omega
    have hlt : i - 16 < 4 ↔ i < 20 := by omega
    simp [hi, h16, hge, hlt, Bool.and_comm]

/-- With the granularity bit set twelve ones follow the limit (R110). -/
theorem shiftLeft_or_ones (x : BitVec 20) : (x.setWidth 32 <<< 12) ||| 0xFFF#32 = x ++ 0xFFF#12 := by
  have low12 : ∀ i < 32, (0xFFF#32).getLsbD i = decide (i < 12) := by decide
  have ones : ∀ i < 12, (0xFFF#12).getLsbD i = true := by decide
  apply BitVec.eq_of_getLsbD_eq
  intro i hi
  rw [BitVec.getLsbD_append, BitVec.getLsbD_or, BitVec.getLsbD_shiftLeft, BitVec.getLsbD_setWidth, low12 i hi]
  by_cases h12 : i < 12
  · simp [h12, ones i h12]
  · simp [h12, hi]
    omega

theorem Desc.limit_eq (d : Desc) :
    d.limit = if d.hi.getLsbD 23 then (d.hi.extractLsb' 16 4 ++ d.lo.extractLsb' 0 16 : BitVec 20) ++ 0xFFF#12
      else (d.hi.extractLsb' 16 4 ++ d.lo.extractLsb' 0 16 : BitVec 20).setWidth 32 := by
  rw [Desc.limit, Desc.rawLimit_eq, Desc.g, shiftLeft_or_ones]

/-- Offset 31:16 of an 80386 gate and offset 15:0 (R115). -/
theorem Desc.gateOffset_eq (d : Desc) :
    d.gateOffset = (if d.is386 then d.hi.extractLsb' 16 16 else 0#16) ++ d.lo.extractLsb' 0 16 := by
  have low16 : ∀ i < 32, (0xFFFF#32).getLsbD i = decide (i < 16) := by decide
  have high16 : ∀ i < 32, (0xFFFF0000#32).getLsbD i = decide (16 ≤ i) := by decide
  apply BitVec.eq_of_getLsbD_eq
  intro i hi
  rw [BitVec.getLsbD_append]
  unfold Desc.gateOffset
  by_cases h16 : i < 16
  · have : ¬16 ≤ i := by omega
    cases d.is386 <;> simp [BitVec.getLsbD_and, BitVec.getLsbD_or, low16 i hi, high16 i hi, h16, this]
  · have : 16 ≤ i ∧ 16 + (i - 16) = i ∧ i - 16 < 16 := by omega
    cases d.is386 <;> simp [BitVec.getLsbD_and, BitVec.getLsbD_or, low16 i hi, high16 i hi, h16, this]

theorem Desc.gateCount_eq (d : Desc) : d.gateCount = (d.hi.extractLsb' 0 5).toNat := by
  have hmask : d.hi.toNat &&& 31 = d.hi.toNat % 2 ^ 5 := Nat.and_two_pow_sub_one_eq_mod _ 5
  simpa [Desc.gateCount] using hmask

/-- The single bits of the access rights (R110, R113). -/
theorem Desc.type_getLsbD (d : Desc) {k : Nat} (h : k < 4) : d.type.getLsbD k = d.hi.getLsbD (8 + k) := by
  simp [Desc.type, h]

theorem Desc.isCode_eq (d : Desc) : d.isCode = (d.hi.getLsbD 12 && d.hi.getLsbD 11) := by
  rw [Desc.isCode, d.type_getLsbD (by decide), Desc.s]

theorem Desc.isData_eq (d : Desc) : d.isData = (d.hi.getLsbD 12 && !d.hi.getLsbD 11) := by
  rw [Desc.isData, d.type_getLsbD (by decide), Desc.s]

/-- What is one of some system types is a system descriptor whose type is among them. -/
theorem Desc.isSystem_iff (d : Desc) (t : BitVec 4) :
    d.isSystem t = true ↔ d.hi.getLsbD 12 = false ∧ d.hi.extractLsb' 8 4 = t := by
  simp [Desc.isSystem, Desc.s, Desc.type]

/-- A descriptor's two doublewords say what R110, R113 and R115 lay down. -/
theorem descriptorFields (d : Desc) : DescriptorFields d := by
  unfold DescriptorFields
  refine ⟨d.base_eq, d.limit_eq, rfl, rfl, d.isCode_eq, ?_, ?_, d.isData_eq, ?_, fun _ => rfl, ?_, ?_, ?_, ?_, ?_, ?_, rfl, ?_,
    d.gateCount_eq, fun _ => rfl⟩
  · rw [Desc.isConforming, d.isCode_eq, d.type_getLsbD (by decide)]
  · rw [Desc.isReadableCode, d.isCode_eq, d.type_getLsbD (by decide)]
  · rw [Desc.isWritableData, d.isData_eq, d.type_getLsbD (by decide)]
  · simp [Desc.isAvailableTss, Desc.isSystem_iff, ← and_or_left]
  · simp [Desc.isBusyTss, Desc.isSystem_iff, ← and_or_left]
  · simp [Desc.isIntOrTrapGate, Desc.isSystem_iff, ← and_or_left, or_assoc]
  · simp [Desc.isInterruptGate, Desc.isSystem_iff, ← and_or_left]
  · exact d.type_getLsbD (by decide)
  · rw [Desc.gateWidth, Desc.is386, d.type_getLsbD (by decide)]
  · rw [d.gateOffset_eq, Desc.is386, d.type_getLsbD (by decide)]

/-! ### Selectors (R111, R112) -/

/-- A selector as an error code is its table and index, the RPL cleared (R112). -/
theorem selCode_eq (sel : Word) : selCode sel = sel.extractLsb' 2 14 ++ 0#2 := by
  have mask : ∀ i < 16, (0xFFFC#16).getLsbD i = decide (2 ≤ i) := by decide
  apply BitVec.eq_of_getLsbD_eq
  intro i hi
  rw [BitVec.getLsbD_append, selCode, BitVec.getLsbD_and, mask i hi]
  by_cases h2 : i < 2
  · have : ¬2 ≤ i := by omega
    simp [h2, this]
  · have : 2 ≤ i ∧ 2 + (i - 2) = i ∧ i - 2 < 14 := by omega
    simp [h2, this]

/-- The null selectors are 0 to 3 (R111). -/
theorem selNull_iff (sel : Word) : selNull sel = true ↔ sel.toNat ≤ 3 := by
  have hcode : (selCode sel).toNat = 4 * (sel.toNat / 4) := by
    have := sel.isLt
    rw [selCode_eq, BitVec.toNat_append, BitVec.extractLsb'_toNat, Nat.shiftRight_eq_div_pow, Nat.shiftLeft_eq]
    simp
    omega
  have hnull : selNull sel = true ↔ selCode sel = 0#16 := by simp [selNull, selCode]
  rw [hnull, ← BitVec.toNat_inj, hcode]
  simp
  omega

/-- A descriptor is at 8 times the selector's index in its table (R111). -/
theorem selOffset_eq (sel : Word) : selOffset sel = 8 * (sel.extractLsb' 3 13).toNat := by
  have := sel.isLt
  rw [selOffset, BitVec.extractLsb'_toNat, Nat.shiftRight_eq_div_pow]
  omega

/-- A selector says what R111 and R112 lay down. -/
theorem selectorFields (s : State) (sel : Word) : SelectorFields s sel := by
  unfold SelectorFields
  refine ⟨rfl, rfl, selNull_iff sel, selCode_eq sel, ?_⟩
  simp only [State.descAddr, selOffset_eq, selTi, Bool.and_eq_true, decide_eq_true_eq]

/-! ### Reads with supervisor privilege -/

/-- What can be peeked at is read, and the read changes nothing. -/
theorem linRead_of_peek {s : State} {lin v : DWord} {n : Nat} (h : peek s lin n = some v) : linRead lin n s = .ok v s := by
  unfold peek at h
  rcases (silent_linRead lin n).cases s with ⟨w, hw⟩ | ⟨e, he⟩
  · rw [hw] at h ⊢
    obtain rfl : w = v := Option.some.inj h
    rfl
  · rw [he] at h
    cases h

/-- A descriptor that can be peeked at is read (R111). -/
theorem readDesc_of_peekDesc {s : State} {a : DWord} {d : Desc} (h : peekDesc s a = some d) : readDesc a s = .ok d s := by
  unfold peekDesc at h
  split at h
  · next lo hi hlo hhi =>
    obtain rfl : Desc.mk lo hi = d := Option.some.inj h
    rw [readDesc, bind_of_ok (linRead_of_peek hlo), bind_of_ok (linRead_of_peek hhi)]
    rfl
  · cases h

/-- What lies at a linear address depends on memory and paging alone. -/
theorem peek_congr {s t : State} (h0 : s.cr0 = t.cr0) (h3 : s.cr3 = t.cr3) (hm : s.mem = t.mem) (lin : DWord) (n : Nat) :
    peek t lin n = peek s lin n := by
  have hcongr := translateRange_congr h0 h3 hm .read false n lin
  unfold peek linRead linReadAs
  rcases (silent_translateRange .read false n lin).cases s with ⟨addrs, ha⟩ | ⟨e, he⟩
  · rw [ha] at hcongr
    rw [bind_of_ok hcongr, bind_of_ok ha, query_run, query_run, hm]
  · rw [he] at hcongr
    rw [bind_of_error hcongr, bind_of_error he]

theorem peekDesc_congr {s t : State} (h0 : s.cr0 = t.cr0) (h3 : s.cr3 = t.cr3) (hm : s.mem = t.mem) (a : DWord) :
    peekDesc t a = peekDesc s a := by
  simp only [peekDesc, peek_congr h0 h3 hm]

/-- The lookup of a selector outside its table raises the exception it is given (R111). -/
theorem lookup_of_outside {s : State} {sel : Word} (h : s.descAddr sel = none) (e : Exc) : lookup sel e s = .error e s := by
  rw [lookup, query_bind_run, h]
  rfl

/-- The lookup of a selector inside its table answers its descriptor (R111). -/
theorem lookup_of_found {s : State} {sel : Word} {a : DWord} {d : Desc} (ha : s.descAddr sel = some a) (hd : peekDesc s a = some d)
    (e : Exc) : lookup sel e s = .ok ⟨a, d⟩ s := by
  rw [lookup, query_bind_run, ha]
  exact bind_of_ok (readDesc_of_peekDesc hd)

/-! ### The accessed bit (R117) -/

/-- An accessed bit that is set stays as it is. -/
theorem setAccessed_of_accessed {f : Found} (h : f.desc.hi.getLsbD 8 = true) (s : State) : setAccessed f s = .ok () s := by
  rw [setAccessed, f.desc.type_getLsbD (by decide), if_pos h]
  rfl

/-- One that is clear is set in the access-rights byte. -/
theorem setAccessed_of_not_accessed {f : Found} (h : ¬f.desc.hi.getLsbD 8 = true) (s : State) :
    setAccessed f s = changeAccessRights f.addr (fun b => b ||| 0x01#8) s := by
  rw [setAccessed, f.desc.type_getLsbD (by decide), if_neg h]

/-- With paging off a byte of memory is read at its linear address. -/
theorem peek_byte_of_unpaged {s : State} (h : (s.pe && s.pg) = false) (lin : DWord) :
    peek s lin 1 = some ((Memory.read s.mem lin.toNat).setWidth 32) := by
  rw [peek, linRead, linReadAs_of_unpaged h]
  simp [consecutive_succ, Memory.readAll, valueOf_singleton]

/-- A change of an access-rights byte changes that byte as it says and nothing else (R115, R117). -/
theorem rightsChanged_changeAccessRights (s : State) (addr : DWord) (change : Byte → Byte) :
    RightsChanged s addr change (changeAccessRights addr change s) := by
  unfold RightsChanged
  intro b x hb hx
  refine ⟨changeAccessRights_of_reachable change (linRead_of_peek hb) hx, fun a ha => ?_, fun hwf => ?_, fun hunpaged => ⟨?_, ?_⟩⟩
  · exact read_write_other s.mem _ _ _ (ha x List.mem_cons_self)
  · exact read_write_same s.mem _ _ hwf
  · rw [translate_of_unpaged hunpaged] at hx
    cases hx
    rfl
  · rw [peek_byte_of_unpaged hunpaged] at hb
    obtain rfl := Option.some.inj hb
    simp

/-! ### The load of a segment register in protected mode (R117) -/

/-- The tests that a descriptor must pass to be loaded, other than the one of its present bit: for SS writable data of DPL and
RPL equal to CPL, otherwise data or readable code that the privilege level may use (R117). -/
abbrev SegLoadable (s : State) (r : SReg) (sel : Word) (d : Desc) : Prop :=
  if r = .ss then selRpl sel = s.cpl ∧ d.isWritableData = true ∧ d.dpl = s.cpl
  else (d.isData || d.isReadableCode) = true ∧ (d.isConforming = true ∨ (selRpl sel ≤ d.dpl ∧ s.cpl ≤ d.dpl))

/-- The exception of a segment that is not present (R117). -/
def notPresent (r : SReg) (sel : Word) : Exc := if r = .ss then Exc.ss (selCode sel) else Exc.np (selCode sel)

/-- Two tests that raise the same exception are one test. -/
theorem raiseIf_twice_bind_run {α : Type} (c c' : Bool) (e : Exc) (f : Unit → Op α) (s : State) :
    (raiseIf c e >>= fun _ => raiseIf c' e >>= f) s = (raiseIf (c || c') e >>= f) s := by
  rw [raiseIf_bind_run]
  cases c
  · rfl
  · exact (raiseIf_true_bind_run e f s).symm

theorem dataPrivilegeOk_iff (d : Desc) (sel : Word) (cpl : BitVec 2) :
    dataPrivilegeOk d sel cpl = true ↔ d.isConforming = true ∨ (selRpl sel ≤ d.dpl ∧ cpl ≤ d.dpl) := by
  simp [dataPrivilegeOk]

theorem loadSeg_of_prot {s : State} (h : s.mode = .prot) (r : SReg) (sel : Word) : loadSeg r sel s = loadSegProt r sel s := by
  rw [loadSeg, query_bind_run, h]

section
variable {s : State} {r : SReg} {sel : Word}

/-- A null selector faults for SS and makes any other register unusable (R117). -/
theorem loadSegProt_of_null (h : selNull sel = true) :
    loadSegProt r sel s = if r = .ss then .error (Exc.gp 0) s
      else .ok () (s.setSreg r { s.sreg r with sel := sel, valid := false }) := by
  rw [loadSegProt, query_id_bind_run, h]
  by_cases hr : r = .ss
  · rw [if_pos hr, if_pos hr, raiseIf_true_bind_run]
  · rw [if_neg hr, if_neg hr, if_pos rfl, update_run]

/-- A selector outside its table faults (R117). -/
theorem loadSegProt_of_outside (h : selNull sel = false) (hout : s.descAddr sel = none) :
    loadSegProt r sel s = .error (Exc.gp (selCode sel)) s := by
  have hlookup := lookup_of_outside hout (Exc.gp (selCode sel))
  rw [loadSegProt, query_id_bind_run, h]
  by_cases hr : r = .ss
  · rw [if_pos hr, raiseIf_false_bind_run, bind_of_error hlookup]
  · rw [if_neg hr, if_neg Bool.false_ne_true, bind_of_error hlookup]

variable {a : DWord} {d : Desc} (h : selNull sel = false) (ha : s.descAddr sel = some a) (hd : peekDesc s a = some d)
include h ha hd

/-- What becomes of the load once the descriptor is found: the tests, then the present bit, then the accessed bit and the
register (R117). -/
theorem loadSegProt_of_found :
    loadSegProt r sel s =
      if ¬SegLoadable s r sel d then .error (Exc.gp (selCode sel)) s
      else if d.p = false then .error (notPresent r sel) s
      else (setAccessed ⟨a, d⟩ >>= fun _ => update fun s => s.setSreg r (d.toSeg sel)) s := by
  have hlookup := lookup_of_found ha hd (Exc.gp (selCode sel))
  rw [loadSegProt, query_id_bind_run, h]
  by_cases hr : r = .ss
  · have htests : ((selRpl sel != s.cpl) || (!d.isWritableData) || (d.dpl != s.cpl)) = !decide (SegLoadable s r sel d) := by
      change (!decide (selRpl sel = s.cpl) || !d.isWritableData || !decide (d.dpl = s.cpl)) = _
      simp only [SegLoadable, if_pos hr, Bool.decide_and, Bool.not_and, Bool.decide_eq_true, Bool.or_assoc]
    have hexc : notPresent r sel = Exc.ss (selCode sel) := if_pos hr
    rw [if_pos hr, raiseIf_false_bind_run, bind_of_ok hlookup, raiseIf_twice_bind_run, raiseIf_twice_bind_run, htests, hexc, hr,
      raiseIf_bind_run, raiseIf_bind_run]
    simp only [Bool.not_eq_true', decide_eq_false_iff_not]
  · have htests : ((!(d.isData || d.isReadableCode)) || !dataPrivilegeOk d sel s.cpl) = !decide (SegLoadable s r sel d) := by
      simp only [SegLoadable, if_neg hr, ← dataPrivilegeOk_iff, Bool.decide_and, Bool.not_and, Bool.decide_eq_true]
    have hexc : notPresent r sel = Exc.np (selCode sel) := if_neg hr
    rw [if_neg hr, if_neg Bool.false_ne_true, bind_of_ok hlookup, raiseIf_twice_bind_run, htests, hexc, raiseIf_bind_run,
      raiseIf_bind_run]
    simp only [Bool.not_eq_true', decide_eq_false_iff_not]

/-- A test that the descriptor fails faults with the selector (R117). -/
theorem loadSegProt_of_refused (hno : ¬SegLoadable s r sel d) : loadSegProt r sel s = .error (Exc.gp (selCode sel)) s := by
  rw [loadSegProt_of_found h ha hd, if_pos hno]

/-- A segment that is not present faults once the tests are passed (R117). -/
theorem loadSegProt_of_absent (hyes : SegLoadable s r sel d) (hp : d.p = false) :
    loadSegProt r sel s = .error (notPresent r sel) s := by
  rw [loadSegProt_of_found h ha hd, if_neg (not_not_intro hyes), if_pos hp]

/-- A segment that is present is loaded once its accessed bit is set (R117). -/
theorem loadSegProt_of_present (hyes : SegLoadable s r sel d) (hp : d.p = true) {u : State} (hu : setAccessed ⟨a, d⟩ s = .ok () u) :
    loadSegProt r sel s = .ok () (u.setSreg r (d.toSeg sel)) := by
  rw [loadSegProt_of_found h ha hd, if_neg (not_not_intro hyes), if_neg (by simp [hp]), bind_of_ok hu, update_run]

end

/-! ### The instructions that load a segment register -/

/-- An instruction that, from the state `p` which its pops leave, loads a segment register and then does `fin`, does what R117
says. -/
theorem segLoad_of_run {x : Op Unit} {s p : State} {sr : SReg} {sel : Word} {fin : State → State}
    (hx : x s = (loadSeg sr sel >>= fun _ => update fin) p) (hp : p = { s with gpr := p.gpr }) (hmode : s.mode = .prot) :
    SegLoad s p sr sel fin (instr x s) := by
  have hcpl : p.cpl = s.cpl := by rw [hp]
  have haddr : p.descAddr sel = s.descAddr sel := by rw [hp]; rfl
  have hpeek : ∀ a, peekDesc p a = peekDesc s a := peekDesc_congr (by rw [hp]) (by rw [hp]) (by rw [hp])
  have hload : loadSeg sr sel p = loadSegProt sr sel p := loadSeg_of_prot (by rw [hp]; exact hmode) sr sel
  have raises : ∀ {e : Exc}, loadSegProt sr sel p = .error e p → instr x s = .next (s.raise e) := fun h =>
    instr_of_error (hx.trans (bind_of_error (hload.trans h)))
  have loads : ∀ {u : State}, loadSegProt sr sel p = .ok () u → instr x s = .next (fin u) := fun h =>
    instr_of_ok (hx.trans (bind_of_ok (hload.trans h)))
  refine ⟨fun hnull => ?_, fun hnull hout => raises (loadSegProt_of_outside hnull (haddr.trans hout)), ?_⟩
  · have hrun := loadSegProt_of_null (s := p) (r := sr) hnull
    by_cases hss : sr = .ss
    · rw [if_pos hss] at hrun ⊢
      exact raises hrun
    · rw [if_neg hss] at hrun ⊢
      exact loads hrun
  · intro a d hnull ha hd
    have ha : p.descAddr sel = some a := haddr.trans ha
    have hd : peekDesc p a = some d := (hpeek a).trans hd
    have hdata : sr ≠ .ss → (SegLoadable p sr sel d ↔ (d.isData || d.isReadableCode) = true ∧
        (d.isConforming = true ∨ (selRpl sel ≤ d.dpl ∧ s.cpl ≤ d.dpl))) := fun hss => by
      rw [SegLoadable, if_neg hss, hcpl]
    have hstack : sr = .ss → (SegLoadable p sr sel d ↔ selRpl sel = s.cpl ∧ d.isWritableData = true ∧ d.dpl = s.cpl) := fun hss => by
      rw [SegLoadable, if_pos hss, hcpl]
    refine ⟨fun hss hno => ?_, fun hss hkind hlevel hp => ?_, fun hss hno => ?_, fun hss hyes hp => ?_, fun hyes hp u hu => ?_⟩
    · exact raises (loadSegProt_of_refused hnull ha hd (mt (hdata hss).mp hno))
    · have hrun := loadSegProt_of_absent hnull ha hd ((hdata hss).mpr ⟨hkind, hlevel⟩) hp
      rw [notPresent, if_neg hss] at hrun
      exact raises hrun
    · exact raises (loadSegProt_of_refused hnull ha hd (mt (hstack hss).mp hno))
    · have hrun := loadSegProt_of_absent hnull ha hd ((hstack hss).mpr hyes) hp
      rw [notPresent, if_pos hss] at hrun
      exact raises hrun
    · have hyes : SegLoadable p sr sel d := by rw [SegLoadable, hcpl]; exact hyes
      exact loads (loadSegProt_of_present hnull ha hd hyes hp hu)

/-- The interrupt shadow after MOV and POP into a segment register (R52). -/
theorem shadowAfter_eq (sr : SReg) : shadowAfter sr = update (shadow sr) := by
  unfold shadowAfter
  split
  · next h => exact congrArg update (funext fun s => (if_pos h).symm)
  · next h => exact funext fun s => congrArg (EStateM.Result.ok ()) (if_neg h).symm

/-- MOV into a segment register loads it with its operand (R304). -/
theorem movToSeg_of_readable {s : State} {sr : SReg} {rm : RM Reg} (h : Readable s .word (locV s rm)) :
    movToSeg sr rm s = (loadSeg sr ((s.value .word (locV s rm)).setWidth 16) >>= fun _ => update (shadow sr)) s := by
  rw [movToSeg, query_id_bind_run, bind_of_ok (readLoc_of_readable h), shadowAfter_eq]

/-- POP into a segment register loads it with the top of the stack, (E)SP raised (R323). -/
theorem popSeg_of_can {s : State} {sr : SReg} (h : CanPop s s.osz) :
    popSeg sr s = (loadSeg sr ((s.top s.osz).setWidth 16) >>= fun _ => update (shadow sr)) (s.popped s.osz) := by
  rw [popSeg, query_id_bind_run, bind_of_ok (pop_of_can h), shadowAfter_eq]

/-- A pop that is allowed changes the general registers alone (R301). -/
theorem popped_eq (s : State) (w : Width) : s.popped w = { s with gpr := (s.popped w).gpr } := by
  unfold State.popped State.setSp State.setRegW
  cases s.ssz <;> rfl

/-- A far pointer that can be read is its offset and its selector (R402). -/
theorem readFarPointer_of_readable {s : State} {m : EA} (h : FarReadable s m) :
    readFarPointer m s = .ok (farOffset s m, farSelector s m) s := by
  obtain ⟨hwhole, hoff, hsel⟩ := h
  have hcheck : checkSeg (s.segOr (defaultSegment m)) (effectiveOffset s m) (s.osz.bytes + 2) .read s = .ok () s := by
    simp only [checkSeg, hwhole]
  rw [readFarPointer, query_id_bind_run]
  refine (bind_of_ok hcheck).trans ?_
  rw [bind_of_ok (memRead_of_allowed hoff), bind_of_ok (memRead_of_allowed hsel)]
  rfl

/-- A far-pointer load loads the segment register with the pointer's selector and then the register with its offset (R310). -/
theorem loadPointer_of_readable {s : State} {sr : SReg} {r : Reg} {m : EA} (h : FarReadable s m) :
    loadPointer sr r m s =
      (loadSeg sr (farSelector s m) >>= fun _ => update fun u => u.setRegS s.osz.size r (farOffset s m)) s := by
  rw [loadPointer, query_id_bind_run, bind_of_ok (readFarPointer_of_readable h)]

/-- The five forms of POP of a segment register have one meaning. -/
theorem exec_of_popSegForm {i : Instr} {sr : SReg} (h : popSegForm i = some sr) (s : State) : exec i s = instr (popSeg sr) s := by
  unfold popSegForm at h
  split at h <;> cases h <;> rfl

/-- The five far-pointer loads have one meaning. -/
theorem exec_of_pointerForm {i : Instr} {sr : SReg} {r : Reg} {m : EA} (h : pointerForm i = some (sr, r, m)) (s : State) :
    exec i s = instr (loadPointer sr r m) s := by
  unfold pointerForm at h
  split at h <;> cases h <;> rfl

/-- Settles O31: MOV, POP and the far-pointer loads are one load of the register, from the states that their operands leave. -/
theorem segmentRegisterLoadProtected : Obligations.SegmentRegisterLoadProtected := by
  unfold Obligations.SegmentRegisterLoadProtected
  refine ⟨descriptorFields, selectorFields, fun s f => ?_, fun s sr rm hmode hread => ?_, fun i s sr hi hmode hpop => ?_,
    fun i s sr r m hi hmode hread => ?_⟩
  · by_cases hacc : f.desc.hi.getLsbD 8 = true
    · rw [if_pos hacc]
      exact setAccessed_of_accessed hacc s
    · rw [if_neg hacc, setAccessed_of_not_accessed hacc]
      exact rightsChanged_changeAccessRights s f.addr _
  · exact segLoad_of_run (movToSeg_of_readable hread) rfl hmode
  · rw [exec_of_popSegForm hi]
    exact segLoad_of_run (popSeg_of_can hpop) (popped_eq s s.osz) hmode
  · rw [exec_of_pointerForm hi]
    exact segLoad_of_run (loadPointer_of_readable hread) rfl hmode

end Sys2Proof.Machine
end

section
/-!
PROOFS. The encoder's fields read back (30_encoding.md R81, R150 to R163): for every part of an instruction, the decoder's
reader gives back the value whose bytes the encoder wrote, and leaves the bytes after it.
-/
namespace Sys2Proof

@[simp] theorem Parse.andThen_ok {α β : Type} (v : α) (rest : List Byte) (f : α → List Byte → Parse β) :
    (Parse.ok v rest).andThen f = f v rest := rfl

/-! ### Register codes (R20, R22, R38, R150, R154) -/

@[simp] theorem Reg.ofCode_code (r : Reg) : Reg.ofCode r.code = r := by cases r <;> rfl

@[simp] theorem Reg8.ofCode_code (r : Reg8) : Reg8.ofCode r.code = r := by cases r <;> rfl

@[simp] theorem SReg.ofCode_code (r : SReg) : SReg.ofCode r.code = some r := by cases r <;> rfl

/-- CS is the one segment register that no MOV loads (R175). -/
theorem SReg.ofLoadCode_code {r : SReg} (h : r ≠ .cs) : SReg.ofLoadCode r.code = some r := by
  cases r
  case cs => exact absurd rfl h
  all_goals rfl

@[simp] theorem CReg.ofCode_code (r : CReg) : CReg.ofCode r.code = some r := by cases r <;> rfl

@[simp] theorem DReg.ofCode_code (r : DReg) : DReg.ofCode r.code = some r := by cases r <;> rfl

@[simp] theorem TReg.ofCode_code (r : TReg) : TReg.ofCode r.code = some r := by cases r <;> rfl

@[simp] theorem Scale.ofCode_code (k : Scale) : Scale.ofCode k.code = k := by cases k <;> rfl

@[simp] theorem Base16.ofCode_code (b : Base16) : Base16.ofCode b.code = b := by cases b <;> rfl

/-- The code 100 is the one of ESP alone, which therefore is no index and as a base needs a SIB byte (R154). -/
theorem Reg.code_eq_four_iff (r : Reg) : r.code = 4#3 ↔ r = .esp := by cases r <;> decide

/-! ### Bytes of a value (R81) -/

@[simp] theorem readByte_cons (b : Byte) (rest : List Byte) : readByte (b :: rest) = .ok b rest := rfl

/-- Two adjacent fields of a value, put together, are one field of it. -/
theorem extractLsb'_append_extractLsb' {n : Nat} (v : BitVec n) (i k m : Nat) :
    v.extractLsb' (i + k) m ++ v.extractLsb' i k = v.extractLsb' i (m + k) := by
  ext j hj
  by_cases hlow : j < k
  · simp [BitVec.getElem_append, hlow]
  · have hsum : i + k + (j - k) = i + j := by omega
    simp [BitVec.getElem_append, hlow, hsum]

@[simp] theorem readWord_wordBytes (v : Word) (rest : List Byte) : readWord (wordBytes v ++ rest) = .ok v rest := by
  have hjoin : v.extractLsb' 8 8 ++ v.extractLsb' 0 8 = v :=
    (extractLsb'_append_extractLsb' v 0 8 8).trans BitVec.extractLsb'_eq_self
  simp only [wordBytes, List.cons_append, List.nil_append, readWord, hjoin]

@[simp] theorem readDWord_dwordBytes (v : DWord) (rest : List Byte) : readDWord (dwordBytes v ++ rest) = .ok v rest := by
  have hjoin : v.extractLsb' 24 8 ++ v.extractLsb' 16 8 ++ v.extractLsb' 8 8 ++ v.extractLsb' 0 8 = v := by
    rw [extractLsb'_append_extractLsb' v 16 8 8, extractLsb'_append_extractLsb' v 8 8 16, extractLsb'_append_extractLsb' v 0 8 24]
    exact BitVec.extractLsb'_eq_self
  simp only [dwordBytes, List.cons_append, List.nil_append, readDWord, hjoin]

/-- An immediate that fits the size reads back zero-extended (R160, R162). -/
theorem readSized_bytesOf {w : Width} {v : DWord} (h : w.fits v = true) (rest : List Byte) :
    readSized w (w.bytesOf v ++ rest) = .ok v rest := by
  cases w with
  | w32 => exact readDWord_dwordBytes v rest
  | w16 =>
    have hlt : v.toNat < 65536 := of_decide_eq_true h
    have hcut : (v.setWidth 16).setWidth 32 = v := by
      apply BitVec.eq_of_toNat_eq
      simp only [BitVec.toNat_setWidth]
      omega
    simp only [readSized, Width.bytesOf, readWord_wordBytes, Parse.andThen_ok, hcut]

/-- A code offset that fits the size reads back sign-extended (R161). -/
theorem readRelative_bytesOf {w : Width} {v : DWord} (h : w.fitsSigned v = true) (rest : List Byte) :
    readRelative w (w.bytesOf v ++ rest) = .ok v rest := by
  cases w with
  | w32 => exact readDWord_dwordBytes v rest
  | w16 =>
    have hcut : (v.setWidth 16).signExtend 32 = v := beq_iff_eq.mp h
    simp only [readRelative, Width.bytesOf, readWord_wordBytes, Parse.andThen_ok, hcut]

/-! ### ModR/M and SIB (R151 to R154) -/

@[simp] theorem modField_modRM (mod : BitVec 2) (reg rm : BitVec 3) : modField (modRM mod reg rm) = mod := by
  revert mod reg rm; decide

@[simp] theorem regField_modRM (mod : BitVec 2) (reg rm : BitVec 3) : regField (modRM mod reg rm) = reg := by
  revert mod reg rm; decide

@[simp] theorem rmField_modRM (mod : BitVec 2) (reg rm : BitVec 3) : rmField (modRM mod reg rm) = rm := by
  revert mod reg rm; decide

/-- A 16-bit address reads back (R152). -/
theorem readModRM_a16 {ρ : Type} (ofCode : BitVec 3 → ρ) (base : Option Base16) (d : Word) (reg : BitVec 3) (rest : List Byte) :
    readModRM .w16 ofCode ((EA.a16 base d).bytes reg ++ rest) = .ok (reg, .mem (.a16 base d)) rest := by
  cases base <;> simp [EA.bytes, readModRM, readEA, readEA16]

/-- An index other than ESP reads back from the SIB byte (R154). -/
theorem sibIndex_modRM {i : Reg} (h : i ≠ .esp) (k : Scale) (base : BitVec 3) :
    sibIndex (modRM k.code i.code base) = some (i, k) := by
  simp [sibIndex, Reg.code_eq_four_iff, h]

/-- The index code 100 is none (R154). -/
theorem sibIndex_modRM_none (ss : BitVec 2) (base : BitVec 3) : sibIndex (modRM ss 4#3 base) = none := by
  simp [sibIndex]

/-- A 32-bit address without an index reads back (R153); ESP as the base has a SIB byte whose index is none (R154). -/
theorem readModRM_a32_noIndex {ρ : Type} (ofCode : BitVec 3 → ρ) (base : Option Reg) (d : DWord) (reg : BitVec 3) (rest : List Byte) :
    readModRM .w32 ofCode ((EA.a32 base none d).bytes reg ++ rest) = .ok (reg, .mem (.a32 base none d)) rest := by
  cases base with
  | none => simp [EA.bytes, readModRM, readEA, readEA32, readDisp32]
  | some b =>
    by_cases hesp : b = .esp
    · subst hesp
      simp [EA.bytes, readModRM, readEA, readEA32, readDisp32, sibIndex_modRM_none, Reg.ofCode]
    · simp [EA.bytes, readModRM, readEA, readEA32, readDisp32, hesp, Reg.code_eq_four_iff]

/-- A 32-bit address with an index reads back (R154). -/
theorem readModRM_a32_index {ρ : Type} (ofCode : BitVec 3 → ρ) (base : Option Reg) {i : Reg} (h : i ≠ .esp) (k : Scale) (d : DWord)
    (reg : BitVec 3) (rest : List Byte) :
    readModRM .w32 ofCode ((EA.a32 base (some (i, k)) d).bytes reg ++ rest) = .ok (reg, .mem (.a32 base (some (i, k)) d)) rest := by
  cases base <;> simp [EA.bytes, readModRM, readEA, readEA32, readDisp32, sibIndex_modRM h]

/-- A well-formed address reads back (R152 to R154). -/
theorem readModRM_ea {ρ : Type} {w : Width} {m : EA} (h : m.wf w = true) (ofCode : BitVec 3 → ρ) (reg : BitVec 3) (rest : List Byte) :
    readModRM w ofCode (m.bytes reg ++ rest) = .ok (reg, .mem m) rest := by
  unfold EA.wf at h
  split at h
  · exact readModRM_a16 ofCode _ _ reg rest
  · exact readModRM_a32_noIndex ofCode _ _ reg rest
  · exact readModRM_a32_index ofCode _ (bne_iff_ne.mp h) _ _ reg rest
  · cases h

/-- A well-formed r/m operand reads back (R151). -/
theorem readModRM_bytes {ρ : Type} {w : Width} {rm : RM ρ} (h : rm.wf w = true) {ofCode : BitVec 3 → ρ} {code : ρ → BitVec 3}
    (hcode : ∀ r, ofCode (code r) = r) (reg : BitVec 3) (rest : List Byte) :
    readModRM w ofCode (rm.bytes code reg ++ rest) = .ok (reg, rm) rest := by
  cases rm with
  | reg r => simp [RM.bytes, readModRM, hcode]
  | mem m => exact readModRM_ea h ofCode reg rest

end Sys2Proof
end

section
/-!
PROOFS. Decoding an encoding (30_encoding.md R140 to R186). Every row of the opcode map has a form that says what follows the
opcode; each form reads back the bytes that the encoder writes for it, whatever bytes come after. An instruction then decodes to
itself because its opcode's row has the form that its encoding follows.
-/
namespace Sys2Proof

/-! ### The forms of the opcode map (R140, R160 to R163) -/

/-- The form reads the bytes as the instruction, whatever bytes come after them. -/
def Form.Reads (a : Attrs) (form : Form) (bs : List Byte) (i : Instr) : Prop :=
  ∀ rest, form.read a (bs ++ rest) = .ok i rest

namespace Form

variable {a : Attrs}

theorem reads_plain (i : Instr) : (plain i).Reads a [] i := fun _ => rfl

theorem reads_ib (f : Byte → Instr) (v : Byte) : (ib f).Reads a [v] (f v) := fun _ => rfl

theorem reads_iw (f : Word → Instr) (v : Word) : (iw f).Reads a (wordBytes v) (f v) := fun rest => by
  simp [Form.read]

theorem reads_iv {f : DWord → Instr} {v : DWord} (h : a.osz.fits v = true) : (iv f).Reads a (a.osz.bytesOf v) (f v) := fun rest => by
  simp [Form.read, readSized_bytesOf h]

theorem reads_iwib (f : Word → Byte → Instr) (v : Word) (b : Byte) : (iwib f).Reads a (wordBytes v ++ [b]) (f v b) := fun rest => by
  simp [Form.read]

theorem reads_cv {f : DWord → Instr} {v : DWord} (h : a.osz.fitsSigned v = true) : (cv f).Reads a (a.osz.bytesOf v) (f v) :=
  fun rest => by simp [Form.read, readRelative_bytesOf h]

theorem reads_moffs {f : DWord → Instr} {v : DWord} (h : a.asz.fits v = true) : (moffs f).Reads a (a.asz.bytesOf v) (f v) :=
  fun rest => by simp [Form.read, readSized_bytesOf h]

theorem reads_far {f : DWord → Word → Instr} {v : DWord} (h : a.osz.fits v = true) (sel : Word) :
    (far f).Reads a (a.osz.bytesOf v ++ wordBytes sel) (f v sel) := fun rest => by
  simp [Form.read, readSized_bytesOf h]

theorem reads_rm8 {f : Reg8 → RM Reg8 → Instr} {rm : RM Reg8} (h : rm.wf a.asz = true) (r : Reg8) :
    (rm8 f).Reads a (rm.bytes Reg8.code r.code) (f r rm) := fun rest => by
  simp [Form.read, readModRM_bytes h Reg8.ofCode_code]

theorem reads_rmv {f : Reg → RM Reg → Instr} {rm : RM Reg} (h : rm.wf a.asz = true) (r : Reg) :
    (rmv f).Reads a (rm.bytes Reg.code r.code) (f r rm) := fun rest => by
  simp [Form.read, readModRM_bytes h Reg.ofCode_code]

theorem reads_rm8v {f : Reg → RM Reg8 → Instr} {rm : RM Reg8} (h : rm.wf a.asz = true) (r : Reg) :
    (rm8v f).Reads a (rm.bytes Reg8.code r.code) (f r rm) := fun rest => by
  simp [Form.read, readModRM_bytes h Reg8.ofCode_code]

theorem reads_mv {f : Reg → EA → Instr} {m : EA} (h : m.wf a.asz = true) (r : Reg) : (mv f).Reads a (m.bytes r.code) (f r m) :=
  fun rest => by simp [Form.read, readModRM_ea h]

theorem reads_sreg {ofCode : BitVec 3 → Option SReg} {f : SReg → RM Reg → Instr} {rm : RM Reg} {sr : SReg}
    (hsr : ofCode sr.code = some sr) (h : rm.wf a.asz = true) :
    (sreg ofCode f).Reads a (rm.bytes Reg.code sr.code) (f sr rm) := fun rest => by
  simp [Form.read, readModRM_bytes h Reg.ofCode_code, hsr]

theorem reads_rmvib {f : Reg → RM Reg → Byte → Instr} {rm : RM Reg} (h : rm.wf a.asz = true) (r : Reg) (v : Byte) :
    (rmvib f).Reads a (rm.bytes Reg.code r.code ++ [v]) (f r rm v) := fun rest => by
  simp [Form.read, readModRM_bytes h Reg.ofCode_code]

theorem reads_rmviv {f : Reg → RM Reg → DWord → Instr} {rm : RM Reg} {v : DWord} (h : (rm.wf a.asz && a.osz.fits v) = true)
    (r : Reg) : (rmviv f).Reads a (rm.bytes Reg.code r.code ++ a.osz.bytesOf v) (f r rm v) := fun rest => by
  obtain ⟨hrm, hv⟩ := Bool.and_eq_true_iff.mp h
  simp [Form.read, readModRM_bytes hrm Reg.ofCode_code, readSized_bytesOf hv]

theorem reads_special {f : BitVec 3 → Reg → Option Instr} {n : BitVec 3} {r : Reg} {i : Instr} (h : f n r = some i) :
    (special f).Reads a [modRM 3 n r.code] i := fun rest => by
  simp [Form.read, h]

theorem reads_adjust (i : Instr) : (adjust i).Reads a [0x0A] i := fun _ => rfl

/-! ### The groups (R184): the reg field is the digit that selects the instruction -/

theorem reads_grp8 {g : BitVec 3 → Group Reg8} {d : BitVec 3} {rm : RM Reg8} {bs : List Byte} {i : Instr} (h : rm.wf a.asz = true)
    (hg : ∀ rest, (g d).read a rm (bs ++ rest) = .ok i rest) : (grp8 g).Reads a (rm.bytes Reg8.code d ++ bs) i := fun rest => by
  simp [Form.read, readModRM_bytes h Reg8.ofCode_code, hg]

theorem reads_grpv {g : BitVec 3 → Group Reg} {d : BitVec 3} {rm : RM Reg} {bs : List Byte} {i : Instr} (h : rm.wf a.asz = true)
    (hg : ∀ rest, (g d).read a rm (bs ++ rest) = .ok i rest) : (grpv g).Reads a (rm.bytes Reg.code d ++ bs) i := fun rest => by
  simp [Form.read, readModRM_bytes h Reg.ofCode_code, hg]

theorem reads_grp8_rm {g : BitVec 3 → Group Reg8} {d : BitVec 3} {f : RM Reg8 → Instr} {rm : RM Reg8} (h : rm.wf a.asz = true)
    (hg : g d = .rm f) : (grp8 g).Reads a (rm.bytes Reg8.code d) (f rm) :=
  List.append_nil (rm.bytes Reg8.code d) ▸ reads_grp8 (bs := []) h fun rest => by simp [hg, Group.read]

theorem reads_grpv_rm {g : BitVec 3 → Group Reg} {d : BitVec 3} {f : RM Reg → Instr} {rm : RM Reg} (h : rm.wf a.asz = true)
    (hg : g d = .rm f) : (grpv g).Reads a (rm.bytes Reg.code d) (f rm) :=
  List.append_nil (rm.bytes Reg.code d) ▸ reads_grpv (bs := []) h fun rest => by simp [hg, Group.read]

theorem reads_grp8_rmib {g : BitVec 3 → Group Reg8} {d : BitVec 3} {f : RM Reg8 → Byte → Instr} {rm : RM Reg8} {v : Byte}
    (h : rm.wf a.asz = true) (hg : g d = .rmib f) : (grp8 g).Reads a (rm.bytes Reg8.code d ++ [v]) (f rm v) :=
  reads_grp8 h fun rest => by simp [hg, Group.read]

theorem reads_grpv_rmib {g : BitVec 3 → Group Reg} {d : BitVec 3} {f : RM Reg → Byte → Instr} {rm : RM Reg} {v : Byte}
    (h : rm.wf a.asz = true) (hg : g d = .rmib f) : (grpv g).Reads a (rm.bytes Reg.code d ++ [v]) (f rm v) :=
  reads_grpv h fun rest => by simp [hg, Group.read]

theorem reads_grpv_rmiv {g : BitVec 3 → Group Reg} {d : BitVec 3} {f : RM Reg → DWord → Instr} {rm : RM Reg} {v : DWord}
    (h : (rm.wf a.asz && a.osz.fits v) = true) (hg : g d = .rmiv f) :
    (grpv g).Reads a (rm.bytes Reg.code d ++ a.osz.bytesOf v) (f rm v) := by
  obtain ⟨hrm, hv⟩ := Bool.and_eq_true_iff.mp h
  exact reads_grpv hrm fun rest => by simp [hg, Group.read, readSized_bytesOf hv]

/-- A row that allows memory alone (R172). -/
theorem reads_grpv_mem {g : BitVec 3 → Group Reg} {d : BitVec 3} {f : EA → Instr} {m : EA} (h : m.wf a.asz = true)
    (hg : g d = .mem f) : (grpv g).Reads a (m.bytes d) (f m) := fun rest => by
  simp [Form.read, readModRM_ea h, hg, Group.read]

end Form

/-! ### One instruction (R180, R185) -/

/-- The decoder reads the instruction back from its encoding under the attributes. -/
def DecodesBack (a : Attrs) (i : Instr) : Prop := ∀ rest, decodeOpcode a (encode a i ++ rest) = .ok i rest

theorem decodeOpcode_oneByte {b : Byte} (h : b ≠ 0x0F) (a : Attrs) (bs : List Byte) :
    decodeOpcode a (b :: bs) = (oneByte b).read a bs := by
  rw [decodeOpcode, readByte_cons, Parse.andThen_ok, if_neg h]

theorem decodeOpcode_twoByte (a : Attrs) (b : Byte) (bs : List Byte) : decodeOpcode a (0x0F :: b :: bs) = (twoByte b).read a bs := rfl

/-- An instruction decodes back when the row of its opcode byte reads what follows that byte. -/
theorem decodesBack_oneByte {a : Attrs} {i : Instr} {b : Byte} {bs : List Byte} {form : Form} (henc : encode a i = b :: bs)
    (hrow : oneByte b = form) (hread : form.Reads a bs i) (hb : b ≠ 0x0F := by decide) : DecodesBack a i := fun rest => by
  rw [henc, List.cons_append, decodeOpcode_oneByte hb, hrow, hread]

/-- The same after the escape byte 0F. -/
theorem decodesBack_twoByte {a : Attrs} {i : Instr} {b : Byte} {bs : List Byte} {form : Form} (henc : encode a i = 0x0F :: b :: bs)
    (hrow : twoByte b = form) (hread : form.Reads a bs i) : DecodesBack a i := fun rest => by
  rw [henc, List.cons_append, List.cons_append, decodeOpcode_twoByte, hrow, hread]

end Sys2Proof
end

section
/-!
PROOFS. Every well-formed instruction decodes back (30_encoding.md R180 to R186), alone and after any prefixes.
-/
namespace Sys2Proof

/-! ### Opcodes with an operand in them -/

/-- The eight escape opcodes D8 to DF (R176). -/
theorem oneByte_escapeByte (op : BitVec 3) : oneByte (escapeByte op) = .grpv fun d => .rm (.esc op d) := by
  have hop : ∀ op : BitVec 3, op ∈ ([0, 1, 2, 3, 4, 5, 6, 7] : List (BitVec 3)) := by decide
  have hop := hop op
  simp only [List.mem_cons, List.not_mem_nil, or_false] at hop
  rcases hop with rfl | rfl | rfl | rfl | rfl | rfl | rfl | rfl <;> rfl

theorem escapeByte_ne_0F (op : BitVec 3) : escapeByte op ≠ 0x0F := by revert op; decide

open Form

/-- The arithmetic rows 81 and 83, which differ in the immediate (R182). -/
theorem decodesBack_aluImm {a : Attrs} {f : RM Reg → Imm → Instr} {d : BitVec 3} {rm : RM Reg} {imm : Imm}
    (henc : ∀ imm, encode a (f rm imm) = imm.opcode :: rm.bytes Reg.code d ++ imm.bytes a.osz)
    (hfull : group81 d = .rmiv fun rm v => f rm (.full v)) (hshort : group83 d = .rmib fun rm v => f rm (.short v))
    (hwf : (rm.wf a.asz && imm.wf a.osz) = true) : DecodesBack a (f rm imm) := by
  cases imm with
  | full v =>
    have henc : encode a (f rm (.full v)) = 0x81 :: (rm.bytes Reg.code d ++ a.osz.bytesOf v) := henc _
    exact decodesBack_oneByte henc rfl (reads_grpv_rmiv (f := fun rm v => f rm (.full v)) hwf hfull)
  | short v =>
    have hrm := (Bool.and_eq_true_iff.mp hwf).1
    have henc : encode a (f rm (.short v)) = 0x83 :: (rm.bytes Reg.code d ++ [v]) := henc _
    exact decodesBack_oneByte henc rfl (reads_grpv_rmib (f := fun rm v => f rm (.short v)) hrm hshort)

/-- The rows D0, D2 and C0 of a shift of a byte, which differ in the count (R184, R256). -/
theorem decodesBack_shiftRm8 {a : Attrs} {f : RM Reg8 → Count → Instr} {d : BitVec 3} {rm : RM Reg8} {count : Count}
    (henc : ∀ c, encode a (f rm c) = c.opcode 0xD0 0xD2 0xC0 :: rm.bytes Reg8.code d ++ c.bytes)
    (hone : groupD0 d = .rm fun rm => f rm .one) (hcl : groupD2 d = .rm fun rm => f rm .cl)
    (himm : groupC0 d = .rmib fun rm v => f rm (.imm v)) (hwf : rm.wf a.asz = true) : DecodesBack a (f rm count) := by
  cases count with
  | one => exact decodesBack_oneByte ((henc _).trans (List.append_nil _)) rfl (reads_grp8_rm (f := fun rm => f rm .one) hwf hone)
  | cl => exact decodesBack_oneByte ((henc _).trans (List.append_nil _)) rfl (reads_grp8_rm (f := fun rm => f rm .cl) hwf hcl)
  | imm v =>
    have henc : encode a (f rm (.imm v)) = 0xC0 :: (rm.bytes Reg8.code d ++ [v]) := henc _
    exact decodesBack_oneByte henc rfl (reads_grp8_rmib (f := fun rm v => f rm (.imm v)) hwf himm)

/-- The rows D1, D3 and C1 of a shift of a word or doubleword. -/
theorem decodesBack_shiftRmv {a : Attrs} {f : RM Reg → Count → Instr} {d : BitVec 3} {rm : RM Reg} {count : Count}
    (henc : ∀ c, encode a (f rm c) = c.opcode 0xD1 0xD3 0xC1 :: rm.bytes Reg.code d ++ c.bytes)
    (hone : groupD1 d = .rm fun rm => f rm .one) (hcl : groupD3 d = .rm fun rm => f rm .cl)
    (himm : groupC1 d = .rmib fun rm v => f rm (.imm v)) (hwf : rm.wf a.asz = true) : DecodesBack a (f rm count) := by
  cases count with
  | one => exact decodesBack_oneByte ((henc _).trans (List.append_nil _)) rfl (reads_grpv_rm (f := fun rm => f rm .one) hwf hone)
  | cl => exact decodesBack_oneByte ((henc _).trans (List.append_nil _)) rfl (reads_grpv_rm (f := fun rm => f rm .cl) hwf hcl)
  | imm v =>
    have henc : encode a (f rm (.imm v)) = 0xC1 :: (rm.bytes Reg.code d ++ [v]) := henc _
    exact decodesBack_oneByte henc rfl (reads_grpv_rmib (f := fun rm v => f rm (.imm v)) hwf himm)

/-! ### Every instruction -/

/-- A well-formed instruction outside the prefixes decodes back: its opcode's row has the form that its encoding follows. The cases
are grouped by that form. -/
theorem decodesBack_of_wf {a : Attrs} {i : Instr} (hwf : i.wf a = true) (hmem : i ∉ Claims.prefixInstrs) : DecodesBack a i := by
  cases i
  case addRm8R8 | addR8Rm8 | orRm8R8 | orR8Rm8 | adcRm8R8 | adcR8Rm8 | sbbRm8R8 | sbbR8Rm8 | andRm8R8 | andR8Rm8 | subRm8R8 |
      subR8Rm8 | xorRm8R8 | xorR8Rm8 | cmpRm8R8 | cmpR8Rm8 | testRm8R8 | xchgRm8R8 | movRm8R8 | movR8Rm8 =>
    exact decodesBack_oneByte rfl rfl (reads_rm8 hwf _)
  case addRmvRv | addRvRmv | orRmvRv | orRvRmv | adcRmvRv | adcRvRmv | sbbRmvRv | sbbRvRmv | andRmvRv | andRvRmv | subRmvRv |
      subRvRmv | xorRmvRv | xorRvRmv | cmpRmvRv | cmpRvRmv | arpl | testRmvRv | xchgRmvRv | movRmvRv | movRvRmv =>
    exact decodesBack_oneByte rfl rfl (reads_rmv hwf _)
  case movR8Imm8 r imm => cases r <;> exact decodesBack_oneByte rfl rfl (reads_ib _ _)
  case addAlImm8 | orAlImm8 | adcAlImm8 | sbbAlImm8 | andAlImm8 | subAlImm8 | xorAlImm8 | cmpAlImm8 | pushImm8 | jo8 | jno8 |
      jb8 | jae8 | je8 | jne8 | jbe8 | ja8 | js8 | jns8 | jp8 | jnp8 | jl8 | jge8 | jle8 | jg8 | testAlImm8 | int | loopne |
      loope | loop | jcxz | inAlImm8 | inEaxImm8 | outImm8Al | outImm8Eax | jmpRel8 =>
    exact decodesBack_oneByte rfl rfl (reads_ib _ _)
  case movRvImmv r imm => cases r <;> exact decodesBack_oneByte rfl rfl (reads_iv hwf)
  case addEaxImmv | orEaxImmv | adcEaxImmv | sbbEaxImmv | andEaxImmv | subEaxImmv | xorEaxImmv | cmpEaxImmv | pushImmv |
      testEaxImmv => exact decodesBack_oneByte rfl rfl (reads_iv hwf)
  case addRm8Imm8 | orRm8Imm8 | adcRm8Imm8 | sbbRm8Imm8 | andRm8Imm8 | subRm8Imm8 | xorRm8Imm8 | cmpRm8Imm8 | movRm8Imm8 |
      testRm8Imm8 => exact decodesBack_oneByte rfl rfl (reads_grp8_rmib hwf rfl)
  case addRmvImm | orRmvImm | adcRmvImm | sbbRmvImm | andRmvImm | subRmvImm | xorRmvImm | cmpRmvImm =>
    exact decodesBack_aluImm (fun _ => rfl) rfl rfl hwf
  case incRv r | decRv r | pushRv r | popRv r => cases r <;> exact decodesBack_oneByte rfl rfl (reads_plain _)
  case xchgEaxRv r =>
    cases r
    case eax => cases hwf
    all_goals exact decodesBack_oneByte rfl rfl (reads_plain _)
  case pushEs | popEs | pushCs | pushSs | popSs | pushDs | popDs | daa | das | aaa | aas | pusha | popa | insb | insv | outsb |
      outsv | nop | cbw | cwd | wait | pushf | popf | sahf | lahf | movsb | movsv | cmpsb | cmpsv | stosb | stosv | lodsb |
      lodsv | scasb | scasv | retNear | leave | retFar | int3 | into | iret | xlat | inAlDx | inEaxDx | outDxAl | outDxEax |
      hlt | cmc | clc | stc | cli | sti | cld | std => exact decodesBack_oneByte rfl rfl (reads_plain _)
  case bound | lea | les | lds => exact decodesBack_oneByte rfl rfl (reads_mv hwf _)
  case imulRvRmvImmv => exact decodesBack_oneByte rfl rfl (reads_rmviv hwf _)
  case imulRvRmvImm8 => exact decodesBack_oneByte rfl rfl (reads_rmvib hwf _ _)
  case movRmvSreg => exact decodesBack_oneByte rfl rfl (reads_sreg (SReg.ofCode_code _) hwf)
  case movSregRm16 =>
    obtain ⟨hsr, hrm⟩ := Bool.and_eq_true_iff.mp hwf
    exact decodesBack_oneByte rfl rfl (reads_sreg (SReg.ofLoadCode_code (bne_iff_ne.mp hsr)) hrm)
  case esc op d rm => exact decodesBack_oneByte rfl (oneByte_escapeByte op) (reads_grpv_rm hwf rfl) (escapeByte_ne_0F op)
  case popRmv | notRmv | negRmv | mulRmv | imulRmv | divRmv | idivRmv | incRmv | decRmv | callRmv | jmpRmv | pushRmv =>
    exact decodesBack_oneByte rfl rfl (reads_grpv_rm hwf rfl)
  case callFarPtr | jmpFarPtr => exact decodesBack_oneByte rfl rfl (reads_far hwf _)
  case movAlMoffs | movEaxMoffs | movMoffsAl | movMoffsEax => exact decodesBack_oneByte rfl rfl (reads_moffs hwf)
  case rolRm8 | rorRm8 | rclRm8 | rcrRm8 | salRm8 | shrRm8 | sarRm8 => exact decodesBack_shiftRm8 (fun _ => rfl) rfl rfl rfl hwf
  case rolRmv | rorRmv | rclRmv | rcrRmv | salRmv | shrRmv | sarRmv => exact decodesBack_shiftRmv (fun _ => rfl) rfl rfl rfl hwf
  case retNearImm | retFarImm => exact decodesBack_oneByte rfl rfl (reads_iw _ _)
  case movRmvImmv | testRmvImmv => exact decodesBack_oneByte rfl rfl (reads_grpv_rmiv hwf rfl)
  case enter => exact decodesBack_oneByte rfl rfl (reads_iwib _ _ _)
  case callRelv | jmpRelv => exact decodesBack_oneByte rfl rfl (reads_cv hwf)
  case notRm8 | negRm8 | mulRm8 | imulRm8 | divRm8 | idivRm8 | incRm8 | decRm8 =>
    exact decodesBack_oneByte rfl rfl (reads_grp8_rm hwf rfl)
  case callFarMem | jmpFarMem => exact decodesBack_oneByte rfl rfl (reads_grpv_mem hwf rfl)
  case sldt | str | lldt | ltr | verr | verw | smsw | lmsw => exact decodesBack_twoByte rfl rfl (reads_grpv_rm hwf rfl)
  case sgdt | sidt | lgdt | lidt => exact decodesBack_twoByte rfl rfl (reads_grpv_mem hwf rfl)
  case lar | lsl | btRmvRv | shldCl | btsRmvRv | shrdCl | imulRvRmv | btrRmvRv | movzxRdRm16 | btcRmvRv | bsf | bsr |
      movsxRdRm16 => exact decodesBack_twoByte rfl rfl (reads_rmv hwf _)
  case movRdCr | movCrRd => exact decodesBack_twoByte rfl rfl (reads_special (congrArg (Option.map _) (CReg.ofCode_code _)))
  case movRdDr | movDrRd => exact decodesBack_twoByte rfl rfl (reads_special (congrArg (Option.map _) (DReg.ofCode_code _)))
  case movRdTr | movTrRd => exact decodesBack_twoByte rfl rfl (reads_special (congrArg (Option.map _) (TReg.ofCode_code _)))
  case joNear | jnoNear | jbNear | jaeNear | jeNear | jneNear | jbeNear | jaNear | jsNear | jnsNear | jpNear | jnpNear |
      jlNear | jgeNear | jleNear | jgNear => exact decodesBack_twoByte rfl rfl (reads_cv hwf)
  case seto | setno | setb | setae | sete | setne | setbe | seta | sets | setns | setp | setnp | setl | setge | setle | setg =>
    exact decodesBack_twoByte rfl rfl (reads_grp8_rm hwf rfl)
  case shldImm8 | shrdImm8 => exact decodesBack_twoByte rfl rfl (reads_rmvib hwf _ _)
  case lss | lfs | lgs => exact decodesBack_twoByte rfl rfl (reads_mv hwf _)
  case movzxRvRm8 | movsxRvRm8 => exact decodesBack_twoByte rfl rfl (reads_rm8v hwf _)
  case btRmvImm8 | btsRmvImm8 | btrRmvImm8 | btcRmvImm8 => exact decodesBack_twoByte rfl rfl (reads_grpv_rmib hwf rfl)
  case pushFs | popFs | pushGs | popGs | clts => exact decodesBack_twoByte rfl rfl (reads_plain _)
  case esOverride | csOverride | ssOverride | dsOverride | fsOverride | gsOverride | operandSize | addressSize | lock | repne |
      rep => exact absurd hmem (by decide)
  case aam | aad => exact decodesBack_oneByte rfl rfl (reads_adjust _)

/-! ### Prefixes (R141, R142) -/

/-- The byte of one of the prefixes is the opcode of no instruction (R140). -/
theorem oneByte_of_prefixOf {b : Byte} {p : Instr} (h : prefixOf b = some p) : oneByte b = .unlisted := by
  have hprefix : ∀ b : Byte, (prefixOf b).isSome = true →
      b ∈ ([0x26, 0x2E, 0x36, 0x3E, 0x64, 0x65, 0x66, 0x67, 0xF0, 0xF2, 0xF3] : List Byte) := by decide
  have hb := hprefix b (by simp [h])
  simp only [List.mem_cons, List.not_mem_nil, or_false] at hb
  rcases hb with rfl | rfl | rfl | rfl | rfl | rfl | rfl | rfl | rfl | rfl | rfl <;> rfl

/-- Bytes that begin with one of the prefixes are no instruction, so that an instruction's bytes begin with none. -/
theorem decodeFrom_of_decodeOpcode {a : Attrs} {bs rest : List Byte} {i : Instr} (h : decodeOpcode a bs = .ok i rest) (default : Width)
    (seen : List Instr) : decodeFrom default a seen bs = .ok ⟨seen, i⟩ rest := by
  cases bs with
  | nil => cases h
  | cons b bs =>
    cases hp : prefixOf b with
    | none => simp [decodeFrom, hp, h]
    | some p =>
      have hrow := oneByte_of_prefixOf hp
      have hb : b ≠ 0x0F := by
        rintro rfl
        cases hp
      rw [decodeOpcode_oneByte hb, hrow] at h
      cases h

/-- Each of the prefixes has one byte, the one that stands for it (R140). -/
theorem encode_prefix {p : Instr} (h : p ∈ Claims.prefixInstrs) (a : Attrs) : ∃ b, encode a p = [b] ∧ prefixOf b = some p := by
  simp only [Claims.prefixInstrs, List.mem_cons, List.not_mem_nil, or_false] at h
  rcases h with rfl | rfl | rfl | rfl | rfl | rfl | rfl | rfl | rfl | rfl | rfl <;> exact ⟨_, rfl, rfl⟩

/-- Prefixes are read in order, each changing the attributes under which the rest is read. -/
theorem decodeFrom_prefixes {ps : List Instr} (h : ∀ p ∈ ps, p ∈ Claims.prefixInstrs) (default : Width) (a b : Attrs) (seen : List Instr)
    (bs : List Byte) :
    decodeFrom default a seen ((ps.map (encode b)).flatten ++ bs) =
      decodeFrom default (ps.foldl (fun a p => a.after default p) a) (seen ++ ps) bs := by
  induction ps generalizing a seen with
  | nil => simp
  | cons p ps ih =>
    obtain ⟨byte, henc, hbyte⟩ := encode_prefix (h p List.mem_cons_self) b
    have hrest := ih (fun q hq => h q (List.mem_cons_of_mem p hq)) (a.after default p) (seen ++ [p])
    simp only [List.map_cons, henc, List.flatten_cons, List.cons_append, List.nil_append, decodeFrom, hbyte, hrest,
      List.foldl_cons, List.append_assoc]

/-- Settles O2: the bytes of the prefixes are read one by one, and the instruction decodes back under the attributes they leave. -/
theorem decodeEncodeRoundTrip : Obligations.DecodeEncodeRoundTrip := by
  unfold Obligations.DecodeEncodeRoundTrip
  refine ⟨fun a i rest hwf hmem => decodesBack_of_wf hwf hmem rest, fun default ps i rest hps hmem hwf => ?_⟩
  rw [decode, decodeFrom_prefixes hps]
  exact decodeFrom_of_decodeOpcode (decodesBack_of_wf hwf hmem rest) default ps

/-! ### Words written out from the tables (R180 to R185) -/

/-- Settles O1: the strings are literal, so that the decoder is evaluated on each. -/
theorem decodeKnownWords : Obligations.DecodeKnownWords := by
  unfold Obligations.DecodeKnownWords
  exact ⟨rfl, rfl, rfl, rfl, rfl, rfl, rfl, rfl⟩

end Sys2Proof
end

section
/-!
PROOFS. A step with no event due (30_encoding.md R140, R186; 60_exceptions.md R504, R505, R512): the bytes at CS:EIP are fetched,
and the step is the decoded instruction or the exception that fetching or decoding raises.
-/
namespace Sys2Proof.Machine

open Sys2Proof.Claims

/-! ### The bytes that can be fetched (R141, R505) -/

/-- Everything the fetch of the next of several bytes can do: stop past the last offset, take the byte and go on, or stop with the
exception of that byte. -/
theorem fetchBytes_cases (s : State) (n off : Nat) :
    (4294967296 ≤ off ∧ fetchBytes s (n + 1) off = ([], Exc.gp 0)) ∨
    (off < 4294967296 ∧ ∃ b u, fetchByte (BitVec.ofNat 32 off) s = .ok b u ∧
      fetchBytes s (n + 1) off = (b :: (fetchBytes s n (off + 1)).1, (fetchBytes s n (off + 1)).2)) ∨
    (off < 4294967296 ∧ ∃ e u, fetchByte (BitVec.ofNat 32 off) s = .error e u ∧ fetchBytes s (n + 1) off = ([], e)) := by
  by_cases hoff : 4294967296 ≤ off
  · exact .inl ⟨hoff, by simp only [fetchBytes, if_pos hoff]⟩
  · have hlt : off < 4294967296 := by omega
    cases hb : fetchByte (BitVec.ofNat 32 off) s with
    | ok b u => exact .inr (.inl ⟨hlt, b, u, rfl, by simp only [fetchBytes, if_neg hoff, hb]⟩)
    | error e u => exact .inr (.inr ⟨hlt, e, u, rfl, by simp only [fetchBytes, if_neg hoff, hb]⟩)

theorem fetchBytes_length_le (s : State) (n off : Nat) : (fetchBytes s n off).1.length ≤ n := by
  induction n generalizing off with
  | zero => exact Nat.le_refl 0
  | succ n ih =>
    rcases fetchBytes_cases s n off with ⟨_, h⟩ | ⟨_, b, u, _, h⟩ | ⟨_, e, u, _, h⟩
    · simp [h]
    · simpa [h] using ih (off + 1)
    · simp [h]

/-- Each of the bytes can be fetched at its own offset. -/
theorem fetchByte_of_fetchBytes {s : State} {n off j : Nat} {b : Byte} (h : (fetchBytes s n off).1[j]? = some b) :
    off + j < 4294967296 ∧ ∃ u, fetchByte (BitVec.ofNat 32 (off + j)) s = .ok b u := by
  induction n generalizing off j with
  | zero => simp [fetchBytes] at h
  | succ n ih =>
    rcases fetchBytes_cases s n off with ⟨_, heq⟩ | ⟨hlt, c, u, hc, heq⟩ | ⟨_, e, u, _, heq⟩
    · simp [heq] at h
    · cases j with
      | zero =>
        obtain rfl : c = b := by simpa [heq] using h
        exact ⟨hlt, u, hc⟩
      | succ j =>
        have hnext : off + (j + 1) = off + 1 + j := by omega
        rw [hnext]
        exact ih (by simpa [heq] using h)
    · simp [heq] at h

/-- After as many bytes as were asked for, and past the last offset, the exception is #GP(0) (D16, R504). -/
theorem fetchBytes_exc_of_end {s : State} {n off : Nat}
    (h : (fetchBytes s n off).1.length = n ∨ 4294967296 ≤ off + (fetchBytes s n off).1.length) : (fetchBytes s n off).2 = Exc.gp 0 := by
  induction n generalizing off with
  | zero => rfl
  | succ n ih =>
    rcases fetchBytes_cases s n off with ⟨_, heq⟩ | ⟨_, b, u, _, heq⟩ | ⟨hlt, e, u, _, heq⟩
    · rw [heq]
    · rw [heq, List.length_cons] at h
      rw [heq]
      exact ih (by omega)
    · rw [heq, List.length_nil] at h
      omega

/-- Before either end, the exception is the one that fetching the next byte raises (R505). -/
theorem fetchByte_of_fetchBytes_exc {s : State} {n off : Nat} (hlen : (fetchBytes s n off).1.length < n)
    (hlt : off + (fetchBytes s n off).1.length < 4294967296) :
    ∃ u, fetchByte (BitVec.ofNat 32 (off + (fetchBytes s n off).1.length)) s = .error (fetchBytes s n off).2 u := by
  induction n generalizing off with
  | zero => simp at hlen
  | succ n ih =>
    rcases fetchBytes_cases s n off with ⟨hoff, _⟩ | ⟨_, b, u, _, heq⟩ | ⟨_, e, u, he, heq⟩
    · omega
    · have hnext : off + ((fetchBytes s n (off + 1)).1.length + 1) = off + 1 + (fetchBytes s n (off + 1)).1.length := by omega
      rw [heq, List.length_cons] at hlen hlt
      rw [heq, List.length_cons, hnext]
      exact ih (by omega) (by omega)
    · rw [heq]
      exact ⟨u, he⟩

/-- Every violation through CS is #GP(0) (R101 to R104). -/
theorem eq_gp_of_segFault_cs {m : Mode} {g : SegReg} {off : DWord} {n : Nat} {e : Exc}
    (h : segFault m .cs g off n .execute = some e) : e = Exc.gp 0 := by
  have hviolation (h : some (segViolation .cs) = some e) : e = Exc.gp 0 := (Option.some.inj h).symm
  cases m with
  | v86 =>
    rw [segFault_v86] at h
    split at h
    · cases h
    · exact hviolation h
  | real =>
    by_cases hin : g.inLimit off n = true
    · simp [segFault_real_of_inside .cs .execute hin] at h
    · exact hviolation (segFault_real_of_outside .cs .execute hin ▸ h)
  | prot =>
    by_cases hin : g.inLimit off n = true
    · by_cases hvalid : g.valid = true
      · simp [segFault_prot_of_inside .cs .execute hvalid hin] at h
      · exact hviolation (segFault_prot_of_null .cs .execute (Bool.eq_false_iff.mpr hvalid) ▸ h)
    · exact hviolation (segFault_prot_of_outside .cs .execute hin ▸ h)

theorem fetchByte_of_segFault {s : State} {off : DWord} {e : Exc} (h : segFault s.mode .cs (s.sreg .cs) off 1 .execute = some e) :
    fetchByte off s = .error e s := by
  have hcheck : checkSeg .cs off 1 .execute s = .error e s := by simp only [checkSeg, h]
  exact bind_of_error hcheck

/-! ### Fetching and decoding (R186) -/

theorem fetchDecode_of_ok {s : State} {d : Decoded} {rest : List Byte}
    (h : decode s.defaultSize (fetchBytes s maxLength s.eip.toNat).1 = .ok d rest) :
    fetchDecode s =
      if 4294967296 ≤ s.eip.toNat + ((fetchBytes s maxLength s.eip.toNat).1.length - rest.length) then .error (Exc.gp 0)
      else .ok (d, (fetchBytes s maxLength s.eip.toNat).1.length - rest.length) := by
  simp only [fetchDecode, h]

theorem fetchDecode_of_more {s : State} (h : decode s.defaultSize (fetchBytes s maxLength s.eip.toNat).1 = .more) :
    fetchDecode s = .error (fetchBytes s maxLength s.eip.toNat).2 := by
  simp only [fetchDecode, h]

theorem fetchDecode_of_undefined {s : State} {why : Reject}
    (h : decode s.defaultSize (fetchBytes s maxLength s.eip.toNat).1 = .undefined why) : fetchDecode s = .error Exc.ud := by
  simp only [fetchDecode, h]

/-! ### The boundary with no event due (R512) -/

theorem eventDue_of_nothingDue {s : State} (h : NothingDue s) : s.eventDue = none := by
  obtain ⟨htrap, hnmi, hintr⟩ := h
  have htrap : ¬(s.trapDue && s.inhibit != .all && !s.run.isWaiting && s.run != .shutdown) = true := by
    rcases htrap with h | h | h | h <;> simp [h]
  have hnmi : ¬(s.nmiPending && !s.nmiBlocked && s.inhibit != .all) = true := by
    rcases hnmi with h | h | h <;> simp [h]
  rw [State.eventDue, if_neg htrap, if_neg hnmi]
  rcases hintr with h | h | h | h <;> simp [h]

theorem executeNext_of_ok {s : State} {d : Decoded} {n : Nat} (h : fetchDecode s.begin = .ok (d, n)) :
    executeNext s = forgetPrefixes (runDecoded d.instr d.prefixes (s.begin.past n)) := by
  simp only [executeNext, h]

theorem executeNext_of_error {s : State} {e : Exc} (h : fetchDecode s.begin = .error e) :
    executeNext s = .next (s.begin.raise e) := by
  simp only [executeNext, h]

section
variable {s : State} (hreset : s.sample.pins.reset = false) (hdue : NothingDue s.sample) (hrun : s.sample.run = .running)
include hreset hdue hrun

/-- A running machine with no event due executes what it fetches. -/
theorem step_eq_executeNext : step s = executeNext { s.sample with inhibit := .none } := by
  have hno : ¬s.sample.pins.reset = true := by simp [hreset]
  rw [step, boundary, if_neg hno, eventDue_of_nothingDue hdue]
  simp only [proceed, hrun]

/-- The exception of fetching or decoding is raised in the state of the fetch, with EIP at the first byte (R504). -/
theorem step_of_fetchDecode_error {e : Exc} (h : fetchDecode (atFetch s) = .error e) : step s = .next ((atFetch s).raise e) :=
  (step_eq_executeNext hreset hdue hrun).trans (executeNext_of_error h)

/-- The decoded instruction runs with EIP past it (R24). -/
theorem step_of_fetchDecode_ok {d : Decoded} {n : Nat} (h : fetchDecode (atFetch s) = .ok (d, n)) :
    step s = forgetPrefixes (runDecoded d.instr d.prefixes ((atFetch s).past n)) :=
  (step_eq_executeNext hreset hdue hrun).trans (executeNext_of_ok h)

end

/-! ### The prefixes of an instruction (R173, R366, R379) -/

theorem runDecoded_of_prefixFault {s : State} {i : Instr} {e : Exc} (h : prefixFault s i = some e) :
    runDecoded i [] s = .next (s.raise e) := by
  simp only [runDecoded, h]

theorem runDecoded_of_no_prefixFault {s : State} {i : Instr} (h : prefixFault s i = none) : runDecoded i [] s = exec i s := by
  simp only [runDecoded, h]

/-- Without prefixes an instruction is its own meaning. -/
theorem runDecoded_of_no_prefixes {i : Instr} {s : State} (h : s.pfx = Prefixes.empty) : runDecoded i [] s = exec i s := by
  have hfault : prefixFault s i = none := by simp [prefixFault, h, Prefixes.empty]
  exact runDecoded_of_no_prefixFault hfault

/-- Settles O6: the step is the fetch, which notes no prefixes yet, and then the decoded instruction. -/
theorem stepRunsDecodedInstruction : Obligations.StepRunsDecodedInstruction := by
  unfold Obligations.StepRunsDecodedInstruction
  intro s d rest f n hreset hdue hrun hdec hend
  have hfetch : fetchDecode (atFetch s) = .ok (d, n) := (fetchDecode_of_ok hdec).trans (if_neg (Nat.not_le.mpr hend))
  have hstep := step_of_fetchDecode_ok hreset hdue hrun hfetch
  refine ⟨hstep, fun hnone => ?_⟩
  have hempty : ((atFetch s).past n).pfx = Prefixes.empty := rfl
  rw [hstep, hnone, runDecoded_of_no_prefixes hempty]

/-- Settles O7: each way in which fetching or decoding stops is raised in the state of the fetch. -/
theorem stepRaisesUndefinedOpcode : Obligations.StepRaisesUndefinedOpcode := by
  unfold Obligations.StepRaisesUndefinedOpcode
  intro s why q f k next hreset hdue hrun
  have hraise {e : Exc} (h : fetchDecode q = .error e) : step s = .next (q.raise e) :=
    step_of_fetchDecode_error hreset hdue hrun h
  refine ⟨fun hdec => hraise (fetchDecode_of_undefined hdec), fun hdec => hraise (fetchDecode_of_more hdec),
    fun d rest hdec hend => hraise ((fetchDecode_of_ok hdec).trans (if_pos hend)),
    ⟨fetchBytes_length_le q _ _, fun j b hb => fetchByte_of_fetchBytes hb⟩,
    fun hlen => fetchBytes_exc_of_end (.inl hlen), fun _ hend => fetchBytes_exc_of_end (.inr hend), fun hlen hlt => ?_⟩
  obtain ⟨u, hnext⟩ : ∃ u, next = .error f.2 u := fetchByte_of_fetchBytes_exc hlen hlt
  have hunique {e : Exc} {t : State} (he : next = .error e t) : f.2 = e := by
    cases hnext.symm.trans he
    rfl
  refine ⟨⟨u, hnext⟩, fun e t he => hunique he, fun e hseg => ?_⟩
  obtain rfl : e = Exc.gp 0 := eq_gp_of_segFault_cs hseg
  exact ⟨hunique (fetchByte_of_segFault hseg), rfl, rfl⟩

end Sys2Proof.Machine
end

section
/-!
PROOFS. Effective addresses (30_encoding.md R152 to R154, 20_memory.md R105): the offset as a sum modulo 2^16 or 2^32, and the
segment register that the form selects.
-/
namespace Sys2Proof.Machine

/-- Cutting to 16 bits is taking the remainder by 2^16 (R11). -/
theorem toNat_truncTo_w16 (v : DWord) : (truncTo .w16 v).toNat = v.toNat % 65536 := by
  rw [truncTo, BitVec.toNat_and]
  exact Nat.and_two_pow_sub_one_eq_mod _ 16

/-- A 16-bit offset is the sum of its registers and displacement modulo 2^16; carries above bit 15 are lost on the way (R152). -/
theorem toNat_effectiveOffset_a16 (s : State) (b : Base16) (d : Word) :
    (effectiveOffset s (.a16 (some b) d)).toNat = ((base16 s b).toNat + d.toNat) % 65536 := by
  rw [effectiveOffset, toNat_truncTo_w16, BitVec.toNat_add, BitVec.toNat_setWidth]
  omega

/-- Two registers and a displacement modulo 2^16. -/
theorem toNat_effectiveOffset_a16_pair {s : State} {b : Base16} {x y : DWord} (h : base16 s b = x + y) (d : Word) :
    (effectiveOffset s (.a16 (some b) d)).toNat = (x.toNat + y.toNat + d.toNat) % 65536 := by
  rw [toNat_effectiveOffset_a16, h, BitVec.toNat_add]
  omega

/-- The factor that a scale stands for (R154). -/
def scaleFactor : Scale → Nat
  | .x1 => 1
  | .x2 => 2
  | .x4 => 4
  | .x8 => 8

/-- A scaled index is the index times its factor modulo 2^32 (R154). -/
theorem toNat_shiftLeft_scaleShift (v : DWord) (k : Scale) : (v <<< scaleShift k).toNat = v.toNat * scaleFactor k % 4294967296 := by
  rw [BitVec.toNat_shiftLeft, Nat.shiftLeft_eq]
  cases k <;> rfl

/-- A 32-bit offset is the sum of base, scaled index and displacement modulo 2^32 (R153, R154). -/
theorem toNat_effectiveOffset_a32 (s : State) (b i : Reg) (k : Scale) (d : DWord) :
    (effectiveOffset s (.a32 (some b) (some (i, k)) d)).toNat =
      ((s.reg b).toNat + (s.reg i).toNat * scaleFactor k + d.toNat) % 4294967296 := by
  rw [effectiveOffset, BitVec.toNat_add, BitVec.toNat_add, toNat_shiftLeft_scaleShift]
  omega

theorem toNat_effectiveOffset_a32_base (s : State) (b : Reg) (d : DWord) :
    (effectiveOffset s (.a32 (some b) none d)).toNat = ((s.reg b).toNat + d.toNat) % 4294967296 := by
  simp [effectiveOffset]

theorem toNat_effectiveOffset_a32_index (s : State) (i : Reg) (k : Scale) (d : DWord) :
    (effectiveOffset s (.a32 none (some (i, k)) d)).toNat = ((s.reg i).toNat * scaleFactor k + d.toNat) % 4294967296 := by
  rw [effectiveOffset, BitVec.toNat_add, BitVec.toNat_add, toNat_shiftLeft_scaleShift]
  simp

/-- A 16-bit form with BP as a base selects SS (R105). -/
theorem defaultSegment_a16 (b : Option Base16) (d : Word) :
    defaultSegment (.a16 b d) = if b = some .bp ∨ b = some .bpSi ∨ b = some .bpDi then .ss else .ds := by
  cases b with
  | none => rfl
  | some b => cases b <;> rfl

/-- A 32-bit form with EBP or ESP as the base selects SS, whatever its index (R105). -/
theorem defaultSegment_a32 (b : Option Reg) (x : Option (Reg × Scale)) (d : DWord) :
    defaultSegment (.a32 b x d) = if b = some .ebp ∨ b = some .esp then .ss else .ds := by
  cases b with
  | none => rfl
  | some b => cases b <;> rfl

/-- Settles O12: each form's offset is a sum of naturals, cut once at the end. -/
theorem effectiveAddressForms : Obligations.EffectiveAddressForms := by
  unfold Obligations.EffectiveAddressForms
  intro s d e b i k r f
  have hf : f = scaleFactor k := by cases k <;> rfl
  have hnone : (effectiveOffset s (.a16 none d)).toNat = d.toNat := BitVec.toNat_setWidth_of_le (by decide)
  have hdisp : effectiveOffset s (.a32 none none e) = e := by simp [effectiveOffset]
  rw [hf]
  exact ⟨hnone, toNat_effectiveOffset_a16_pair rfl d, toNat_effectiveOffset_a16_pair rfl d, toNat_effectiveOffset_a16_pair rfl d,
    toNat_effectiveOffset_a16_pair rfl d, toNat_effectiveOffset_a16 s .si d, toNat_effectiveOffset_a16 s .di d,
    toNat_effectiveOffset_a16 s .bp d, toNat_effectiveOffset_a16 s .bx d, hdisp, toNat_effectiveOffset_a32_base s b e,
    toNat_effectiveOffset_a32_index s i k e, toNat_effectiveOffset_a32 s b i k e, fun x => defaultSegment_a16 x d,
    fun x y => defaultSegment_a32 x y e, fun q z => rfl, fun hseg z => by rw [State.segOr, hseg]; rfl⟩

end Sys2Proof.Machine
end

section
/-!
PROOFS. What the prefixes do (30_encoding.md R141, R142, R173; 42_data_movement.md R366; 43_string_rep.md R379), and the
instructions of the coprocessor (30_encoding.md R176).
-/
namespace Sys2Proof.Machine

open Sys2Proof.Claims

/-- Each of the prefixes is recorded and changes nothing else (R141). -/
theorem exec_of_prefixForm {i : Instr} {f : Prefixes → Prefixes} (h : prefixForm i = some f) (s : State) :
    exec i s = .next { s with pfx := f s.pfx } := by
  unfold prefixForm at h
  split at h <;> cases h <;> rfl

/-! ### Where LOCK and the repeat prefixes may stand (R173, R366, R379) -/

/-- LOCK, REP or REPNE stands before an instruction that may not have it. -/
def Misplaced (s : State) (i : Instr) : Prop :=
  (s.pfx.lock = true ∧ lockable i = false) ∨ ∃ k, s.pfx.rep = some k ∧ repeatable k i = false

/-- A misplaced LOCK, REP or REPNE raises #UD. -/
theorem prefixFault_of_misplaced {s : State} {i : Instr} (h : Misplaced s i) : prefixFault s i = some Exc.ud := by
  rcases h with ⟨hlock, hi⟩ | ⟨k, hrep, hi⟩
  · simp [prefixFault, hlock, hi]
  · simp [prefixFault, hrep, hi]

/-- Otherwise only a LOCK in V86 mode with IOPL below 3 is refused (D21). -/
theorem prefixFault_of_not_misplaced {s : State} {i : Instr} (h : ¬Misplaced s i) :
    prefixFault s i = if s.pfx.lock && s.mode == .v86 && decide (s.flags.iopl < 3) then some (Exc.gp 0) else none := by
  obtain ⟨hlock, hrep⟩ := not_or.mp h
  have hlock : ¬(s.pfx.lock && !lockable i) = true := by simpa using hlock
  have hrep : ¬s.pfx.rep.any (fun r => !repeatable r i) = true := by
    cases hr : s.pfx.rep with
    | none => simp
    | some k => simpa [hr] using hrep
  rw [prefixFault, if_neg hlock, if_neg hrep]

/-- What LOCK, REP, REPNE or none of them leads to before an instruction (R173, R366, R379). -/
theorem runDecoded_prefix_cases (i : Instr) (s : State) :
    (Misplaced s i → runDecoded i [] s = .next (s.raise Exc.ud)) ∧
    (¬Misplaced s i → s.pfx.lock = true → s.mode = .v86 → s.flags.iopl < 3 → runDecoded i [] s = .next (s.raise (Exc.gp 0))) ∧
    (¬Misplaced s i → (s.pfx.lock = false ∨ s.mode ≠ .v86 ∨ s.flags.iopl = 3) → runDecoded i [] s = exec i s) := by
  refine ⟨fun hbad => runDecoded_of_prefixFault (prefixFault_of_misplaced hbad), fun hgood hlock hmode hiopl => ?_,
    fun hgood hok => ?_⟩
  · refine runDecoded_of_prefixFault ((prefixFault_of_not_misplaced hgood).trans (if_pos ?_))
    simpa [hlock, hmode] using hiopl
  · refine runDecoded_of_no_prefixFault ((prefixFault_of_not_misplaced hgood).trans (if_neg ?_))
    rcases hok with h | h | h <;> simp [h]

/-- Those that may be repeated: the string instructions, under REPNE only the ones that compare (R379). -/
theorem repeatable_iff (k : Rep) (i : Instr) :
    repeatable k i = true ↔ i ∈ [Instr.cmpsb, .cmpsv, .scasb, .scasv] ∨
      (k = .rep ∧ i ∈ [Instr.insb, .insv, .movsb, .movsv, .outsb, .outsv, .stosb, .stosv, .lodsb, .lodsv]) := by
  constructor
  · intro h
    unfold repeatable at h
    split at h
    case h_1 | h_2 | h_3 | h_4 => exact .inl (by simp)
    case h_15 => cases h
    all_goals exact .inr ⟨of_decide_eq_true h, by simp⟩
  · simp only [List.mem_cons, List.not_mem_nil, or_false]
    rintro ((rfl | rfl | rfl | rfl) | ⟨rfl, (rfl | rfl | rfl | rfl | rfl | rfl | rfl | rfl | rfl | rfl)⟩) <;> rfl

/-- A memory operand is a memory address. -/
theorem isMemory_iff {ρ : Type} (rm : RM ρ) : isMemory rm = true ↔ ∃ m, rm = .mem m := by
  cases rm <;> simp [isMemory]

/-- The forms that may be locked, by their memory operand: each reads and writes it, but BT, which reads it (R366). -/
def LockForm (m : EA) (i : Instr) : Prop :=
  (∃ r : Reg8, i ∈ [Instr.addRm8R8 (.mem m) r, .orRm8R8 (.mem m) r, .adcRm8R8 (.mem m) r, .sbbRm8R8 (.mem m) r,
      .andRm8R8 (.mem m) r, .subRm8R8 (.mem m) r, .xorRm8R8 (.mem m) r, .xchgRm8R8 (.mem m) r]) ∨
  (∃ r : Reg, i ∈ [Instr.addRmvRv (.mem m) r, .orRmvRv (.mem m) r, .adcRmvRv (.mem m) r, .sbbRmvRv (.mem m) r,
      .andRmvRv (.mem m) r, .subRmvRv (.mem m) r, .xorRmvRv (.mem m) r, .xchgRmvRv (.mem m) r,
      .btRmvRv (.mem m) r, .btsRmvRv (.mem m) r, .btrRmvRv (.mem m) r, .btcRmvRv (.mem m) r]) ∨
  (∃ v : Byte, i ∈ [Instr.addRm8Imm8 (.mem m) v, .orRm8Imm8 (.mem m) v, .adcRm8Imm8 (.mem m) v, .sbbRm8Imm8 (.mem m) v,
      .andRm8Imm8 (.mem m) v, .subRm8Imm8 (.mem m) v, .xorRm8Imm8 (.mem m) v, .btRmvImm8 (.mem m) v,
      .btsRmvImm8 (.mem m) v, .btrRmvImm8 (.mem m) v, .btcRmvImm8 (.mem m) v]) ∨
  (∃ v : Imm, i ∈ [Instr.addRmvImm (.mem m) v, .orRmvImm (.mem m) v, .adcRmvImm (.mem m) v, .sbbRmvImm (.mem m) v,
      .andRmvImm (.mem m) v, .subRmvImm (.mem m) v, .xorRmvImm (.mem m) v]) ∨
  i ∈ [Instr.notRm8 (.mem m), .notRmv (.mem m), .negRm8 (.mem m), .negRmv (.mem m), .incRm8 (.mem m),
      .incRmv (.mem m), .decRm8 (.mem m), .decRmv (.mem m)]

/-- Each arm of the list of lockable instructions asks for a memory operand, which makes it one of the forms. -/
theorem lockForm_of_lockable {i : Instr} (h : lockable i = true) : ∃ m, LockForm m i := by
  unfold lockable at h
  split at h
  case h_47 => cases h
  all_goals
    obtain ⟨m, rfl⟩ := (isMemory_iff _).mp h
    exact ⟨m, by simp [LockForm]⟩

theorem lockable_of_lockForm {m : EA} {i : Instr} (h : LockForm m i) : lockable i = true := by
  rcases h with ⟨r, h⟩ | ⟨r, h⟩ | ⟨v, h⟩ | ⟨v, h⟩ | h
  all_goals simp only [List.mem_cons, List.not_mem_nil, or_false] at h
  · rcases h with rfl | rfl | rfl | rfl | rfl | rfl | rfl | rfl <;> rfl
  · rcases h with rfl | rfl | rfl | rfl | rfl | rfl | rfl | rfl | rfl | rfl | rfl | rfl <;> rfl
  · rcases h with rfl | rfl | rfl | rfl | rfl | rfl | rfl | rfl | rfl | rfl | rfl <;> rfl
  · rcases h with rfl | rfl | rfl | rfl | rfl | rfl | rfl <;> rfl
  · rcases h with rfl | rfl | rfl | rfl | rfl | rfl | rfl | rfl <;> rfl

/-- Settles O60: the prefixes are recorded one by one, and what they do is asked once, before the instruction. -/
theorem prefixEffects : Obligations.PrefixEffects := by
  unfold Obligations.PrefixEffects
  exact ⟨fun i s f h => exec_of_prefixForm h s, fun s => ⟨rfl, rfl, rfl, rfl⟩, runDecoded_prefix_cases, repeatable_iff,
    fun i => ⟨lockForm_of_lockable, fun ⟨_, h⟩ => lockable_of_lockForm h⟩⟩

/-! ### The coprocessor's instructions (R176) -/

/-- Settles O59: the two tests of ESC in their order. -/
theorem coprocessorEscapeOutcome : Obligations.CoprocessorEscapeOutcome := by
  unfold Obligations.CoprocessorEscapeOutcome
  intro s a b rm
  have hexec : exec (.esc a b rm) s = execEsc a b rm s := rfl
  rw [hexec, execEsc]
  refine ⟨fun h => if_pos h, fun h herror => ?_, fun h herror => ?_⟩
  · rw [if_neg (Bool.eq_false_iff.mp h), if_pos herror]
  · rw [if_neg (Bool.eq_false_iff.mp h), if_neg (Bool.eq_false_iff.mp herror)]

end Sys2Proof.Machine
end

section
/-!
PROOFS. The two-operand and the one-operand instructions (40_arith_logic.md R200 to R214): each family has one meaning, which reads
its operands, stores its result where it stores one, and sets its flags.
-/
namespace Sys2Proof.Machine

open Sys2Proof.Claims

/-! ### Operands (R200) -/

/-- A store to an operand changes no byte outside it. -/
theorem stored_onlyBytes (s : State) (sz : Size) (l : Loc) (v : DWord) : OnlyBytes (s.storeAddrs sz l) s (s.stored sz l v) := by
  cases l with
  | reg8 r => exact fun a _ => congrArg (Memory.read · a) (State.setReg8_mem s r _)
  | reg r => exact fun a _ => congrArg (Memory.read · a) (State.setRegS_mem s sz r v)
  | mem seg off => exact storedAt_onlyBytes s seg off sz.bytes v

/-- The source as an operation: an immediate is at hand, any other source is read. -/
def readSrc (sz : Size) : Src → Op DWord
  | .loc l => readLoc sz l
  | .imm v => pure v

theorem readSrc_of_ready {x : Src} {s : State} {sz : Size} (h : x.ready s sz) : readSrc sz x s = .ok (x.val s sz) s := by
  cases x with
  | loc l => exact readLoc_of_readable h
  | imm v => rfl

/-! ### The two-operand instructions (R202 to R213) -/

/-- An instruction is what its operation does in the state it begins in. -/
theorem instr_congr {x y : Op Unit} {s : State} (h : x s = y s) : instr x s = instr y s := by
  simp only [instr, complete, atomically, h]

section
variable {op : AluOp} {s : State}

theorem instr_aluRm8 {dst src : RM Reg8} :
    instr (aluRm8 op dst src) s = instr (readSrc .byte (.loc (loc8 s src)) >>= aluLoc op .byte (loc8 s dst)) s :=
  instr_congr (query_id_bind_run _ s)

theorem instr_aluRmv {dst src : RM Reg} :
    instr (aluRmv op dst src) s = instr (readSrc s.osz.size (.loc (locV s src)) >>= aluLoc op s.osz.size (locV s dst)) s :=
  instr_congr (query_id_bind_run _ s)

theorem instr_aluImm8 (dst : RM Reg8) {imm : Byte} :
    instr (aluImm8 op dst imm) s = instr (readSrc .byte (.imm (imm.setWidth 32)) >>= aluLoc op .byte (loc8 s dst)) s :=
  instr_congr ((query_id_bind_run _ s).trans (pure_bind_run _ _ s).symm)

theorem instr_aluImmv (dst : RM Reg) {imm : DWord} :
    instr (aluImmv op dst imm) s =
      instr (readSrc s.osz.size (.imm (truncSize s.osz.size imm)) >>= aluLoc op s.osz.size (locV s dst)) s :=
  instr_congr ((query_id_bind_run _ s).trans (pure_bind_run _ _ s).symm)

end

/-- The 70 forms have one meaning: the source is read, and then the operation is done on the destination. The cases are grouped by
their operands. Those of the accumulator are turned around, so that the operation is known before the instruction is unfolded. -/
theorem exec_of_aluForm {i : Instr} {s : State} {f : AluForm} (h : aluForm s i = some f) :
    exec i s = instr (readSrc f.size f.src >>= aluLoc f.op f.size f.dst) s := by
  cases i
  case addRm8R8 | addR8Rm8 | orRm8R8 | orR8Rm8 | adcRm8R8 | adcR8Rm8 | sbbRm8R8 | sbbR8Rm8 | andRm8R8 | andR8Rm8 | subRm8R8 |
      subR8Rm8 | xorRm8R8 | xorR8Rm8 | cmpRm8R8 | cmpR8Rm8 | testRm8R8 => cases h; exact instr_aluRm8
  case addRmvRv | addRvRmv | orRmvRv | orRvRmv | adcRmvRv | adcRvRmv | sbbRmvRv | sbbRvRmv | andRmvRv | andRvRmv | subRmvRv |
      subRvRmv | xorRmvRv | xorRvRmv | cmpRmvRv | cmpRvRmv | testRmvRv => cases h; exact instr_aluRmv
  case addRm8Imm8 | orRm8Imm8 | adcRm8Imm8 | sbbRm8Imm8 | andRm8Imm8 | subRm8Imm8 | xorRm8Imm8 | cmpRm8Imm8 | testRm8Imm8 =>
    cases h; exact instr_aluImm8 _
  case addAlImm8 | orAlImm8 | adcAlImm8 | sbbAlImm8 | andAlImm8 | subAlImm8 | xorAlImm8 | cmpAlImm8 | testAlImm8 =>
    cases h; symm; exact (instr_aluImm8 (.reg .al)).symm
  case addRmvImm | orRmvImm | adcRmvImm | sbbRmvImm | andRmvImm | subRmvImm | xorRmvImm | cmpRmvImm | testRmvImmv =>
    cases h; exact instr_aluImmv _
  case addEaxImmv | orEaxImmv | adcEaxImmv | sbbEaxImmv | andEaxImmv | subEaxImmv | xorEaxImmv | cmpEaxImmv | testEaxImmv =>
    cases h; symm; exact (instr_aluImmv (.reg .eax)).symm
  all_goals cases h

/-- The flags are set last; AF of a logical operation is then drawn afresh (R210 to R213). -/
theorem aluFlags_run (op : AluOp) (sz : Size) (a b : DWord) (t : State) :
    (updateFlags (fun g => op.flags sz a b g) >>= fun _ =>
      if op.isLogical then undefFlags { StatusMask.none with af := true } else pure ()) t =
      .ok () (if op.isLogical then State.undefined { t with flags := op.flags sz a b t.flags } { StatusMask.none with af := true }
        else { t with flags := op.flags sz a b t.flags }) := by
  rw [updateFlags_bind_run]
  cases op.isLogical <;> rfl

section
variable {f : AluForm} {s : State}

/-- The operation on a destination that can be read, and written where a result is stored. -/
theorem aluLoc_of_ready (hr : Readable s f.size f.dst) (hw : f.op.writes = true → Writable s f.size f.dst) :
    aluLoc f.op f.size f.dst (f.src.val s f.size) s = .ok () (f.after s) := by
  unfold aluLoc AluForm.after
  rw [bind_of_ok (readLoc_of_readable hr), query_bind_run]
  cases hwrites : f.op.writes with
  | true =>
    refine (bind_of_ok (writeLoc_of_writable _ (hw hwrites))).trans ((aluFlags_run _ _ _ _ _).trans ?_)
    rw [State.stored_flags]
    rfl
  | false => exact aluFlags_run _ _ _ _ s

/-- Only the bytes of the destination change, and none for CMP and TEST (R206, R213). -/
theorem aluForm_after_onlyBytes : OnlyBytes (if f.op.writes then s.storeAddrs f.size f.dst else []) s (f.after s) := by
  have hmem : (f.after s).mem =
      (if f.op.writes then s.stored f.size f.dst (f.op.result f.size (s.value f.size f.dst) (f.src.val s f.size) s.flags.cf)
        else s).mem := by
    unfold AluForm.after
    cases f.op.isLogical <;> rfl
  unfold OnlyBytes
  rw [hmem]
  cases f.op.writes with
  | true => exact stored_onlyBytes s _ _ _
  | false => exact fun _ _ => rfl

end

/-- Settles O15: the 70 forms have one meaning, whose steps complete one after another. -/
theorem twoOperandResult : Obligations.TwoOperandResult := by
  unfold Obligations.TwoOperandResult
  intro i s f hf hsrc hr hw
  have hrun : (readSrc f.size f.src >>= aluLoc f.op f.size f.dst) s = .ok () (f.after s) :=
    (bind_of_ok (readSrc_of_ready hsrc)).trans (aluLoc_of_ready hr hw)
  exact ⟨(exec_of_aluForm hf).trans (instr_of_ok hrun), aluForm_after_onlyBytes⟩

/-! ### The one-operand instructions (R207 to R209, R214) -/

/-- The four operations on a location. -/
def unaryLoc : Unary → Size → Loc → Op Unit
  | .inc => incDecLoc .inc
  | .dec => incDecLoc .dec
  | .neg => negLoc
  | .not => notLoc

theorem instr_incDecV (op : IncDec) (rm : RM Reg) (s : State) :
    instr (incDecV op rm) s = instr (incDecLoc op s.osz.size (locV s rm)) s :=
  instr_congr (query_id_bind_run _ s)

/-- The ten forms are the four operations. -/
theorem exec_of_unaryForm {i : Instr} {s : State} {u : Unary} {sz : Size} {l : Loc} (h : unaryForm s i = some (u, sz, l)) :
    exec i s = instr (unaryLoc u sz l) s := by
  cases i
  case incRv r => cases h; exact instr_incDecV .inc (.reg r) s
  case decRv r => cases h; exact instr_incDecV .dec (.reg r) s
  case incRmv rm => cases h; exact instr_incDecV .inc rm s
  case decRmv rm => cases h; exact instr_incDecV .dec rm s
  case incRm8 | decRm8 | negRm8 | negRmv | notRm8 | notRmv => cases h; exact instr_congr (query_id_bind_run _ s)
  all_goals cases h

/-- The operations on an operand that can be read and written. -/
theorem unaryLoc_of_ready {s : State} {sz : Size} {l : Loc} (u : Unary) (hr : Readable s sz l) (hw : Writable s sz l) :
    unaryLoc u sz l s = .ok () (u.after s sz l) := by
  cases u
  case inc | dec | neg =>
    refine (bind_of_ok (readLoc_of_readable hr)).trans ((bind_of_ok (writeLoc_of_writable _ hw)).trans ?_)
    rw [updateFlags_run, State.stored_flags]
    rfl
  case not => exact (bind_of_ok (readLoc_of_readable hr)).trans (writeLoc_of_writable _ hw)

/-- Whatever the operation, memory is that of a store to the operand. -/
theorem unary_after_onlyBytes (u : Unary) (s : State) (sz : Size) (l : Loc) : OnlyBytes (s.storeAddrs sz l) s (u.after s sz l) := by
  cases u <;> exact stored_onlyBytes s sz l _

/-- Settles O17: the ten forms are four operations on a location. -/
theorem oneOperandResult : Obligations.OneOperandResult := by
  unfold Obligations.OneOperandResult
  intro i s u sz l hu hr hw
  exact ⟨(exec_of_unaryForm hu).trans (instr_of_ok (unaryLoc_of_ready u hr hw)), unary_after_onlyBytes u s sz l⟩

end Sys2Proof.Machine
end

section
/-!
PROOFS. What the two-operand operations compute (10_state.md R11, R36; 40_arith_logic.md R202 to R213): results as numbers modulo
2^N, the logical operations bit by bit, and parity as a count of bits.
-/
namespace Sys2Proof.Machine

/-! ### Values of a size (R11) -/

theorem truncSize_toNat (sz : Size) (v : DWord) : (truncSize sz v).toNat = v.toNat % 2 ^ sz.bits := by
  cases sz with
  | byte => exact (BitVec.toNat_and v 0xFF#32).trans (Nat.and_two_pow_sub_one_eq_mod _ 8)
  | word => exact (BitVec.toNat_and v 0xFFFF#32).trans (Nat.and_two_pow_sub_one_eq_mod _ 16)
  | dword => exact (Nat.mod_eq_of_lt v.isLt).symm

/-- Cutting a value that has the size already changes nothing. -/
theorem truncSize_of_lt {sz : Size} {v : DWord} (h : v.toNat < 2 ^ sz.bits) : truncSize sz v = v :=
  BitVec.eq_of_toNat_eq ((truncSize_toNat sz v).trans (Nat.mod_eq_of_lt h))

/-- A size divides the 2^32 values of a doubleword. -/
theorem two_pow_bits_dvd (sz : Size) : 2 ^ sz.bits ∣ 2 ^ 32 := by cases sz <;> decide

/-! ### Sums and differences (R36) -/

/-- `a + b + c` modulo 2^N. -/
theorem addResult_toNat (sz : Size) (a b : DWord) (c : Bool) :
    (addResult sz a b c).toNat = (a.toNat + b.toNat + c.toNat) % 2 ^ sz.bits := by
  have hsum : (a + b + BitVec.ofNat 32 c.toNat).toNat = (a.toNat + b.toNat + c.toNat) % 2 ^ 32 := by
    simp [BitVec.toNat_add]
  rw [addResult, truncSize_toNat, hsum, Nat.mod_mod_of_dvd _ (two_pow_bits_dvd sz)]

/-- `a - b - c` modulo 2^N, without a negative number on the way. -/
theorem subResult_toNat {sz : Size} {a b : DWord} (ha : a.toNat < 2 ^ sz.bits) (hb : b.toNat < 2 ^ sz.bits) (c : Bool) :
    (subResult sz a b c).toNat = (a.toNat + 2 * 2 ^ sz.bits - b.toNat - c.toNat) % 2 ^ sz.bits := by
  have hc : (BitVec.ofNat 32 c.toNat).toNat = c.toNat := by cases c <;> rfl
  have hc1 : c.toNat ≤ 1 := Bool.toNat_le c
  rw [subResult, truncSize_toNat, BitVec.toNat_sub, BitVec.toNat_sub, hc]
  cases sz <;> simp only [Size.bits] at ha hb ⊢ <;> omega

/-! ### Flags of a logical result (R36, R210) -/

/-- The parity of the low byte is that of its number of 1 bits (R36). -/
theorem parityEven_eq (v : DWord) : parityEven v = decide (((List.range 8).countP fun j => v.getLsbD j) % 2 = 0) := by
  have hrange : List.range 8 = [0, 1, 2, 3, 4, 5, 6, 7] := rfl
  simp only [parityEven, hrange, List.countP_cons, List.countP_nil]
  generalize v.getLsbD 0 = b0, v.getLsbD 1 = b1, v.getLsbD 2 = b2, v.getLsbD 3 = b3, v.getLsbD 4 = b4, v.getLsbD 5 = b5,
    v.getLsbD 6 = b6, v.getLsbD 7 = b7
  revert b0 b1 b2 b3 b4 b5 b6 b7
  decide

/-- The logical operations set ZF, SF and PF from a result of the size and clear CF and OF (R210 to R213). -/
theorem Flags.logic_of_lt (f : Flags) {sz : Size} {r : DWord} (h : r.toNat < 2 ^ sz.bits) :
    f.logic sz r = { f with cf := false, ofl := false, zf := decide (r = 0), sf := r.getLsbD (sz.bits - 1),
                            pf := decide (((List.range 8).countP fun j => r.getLsbD j) % 2 = 0) } := by
  rw [Flags.logic, Flags.szp, truncSize_of_lt h, parityEven_eq]
  rfl

/-- AND, OR, XOR and TEST have a result of the size of their operands. -/
theorem logical_result_lt {op : AluOp} (hop : op ∈ [AluOp.and, AluOp.or, AluOp.xor, AluOp.test]) {sz : Size} {a b : DWord}
    (ha : a.toNat < 2 ^ sz.bits) (hb : b.toNat < 2 ^ sz.bits) (c : Bool) : (op.result sz a b c).toNat < 2 ^ sz.bits := by
  have hand : (a &&& b).toNat < 2 ^ sz.bits := BitVec.toNat_and a b ▸ Nat.and_lt_two_pow _ hb
  simp only [List.mem_cons, List.not_mem_nil, or_false] at hop
  rcases hop with rfl | rfl | rfl | rfl
  · exact hand
  · exact BitVec.toNat_or a b ▸ Nat.or_lt_two_pow ha hb
  · exact BitVec.toNat_xor a b ▸ Nat.xor_lt_two_pow ha hb
  · exact hand

/-- The flags of a logical operation are those of its result. -/
theorem logical_flags {op : AluOp} (hop : op ∈ [AluOp.and, AluOp.or, AluOp.xor, AluOp.test]) (sz : Size) (a b : DWord) (c : Bool)
    (f : Flags) : op.flags sz a b f = f.logic sz (op.result sz a b c) := by
  simp only [List.mem_cons, List.not_mem_nil, or_false] at hop
  rcases hop with rfl | rfl | rfl | rfl <;> rfl

/-- Settles O16: SUB is SBB without a borrow, and the flags of the logical operations are those of their result. -/
theorem twoOperandValues : Obligations.TwoOperandValues := by
  unfold Obligations.TwoOperandValues
  intro f sz a b c ha hb m
  have hsub : (subResult sz a b false).toNat = (a.toNat + m - b.toNat) % m := by
    have hb : b.toNat < m := hb
    have hshift : a.toNat + 2 * m - b.toNat = a.toNat + m - b.toNat + m := by omega
    rw [subResult_toNat ha hb, Bool.toNat_false, Nat.sub_zero, hshift, Nat.add_mod_right]
  refine ⟨addResult_toNat sz a b false, addResult_toNat sz a b c, hsub, subResult_toNat ha hb c, fun j => BitVec.getLsbD_and,
    fun j => BitVec.getLsbD_or, fun j => BitVec.getLsbD_xor, rfl, rfl, rfl, rfl, rfl, rfl, rfl, fun op hop => ?_⟩
  exact (logical_flags hop sz a b c f).trans (f.logic_of_lt (logical_result_lt hop ha hb c))

end Sys2Proof.Machine
end

section
/-!
PROOFS. Parts of a general register (10_state.md R21, R22): what a byte or a word of it reads as after a part of it is written.
-/
namespace Sys2Proof.Machine

/-! ### A part of a doubleword replaced -/

/-- The bits of a doubleword after its low word is replaced (R21). -/
theorem getLsbD_setLow16 (old v : DWord) {i : Nat} (h : i < 32) :
    (setLow16 old v).getLsbD i = if i < 16 then v.getLsbD i else old.getLsbD i := by
  have high : ∀ i < 32, (0xFFFF0000#32).getLsbD i = !decide (i < 16) := by decide
  have low : ∀ i < 32, (0x0000FFFF#32).getLsbD i = decide (i < 16) := by decide
  rw [setLow16, BitVec.getLsbD_or, BitVec.getLsbD_and, BitVec.getLsbD_and, high i h, low i h]
  by_cases h16 : i < 16 <;> simp [h16]

theorem extractLsb'_low_setLow16 (old v : DWord) : (setLow16 old v).extractLsb' 0 16 = v.extractLsb' 0 16 := by
  apply BitVec.eq_of_getLsbD_eq
  intro i hi
  have h32 : 0 + i < 32 := by omega
  simp only [BitVec.getLsbD_extractLsb', getLsbD_setLow16 old v h32]
  simp [hi]

theorem extractLsb'_high_setLow16 (old v : DWord) : (setLow16 old v).extractLsb' 16 16 = old.extractLsb' 16 16 := by
  apply BitVec.eq_of_getLsbD_eq
  intro i hi
  have h32 : 16 + i < 32 := by omega
  have h16 : ¬16 + i < 16 := by omega
  simp only [BitVec.getLsbD_extractLsb', getLsbD_setLow16 old v h32, if_neg h16]

/-- The lowest bit of byte 1 or of byte 0. -/
def byteBit (high : Bool) : Nat := if high then 8 else 0

/-- A doubleword with byte 1 or byte 0 replaced. -/
def setByte (high : Bool) (old : DWord) (v : Byte) : DWord :=
  if high then (old &&& 0xFFFF00FF#32) ||| (v.setWidth 32 <<< 8) else (old &&& 0xFFFFFF00#32) ||| v.setWidth 32

/-- The bits of a doubleword after one of its bytes is replaced (R22). -/
theorem getLsbD_setByte (high : Bool) (old : DWord) (v : Byte) {i : Nat} (h : i < 32) :
    (setByte high old v).getLsbD i =
      if byteBit high ≤ i ∧ i < byteBit high + 8 then v.getLsbD (i - byteBit high) else old.getLsbD i := by
  have mask0 : ∀ i < 32, (0xFFFFFF00#32).getLsbD i = !decide (i < 8) := by decide
  have mask1 : ∀ i < 32, (0xFFFF00FF#32).getLsbD i = (decide (i < 8) || !decide (i < 16)) := by decide
  cases high with
  | false =>
    simp only [setByte, byteBit, Bool.false_eq_true, if_false, BitVec.getLsbD_or, BitVec.getLsbD_and, BitVec.getLsbD_setWidth,
      mask0 i h]
    by_cases h8 : i < 8
    · simp [h, h8]
    · simp [h8, BitVec.getLsbD_of_ge v i (by omega)]
  | true =>
    simp only [setByte, byteBit, if_true, BitVec.getLsbD_or, BitVec.getLsbD_and, BitVec.getLsbD_shiftLeft, BitVec.getLsbD_setWidth,
      mask1 i h]
    by_cases h8 : i < 8
    · have : ¬8 ≤ i := by omega
      simp [h8, this]
    · have hle : 8 ≤ i ∧ i - 8 < 32 := by omega
      by_cases h16 : i < 16
      · simp [h, h8, h16, hle]
      · simp [h8, h16, BitVec.getLsbD_of_ge v (i - 8) (by omega)]

/-- The byte that was replaced is the new one. -/
theorem extractLsb'_setByte_same (high : Bool) (old : DWord) (v : Byte) : (setByte high old v).extractLsb' (byteBit high) 8 = v := by
  apply BitVec.eq_of_getLsbD_eq
  intro i hi
  have hbit : byteBit high ≤ 8 := by cases high <;> decide
  have h32 : byteBit high + i < 32 := by omega
  simp [getLsbD_setByte high old v h32, hi]

/-- Every field beside it is as before. -/
theorem extractLsb'_setByte_other {high : Bool} {k n : Nat} (h : k + n ≤ byteBit high ∨ byteBit high + 8 ≤ k) (h32 : k + n ≤ 32)
    (old : DWord) (v : Byte) : (setByte high old v).extractLsb' k n = old.extractLsb' k n := by
  apply BitVec.eq_of_getLsbD_eq
  intro i hi
  have hbit : k + i < 32 := by omega
  have hout : ¬(byteBit high ≤ k + i ∧ k + i < byteBit high + 8) := by omega
  simp only [BitVec.getLsbD_extractLsb', getLsbD_setByte high old v hbit, if_neg hout]

/-! ### Byte registers (R22) -/

section
variable (s : State) (r : Reg8) (v : Byte)

theorem State.reg8_eq : s.reg8 r = (s.reg (wholeReg r)).extractLsb' (byteBit (isHighByte r)) 8 := by
  unfold State.reg8 byteBit
  split <;> rfl

theorem State.setReg8_eq : s.setReg8 r v = s.setReg (wholeReg r) (setByte (isHighByte r) (s.reg (wholeReg r)) v) := by
  unfold State.setReg8 setByte
  dsimp only
  split <;> rfl

@[simp] theorem State.reg8_setReg8_same : (s.setReg8 r v).reg8 r = v := by
  rw [State.reg8_eq, State.setReg8_eq, State.reg_setReg_same, extractLsb'_setByte_same]

/-- Writing a byte register leaves every other general register alone. -/
theorem State.reg_setReg8_other {q : Reg} (h : q ≠ wholeReg r) : (s.setReg8 r v).reg q = s.reg q := by
  rw [State.setReg8_eq, State.reg_setReg_other _ _ _ _ h]

/-- Writing a byte register changes the general registers alone. -/
theorem State.setReg8_changes_gpr : s.setReg8 r v = { s with gpr := (s.setReg8 r v).gpr } := by
  rw [State.setReg8_eq]
  rfl

/-- It leaves the upper half of every general register alone, its own among them. -/
theorem State.high_setReg8 (q : Reg) : ((s.setReg8 r v).reg q).extractLsb' 16 16 = (s.reg q).extractLsb' 16 16 := by
  by_cases h : q = wholeReg r
  · have hbit : byteBit (isHighByte r) + 8 ≤ 16 := by cases isHighByte r <;> decide
    rw [h, State.setReg8_eq, State.reg_setReg_same, extractLsb'_setByte_other (.inr hbit) (by decide)]
  · rw [State.reg_setReg8_other s r v h]

end

/-- The two byte registers of a general register are apart. -/
theorem isHighByte_ne {r q : Reg8} (hne : q ≠ r) (hwhole : wholeReg q = wholeReg r) : isHighByte q = !isHighByte r := by
  revert hne hwhole
  cases q <;> cases r <;> decide

/-- Writing a byte register leaves every other byte register alone. -/
theorem State.reg8_setReg8_other (s : State) {r q : Reg8} (h : q ≠ r) (v : Byte) : (s.setReg8 r v).reg8 q = s.reg8 q := by
  by_cases hwhole : wholeReg q = wholeReg r
  · have hapart : byteBit (isHighByte q) + 8 ≤ byteBit (isHighByte r) ∨ byteBit (isHighByte r) + 8 ≤ byteBit (isHighByte q) := by
      rw [isHighByte_ne h hwhole]
      cases isHighByte r <;> decide
    have h32 : byteBit (isHighByte q) + 8 ≤ 32 := by cases isHighByte q <;> decide
    rw [State.reg8_eq, State.reg8_eq, State.setReg8_eq, hwhole, State.reg_setReg_same, extractLsb'_setByte_other hapart h32]
  · rw [State.reg8_eq, State.reg8_eq, State.reg_setReg8_other s r v hwhole]

end Sys2Proof.Machine
end

section
/-!
PROOFS. The sign conversions and the decimal adjustments (40_arith_logic.md R215 to R222): which parts of the accumulator they
write, and the flags that their listings set.
-/
namespace Sys2Proof.Machine

open Sys2Proof.Claims

/-! ### Sign conversion (R215, R216) -/

/-- The bits of a size, of a value cut to it. -/
theorem setWidth_truncSize (sz : Size) (v : DWord) : (truncSize sz v).setWidth sz.bits = v.extractLsb' 0 sz.bits := by
  apply BitVec.eq_of_toNat_eq
  rw [BitVec.toNat_setWidth, truncSize_toNat, BitVec.extractLsb'_toNat, Nat.shiftRight_zero, Nat.mod_mod]

/-- The sign of a value cut to a size is its top bit at that size. -/
theorem signBit_truncSize (sz : Size) (v : DWord) : signBit sz (truncSize sz v) = v.getLsbD (sz.bits - 1) := by
  cases sz with
  | byte => exact (BitVec.getLsbD_and (x := v) (y := 0xFF#32)).trans (Bool.and_true _)
  | word => exact (BitVec.getLsbD_and (x := v) (y := 0xFFFF#32)).trans (Bool.and_true _)
  | dword => rfl

/-- The low word of a byte's sign extension is its sign extension to a word. -/
theorem extractLsb'_signExtend (b : Byte) : (b.signExtend 32).extractLsb' 0 16 = b.signExtend 16 := by
  apply BitVec.eq_of_getLsbD_eq
  intro i hi
  have h32 : i < 32 := by omega
  simp only [BitVec.getLsbD_extractLsb', BitVec.getLsbD_signExtend, Nat.zero_add, hi, h32, decide_true, Bool.true_and]

/-- Writing a register operand changes the general registers alone (R21). -/
theorem State.setRegS_changes_gpr (s : State) (sz : Size) (r : Reg) (v : DWord) :
    s.setRegS sz r v = { s with gpr := (s.setRegS sz r v).gpr } := by
  cases sz <;> rfl

theorem onlyRegs_setRegS (s : State) (sz : Size) (r : Reg) (v : DWord) : OnlyRegs [r] s (s.setRegS sz r v) :=
  fun q hq => State.reg_setRegS_other s sz r q v fun h => hq (h ▸ List.mem_singleton_self q)

/-- The low word of a register after it is written as a word (R21). -/
theorem low_setRegS_word (s : State) (r : Reg) (v : DWord) :
    ((s.setRegS .word r v).reg r).extractLsb' 0 16 = v.extractLsb' 0 16 := by
  rw [State.setRegS, State.reg_setReg_same, extractLsb'_low_setLow16]

/-- Its upper half is kept (R21). -/
theorem high_setRegS_word (s : State) (r : Reg) (v : DWord) :
    ((s.setRegS .word r v).reg r).extractLsb' 16 16 = (s.reg r).extractLsb' 16 16 := by
  rw [State.setRegS, State.reg_setReg_same, extractLsb'_high_setLow16]

/-- A sign spread over a word. -/
theorem extractLsb'_ones (b : Bool) :
    (if b then 0xFFFFFFFF#32 else 0#32).extractLsb' 0 16 = if b then 0xFFFF#16 else 0#16 := by
  cases b <;> decide

/-- CBW, or CWDE with 32-bit operands, is a write to the accumulator (R215). -/
theorem convertAcc_result (s : State) : ∃ t, instr convertAcc s = .next t ∧ t = { s with gpr := t.gpr } ∧ OnlyRegs [.eax] s t ∧
    (s.osz = .w16 → (t.reg .eax).extractLsb' 0 16 = (s.reg8 .al).signExtend 16 ∧
      (t.reg .eax).extractLsb' 16 16 = (s.reg .eax).extractLsb' 16 16) ∧
    (s.osz = .w32 → t.reg .eax = ((s.reg .eax).extractLsb' 0 16).signExtend 32) := by
  cases hsize : s.osz with
  | w16 =>
    have hrun : convertAcc s = .ok () (s.setRegS .word .eax (signExtendFrom .byte (s.acc .byte))) := by
      simp only [convertAcc, update_run, hsize]
    have hvalue : signExtendFrom .byte (s.acc .byte) = (s.reg8 .al).signExtend 32 :=
      congrArg (BitVec.signExtend 32) (setWidth_truncSize .byte _)
    refine ⟨_, instr_of_ok hrun, State.setRegS_changes_gpr .., onlyRegs_setRegS _ _ _ _, fun _ => ⟨?_, high_setRegS_word ..⟩, nofun⟩
    rw [low_setRegS_word, hvalue, extractLsb'_signExtend]
  | w32 =>
    have hrun : convertAcc s = .ok () (s.setRegS .dword .eax (signExtendFrom .word (s.acc .word))) := by
      simp only [convertAcc, update_run, hsize]
    have hvalue : signExtendFrom .word (s.acc .word) = ((s.reg .eax).extractLsb' 0 16).signExtend 32 :=
      congrArg (BitVec.signExtend 32) (setWidth_truncSize .word _)
    refine ⟨_, instr_of_ok hrun, State.setRegS_changes_gpr .., onlyRegs_setRegS _ _ _ _, nofun, fun _ => ?_⟩
    exact (State.reg_setReg_same ..).trans hvalue

/-- CWD, or CDQ with 32-bit operands, is a write to EDX (R216). -/
theorem convertDouble_result (s : State) : ∃ t, instr convertDouble s = .next t ∧ t = { s with gpr := t.gpr } ∧
    OnlyRegs [.edx] s t ∧
    (s.osz = .w16 → (t.reg .edx).extractLsb' 0 16 = (if (s.reg .eax).getLsbD 15 then 0xFFFF#16 else 0#16) ∧
      (t.reg .edx).extractLsb' 16 16 = (s.reg .edx).extractLsb' 16 16) ∧
    (s.osz = .w32 → t.reg .edx = if (s.reg .eax).getLsbD 31 then 0xFFFFFFFF#32 else 0#32) := by
  have hsign : signBit s.osz.size (s.acc s.osz.size) = (s.reg .eax).getLsbD (s.osz.size.bits - 1) := signBit_truncSize ..
  refine ⟨_, instr_of_ok (update_run _ s), State.setRegS_changes_gpr .., onlyRegs_setRegS _ _ _ _, fun h => ?_, fun h => ?_⟩
  · rw [hsign, h]
    exact ⟨(low_setRegS_word ..).trans (extractLsb'_ones _), high_setRegS_word ..⟩
  · rw [hsign, h]
    exact State.reg_setReg_same ..

/-- Settles O18: each conversion is a write to one register. -/
theorem signConversionResult : Obligations.SignConversionResult := by
  unfold Obligations.SignConversionResult
  exact ⟨fun w => by cases w <;> exact ⟨rfl, rfl⟩, fun s => ⟨convertAcc_result s, convertDouble_result s⟩⟩

/-! ### Decimal adjustment (R217 to R222) -/

/-- Nothing changes but the flags, the draws and the low half of EAX. -/
def AxOnly (s t : State) : Prop :=
  t = { s with gpr := t.gpr, flags := t.flags, draws := t.draws } ∧ OnlyRegs [.eax] s t ∧
    (t.reg .eax).extractLsb' 16 16 = (s.reg .eax).extractLsb' 16 16

/-- `t` has `lo` in AL and `hi` in AH, and differs from `s` in nothing else but flags and draws. -/
def Adjusted (s t : State) (lo hi : Byte) : Prop := AxOnly s t ∧ t.reg8 .al = lo ∧ t.reg8 .ah = hi

theorem axOnly_refl (s : State) : AxOnly s s := ⟨rfl, fun _ _ => rfl, rfl⟩

/-- Writing AL or AH stays within AX. -/
theorem axOnly_setReg8 {s t : State} (h : AxOnly s t) {r : Reg8} (hr : wholeReg r = .eax) (v : Byte) : AxOnly s (t.setReg8 r v) := by
  obtain ⟨hstate, hregs, hhigh⟩ := h
  refine ⟨?_, fun q hq => ?_, (State.high_setReg8 t r v .eax).trans hhigh⟩
  · rw [State.setReg8_flags, State.setReg8_draws]
    exact (State.setReg8_changes_gpr t r v).trans (congrArg (fun u : State => { u with gpr := (t.setReg8 r v).gpr }) hstate)
  · have hne : q ≠ wholeReg r := fun h => hq (hr ▸ h ▸ List.mem_singleton_self q)
    exact (State.reg_setReg8_other t r v hne).trans (hregs q hq)

theorem adjusted_al (s : State) (lo : Byte) : Adjusted s (s.setReg8 .al lo) lo (s.reg8 .ah) :=
  ⟨axOnly_setReg8 (axOnly_refl s) rfl lo, State.reg8_setReg8_same .., State.reg8_setReg8_other s (by decide) lo⟩

/-- AL written and then AH. -/
theorem adjusted_al_ah (s : State) (lo hi : Byte) : Adjusted s ((s.setReg8 .al lo).setReg8 .ah hi) lo hi :=
  ⟨axOnly_setReg8 (axOnly_setReg8 (axOnly_refl s) rfl lo) rfl hi,
    (State.reg8_setReg8_other _ (by decide) hi).trans (State.reg8_setReg8_same ..), State.reg8_setReg8_same ..⟩

/-- AH written and then AL. -/
theorem adjusted_ah_al (s : State) (lo hi : Byte) : Adjusted s ((s.setReg8 .ah hi).setReg8 .al lo) lo hi :=
  ⟨axOnly_setReg8 (axOnly_setReg8 (axOnly_refl s) rfl hi) rfl lo, State.reg8_setReg8_same ..,
    (State.reg8_setReg8_other _ (by decide) lo).trans (State.reg8_setReg8_same ..)⟩

section
variable {s t : State} {lo hi : Byte}

/-- The flags may change besides. -/
theorem adjusted_flags (h : Adjusted s t lo hi) (f : Flags) : Adjusted s { t with flags := f } lo hi := by
  obtain ⟨⟨hstate, hregs, hhigh⟩, hal, hah⟩ := h
  exact ⟨⟨congrArg (fun u : State => { u with flags := f }) hstate, hregs, hhigh⟩, hal, hah⟩

/-- Flags may be drawn afresh besides. -/
theorem adjusted_undefined (h : Adjusted s t lo hi) (m : StatusMask) : Adjusted s (t.undefined m) lo hi := by
  obtain ⟨⟨hstate, hregs, hhigh⟩, hal, hah⟩ := h
  have hundefined := congrArg (fun u : State => { u with flags := (t.undefined m).flags, draws := t.draws + 1 }) hstate
  exact ⟨⟨hundefined, hregs, hhigh⟩, hal, hah⟩

end

/-- The test of the low digit of AL, as a number (R217 to R222). -/
theorem needsAdjust_eq (al : Byte) (af : Bool) : needsAdjust al af = (decide (9 < al.toNat % 16) || af) := by
  have hdigit : (al &&& 0x0F#8).toNat = al.toNat % 16 := (BitVec.toNat_and al 0x0F#8).trans (Nat.and_two_pow_sub_one_eq_mod _ 4)
  rw [needsAdjust, hdigit]

section
variable (s : State)

theorem exec_aaa : exec .aaa s = instr (asciiAdjust (fun al => al + 6) fun ah => ah + 1) s := rfl

theorem exec_aas : exec .aas s = instr (asciiAdjust (fun al => al - 6) fun ah => ah - 1) s := rfl

theorem exec_aad : exec .aad s =
    instr (update (fun s => (s.setReg8 .al (s.reg8 .ah * 10#8 + s.reg8 .al)).setReg8 .ah 0) >>= fun _ => adjustFlags) s := rfl

theorem exec_aam : exec .aam s =
    instr (update (fun s => (s.setReg8 .ah (s.reg8 .al / 10#8)).setReg8 .al (s.reg8 .al % 10#8)) >>= fun _ => adjustFlags) s := rfl

theorem exec_daa : exec .daa s = instr (decimalAdjust fun a b => a + b) s := rfl

theorem exec_das : exec .das s = instr (decimalAdjust fun a b => a - b) s := rfl

end

/-- AAA and AAS: both digits are adjusted, or the high digit of AL is cleared alone (R217, R218). -/
theorem asciiAdjust_result {i : Instr} {s : State} {digit carry : Byte → Byte} (hexec : exec i s = instr (asciiAdjust digit carry) s)
    {adj : Bool} (hadj : needsAdjust (s.reg8 .al) s.flags.af = adj) :
    ∃ t, exec i s = .next t ∧ AxOnly s t ∧
      t.reg8 .al = (if adj then digit (s.reg8 .al) else s.reg8 .al) &&& 0x0F#8 ∧
      t.reg8 .ah = (if adj then carry (s.reg8 .ah) else s.reg8 .ah) ∧
      t.flags = { s.flags with
        af := adj, cf := adj, ofl := (Config.undef s.draws).getLsbD 11, sf := (Config.undef s.draws).getLsbD 7,
        zf := (Config.undef s.draws).getLsbD 6, pf := (Config.undef s.draws).getLsbD 2 } := by
  have hrun : asciiAdjust digit carry s = .ok () (State.undefined
      { (if adj then (s.setReg8 .al (digit (s.reg8 .al) &&& 0x0F#8)).setReg8 .ah (carry (s.reg8 .ah))
          else s.setReg8 .al (s.reg8 .al &&& 0x0F#8)) with flags := { s.flags with af := adj, cf := adj } }
      { StatusMask.none with ofl := true, sf := true, zf := true, pf := true }) := by
    simp only [asciiAdjust, update_bind_run, undefFlags_run, hadj]
    cases adj <;> rfl
  cases adj with
  | true =>
    obtain ⟨honly, hal, hah⟩ := adjusted_undefined (adjusted_flags (adjusted_al_ah s _ _) _) _
    exact ⟨_, hexec.trans (instr_of_ok hrun), honly, hal, hah, rfl⟩
  | false =>
    obtain ⟨honly, hal, hah⟩ := adjusted_undefined (adjusted_flags (adjusted_al s _) _) _
    exact ⟨_, hexec.trans (instr_of_ok hrun), honly, hal, hah, rfl⟩

/-- AAD and AAM end alike once AL and AH are written: SF, ZF and PF follow AL, and OF, AF and CF are free (R219, R220). -/
theorem adjustFlags_result {i : Instr} {s : State} {write : State → State}
    (hexec : exec i s = instr (update write >>= fun _ => adjustFlags) s) {lo hi : Byte} (h : Adjusted s (write s) lo hi)
    (hflags : (write s).flags = s.flags) (hdraws : (write s).draws = s.draws) :
    ∃ t, exec i s = .next t ∧ AxOnly s t ∧ t.reg8 .al = lo ∧ t.reg8 .ah = hi ∧
      t.flags = { s.flags.szp .byte (lo.setWidth 32) with
        ofl := (Config.undef s.draws).getLsbD 11, af := (Config.undef s.draws).getLsbD 4,
        cf := (Config.undef s.draws).getLsbD 0 } := by
  have ⟨_, hwritten, _⟩ := h
  have hrun : (update write >>= fun _ => adjustFlags) s = .ok () (State.undefined
      { write s with flags := (write s).flags.szp .byte (((write s).reg8 .al).setWidth 32) }
      { StatusMask.none with ofl := true, af := true, cf := true }) :=
    (update_bind_run _ _ s).trans ((update_bind_run _ _ _).trans (undefFlags_run _ _))
  obtain ⟨honly, hal, hah⟩ := adjusted_undefined (adjusted_flags h _) _
  refine ⟨_, hexec.trans (instr_of_ok hrun), honly, hal, hah, ?_⟩
  rw [← hflags, ← hdraws, ← hwritten]
  rfl

/-- DAA and DAS: the two tests of the listing, the second on the AL that the first leaves (R221, R222). -/
theorem decimalAdjust_result {i : Instr} {s : State} {change : Byte → Byte → Byte} (hexec : exec i s = instr (decimalAdjust change) s)
    {adj : Bool} (hadj : needsAdjust (s.reg8 .al) s.flags.af = adj) :
    let a1 := if adj then change (s.reg8 .al) 6 else s.reg8 .al
    let c := decide (0x9F < a1.toNat) || s.flags.cf
    let a2 := if c then change a1 0x60 else a1
    ∃ t, exec i s = .next t ∧ AxOnly s t ∧ t.reg8 .al = a2 ∧ t.reg8 .ah = s.reg8 .ah ∧ t.draws = s.draws ∧
      t.flags = { s.flags.szp .byte (a2.setWidth 32) with af := adj, cf := c } := by
  subst hadj
  obtain ⟨honly, hal, hah⟩ := adjusted_flags (adjusted_al s _) _
  exact ⟨_, hexec.trans (instr_of_ok (update_run _ s)), honly, hal, hah, rfl, rfl⟩

/-- Settles O19: the six listings are three operations, each of which writes AL and AH and then the flags. -/
theorem decimalAdjustResult : Obligations.DecimalAdjustResult := by
  unfold Obligations.DecimalAdjustResult
  intro s al ah adj u only ascii product packed
  have hadj : needsAdjust al s.flags.af = adj := needsAdjust_eq al s.flags.af
  have hsum : ah * 10#8 + al = BitVec.ofNat 8 (ah.toNat * 10 + al.toNat) := by
    apply BitVec.eq_of_toNat_eq
    simp [BitVec.toNat_add, BitVec.toNat_mul]
  have haad : Adjusted s ((s.setReg8 .al (ah * 10#8 + al)).setReg8 .ah 0) (BitVec.ofNat 8 (ah.toNat * 10 + al.toNat)) 0 := by
    rw [← hsum]
    exact adjusted_al_ah ..
  have haam : Adjusted s ((s.setReg8 .ah (al / 10#8)).setReg8 .al (al % 10#8)) (BitVec.ofNat 8 (al.toNat % 10))
      (BitVec.ofNat 8 (al.toNat / 10)) := by
    have hlo : al % 10#8 = BitVec.ofNat 8 (al.toNat % 10) := BitVec.eq_of_toNat_eq (by simp; omega)
    have hhi : al / 10#8 = BitVec.ofNat 8 (al.toNat / 10) := BitVec.eq_of_toNat_eq (by simp; omega)
    rw [← hlo, ← hhi]
    exact adjusted_ah_al ..
  exact ⟨asciiAdjust_result (exec_aaa s) hadj, asciiAdjust_result (exec_aas s) hadj, adjustFlags_result (exec_aad s) haad rfl rfl,
    adjustFlags_result (exec_aam s) haam rfl rfl, decimalAdjust_result (exec_daa s) hadj, decimalAdjust_result (exec_das s) hadj⟩

end Sys2Proof.Machine
end

section
/-!
PROOFS. Values of a size (10_state.md R11; 40_arith_logic.md R200): their bits, their signed reading, and operands.
-/
namespace Sys2Proof.Machine

/-! ### Sizes -/

theorem bits_pos (sz : Size) : 0 < sz.bits := by cases sz <;> decide

theorem bits_le (sz : Size) : sz.bits ≤ 32 := by cases sz <;> decide

theorem top_lt (sz : Size) : sz.bits - 1 < 32 := by cases sz <;> decide

theorem bits_eq_bytes (sz : Size) : sz.bits = 8 * sz.bytes := by cases sz <;> rfl

/-! ### Bits -/

theorem truncSize_lt (sz : Size) (v : DWord) : (truncSize sz v).toNat < 2 ^ sz.bits :=
  truncSize_toNat sz v ▸ Nat.mod_lt _ (Nat.two_pow_pos _)

theorem getLsbD_truncSize (sz : Size) (v : DWord) (j : Nat) :
    (truncSize sz v).getLsbD j = (decide (j < sz.bits) && v.getLsbD j) := by
  rw [BitVec.getLsbD, truncSize_toNat, Nat.testBit_mod_two_pow]
  rfl

/-- A value of a size has no bits from the size on. -/
theorem getLsbD_of_bits_le {sz : Size} {v : DWord} (h : v.toNat < 2 ^ sz.bits) {j : Nat} (hj : sz.bits ≤ j) : v.getLsbD j = false :=
  Nat.testBit_lt_two_pow (Nat.lt_of_lt_of_le h (Nat.pow_le_pow_right (by decide) hj))

theorem getLsbD_bitAt (b : Bool) (i j : Nat) : (bitAt b i).getLsbD j = (b && decide (i < 32) && decide (j = i)) := by
  cases b with
  | false => simp [bitAt]
  | true =>
    rw [bitAt, if_pos rfl, BitVec.getLsbD_shiftLeft, BitVec.getLsbD_one, Bool.true_and, Bool.eq_iff_iff]
    simp only [Bool.and_eq_true, Bool.not_eq_true', decide_eq_true_eq, decide_eq_false_iff_not]
    omega

theorem toNat_bitAt (b : Bool) {i : Nat} (h : i < 32) : (bitAt b i).toNat = b.toNat * 2 ^ i := by
  cases b with
  | false => simp [bitAt]
  | true =>
    have hlt : 2 ^ i < 2 ^ 32 := Nat.pow_lt_pow_right (by decide) h
    rw [bitAt, if_pos rfl, BitVec.toNat_shiftLeft, BitVec.toNat_one (by decide), Nat.shiftLeft_eq, Nat.one_mul,
      Nat.mod_eq_of_lt hlt, Bool.toNat_true, Nat.one_mul]

/-! ### The signed reading -/

theorem toSigned_eq_bmod (sz : Size) (v : DWord) : toSigned sz v = Int.bmod v.toNat (2 ^ sz.bits) := by
  cases sz with
  | byte => exact BitVec.toInt_setWidth v
  | word => exact BitVec.toInt_setWidth v
  | dword => exact BitVec.toInt_eq_toNat_bmod v

/-- The top bit of a value of a size says whether it is in the upper half of its range. -/
theorem signBit_eq_decide {sz : Size} {v : DWord} (h : v.toNat < 2 ^ sz.bits) :
    signBit sz v = decide (2 ^ (sz.bits - 1) ≤ v.toNat) := by
  rw [signBit, BitVec.getLsbD, Nat.testBit_eq_decide_div_mod_eq, decide_eq_decide]
  cases sz <;> simp only [Size.bits] at h ⊢ <;> omega

/-- A signed value is the unsigned one, less 2^N in the upper half of the range. -/
theorem toSigned_of_lt {sz : Size} {v : DWord} (h : v.toNat < 2 ^ sz.bits) :
    toSigned sz v = (v.toNat : Int) - if 2 ^ (sz.bits - 1) ≤ v.toNat then 2 ^ sz.bits else 0 := by
  rw [toSigned_eq_bmod, Int.bmod_def]
  by_cases htop : 2 ^ (sz.bits - 1) ≤ v.toNat
  · rw [if_pos htop, if_neg]
    all_goals cases sz <;> simp only [Size.bits] at h htop ⊢ <;> omega
  · rw [if_neg htop, if_pos]
    all_goals cases sz <;> simp only [Size.bits] at h htop ⊢ <;> omega

/-! ### Operands -/

/-- A value put together from bytes has eight bits for each of them (R80). -/
theorem toNat_valueOf_lt (bs : List Byte) : (valueOf bs).toNat < 2 ^ (8 * bs.length) := by
  induction bs with
  | nil => decide
  | cons b rest ih =>
    have hshift : (valueOf rest <<< 8).toNat < 2 ^ (8 * (rest.length + 1)) := by
      rw [BitVec.toNat_shiftLeft, Nat.shiftLeft_eq]
      refine Nat.lt_of_le_of_lt (Nat.mod_le _ _) ?_
      rw [Nat.mul_add_one 8, Nat.pow_add]
      exact Nat.mul_lt_mul_of_pos_right ih (by decide)
    have hbyte : (b.setWidth 32).toNat < 2 ^ (8 * (rest.length + 1)) := by
      rw [BitVec.toNat_setWidth_of_le (by decide)]
      exact Nat.lt_of_lt_of_le b.isLt (Nat.pow_le_pow_right (by decide) (by omega))
    rw [valueOf, BitVec.toNat_or]
    exact Nat.or_lt_two_pow hbyte hshift

theorem State.range_length_le (s : State) (k : AccessKind) (seg : SReg) (off : DWord) (n : Nat) :
    ((s.range k seg off n).getD []).length ≤ n := by
  unfold State.range
  cases h : translateRange k s.user n (s.linear seg off) s with
  | ok addrs t => exact Nat.le_of_eq (translateRange_length h)
  | error e t => exact Nat.zero_le n

/-- The value of an operand is a value of its size. -/
theorem State.value_lt (s : State) (sz : Size) (l : Loc) : (s.value sz l).toNat < 2 ^ sz.bits := by
  have hpow {k : Nat} (h : k ≤ sz.bits) : 2 ^ k ≤ 2 ^ sz.bits := Nat.pow_le_pow_right (by decide) h
  cases l with
  | reg8 r =>
    have h8 : 8 ≤ sz.bits := by cases sz <;> decide
    rw [State.value, BitVec.toNat_setWidth_of_le (by decide)]
    exact Nat.lt_of_lt_of_le (s.reg8 r).isLt (hpow h8)
  | reg r => exact truncSize_lt sz (s.reg r)
  | mem seg off =>
    refine Nat.lt_of_lt_of_le (toNat_valueOf_lt _) (hpow ?_)
    rw [Memory.readAll, List.length_map, bits_eq_bytes]
    exact Nat.mul_le_mul_left 8 (s.range_length_le .read seg off sz.bytes)

/-! ### Register operands (R21) -/

theorem State.regS_toNat (s : State) (sz : Size) (r : Reg) : (s.regS sz r).toNat = (s.reg r).toNat % 2 ^ sz.bits :=
  truncSize_toNat sz _

/-- A field that a mask selects reads as what was put there, whatever stands beside it. -/
theorem and_mask_of_replaced {a b : DWord} (h : a &&& b = 0) (old v : DWord) : ((old &&& a) ||| (v &&& b)) &&& b = v &&& b := by
  rw [BitVec.and_or_distrib_right, BitVec.and_assoc, h, BitVec.and_assoc, BitVec.and_self]
  exact (congrArg (· ||| (v &&& b)) BitVec.and_zero).trans BitVec.zero_or

/-- A register operand reads back as what was written, cut to the size (R21). -/
theorem State.regS_setRegS_same (s : State) (sz : Size) (r : Reg) (v : DWord) : (s.setRegS sz r v).regS sz r = truncSize sz v := by
  cases sz with
  | byte => exact (congrArg (truncSize .byte) (State.reg_setReg_same ..)).trans (and_mask_of_replaced (by decide) _ _)
  | word => exact (congrArg (truncSize .word) (State.reg_setReg_same ..)).trans (and_mask_of_replaced (by decide) _ _)
  | dword => exact State.reg_setReg_same ..

theorem State.regS_setRegS_other (s : State) (sz : Size) {r q : Reg} (h : q ≠ r) (v : DWord) :
    (s.setRegS sz r v).regS sz q = s.regS sz q :=
  congrArg (truncSize sz) (State.reg_setRegS_other s sz r q v h)

end Sys2Proof.Machine
end

section
/-!
PROOFS. Multiplication and division (41_muldiv_shift_bit.md R251 to R255): numbers that wrap at a width, the two halves of the
accumulator, and one operation for each of the four families.
-/
namespace Sys2Proof.Machine

open Sys2Proof.Claims

/-! ### Numbers that wrap at a width (10_state.md R11) -/

/-- The value of N bits, signed or not, that a number wraps to. -/
def wrap (signed : Bool) (N : Nat) (p : Int) : Int := if signed then Int.bmod p (2 ^ N) else p % 2 ^ N

theorem wrap_true (N : Nat) (p : Int) : wrap true N p = Int.bmod p (2 ^ N) := rfl

theorem wrap_false (N : Nat) (p : Int) : wrap false N p = p % 2 ^ N := rfl

/-- Wrapping looks at the number modulo 2^N alone. -/
theorem wrap_emod (signed : Bool) (N : Nat) (p : Int) : wrap signed N (p % 2 ^ N) = wrap signed N p := by
  cases signed with
  | true => exact_mod_cast Int.emod_bmod p (2 ^ N)
  | false => exact Int.emod_emod_of_dvd p (Int.dvd_refl _)

theorem fits_signed (sz : Size) (p : Int) : fits true sz p = true ↔ -2 ^ (sz.bits - 1) ≤ p ∧ p < 2 ^ (sz.bits - 1) := by
  simp only [fits, if_true, Bool.and_eq_true, decide_eq_true_eq]

theorem fits_unsigned (sz : Size) (p : Int) : fits false sz p = true ↔ 0 ≤ p ∧ p < 2 ^ sz.bits := by
  simp only [fits, Bool.false_eq_true, if_false, Bool.and_eq_true, decide_eq_true_eq]

theorem fits_natCast (sz : Size) (p : Nat) : fits false sz p = true ↔ p < 2 ^ sz.bits := by
  rw [fits_unsigned, and_iff_right (Int.natCast_nonneg p)]
  exact_mod_cast Iff.rfl

/-- The numbers that fit a size are those that do not change when they wrap at it. -/
theorem fits_iff (signed : Bool) (sz : Size) (p : Int) : fits signed sz p = true ↔ wrap signed sz.bits p = p := by
  cases signed with
  | true =>
    rw [fits_signed, wrap_true, Int.bmod_def]
    cases sz <;> simp only [Size.bits] <;> omega
  | false =>
    rw [fits_unsigned, wrap_false]
    cases sz <;> simp only [Size.bits] <;> omega

theorem number_eq_wrap (signed : Bool) {sz : Size} {v : DWord} (h : v.toNat < 2 ^ sz.bits) :
    number signed sz v = wrap signed sz.bits v.toNat := by
  cases signed with
  | true => exact toSigned_eq_bmod sz v
  | false =>
    have hlt : (v.toNat : Int) < 2 ^ sz.bits := by exact_mod_cast h
    exact (Int.emod_eq_of_lt (Int.natCast_nonneg _) hlt).symm

/-- A value of a size is the number that it is congruent to, if that number fits. -/
theorem number_of_fits {signed : Bool} {sz : Size} {v : DWord} {p : Int} (h : v.toNat < 2 ^ sz.bits)
    (hmod : (v.toNat : Int) = p % 2 ^ sz.bits) (hfits : fits signed sz p = true) : number signed sz v = p := by
  rw [number_eq_wrap signed h, hmod, wrap_emod, (fits_iff signed sz p).mp hfits]

/-- A value of a size, as a number, fits the size. -/
theorem fits_number (signed : Bool) {sz : Size} {v : DWord} (h : v.toNat < 2 ^ sz.bits) : fits signed sz (number signed sz v) = true := by
  rw [fits_iff, number_eq_wrap signed h]
  cases signed with
  | true => exact Int.bmod_bmod
  | false => exact Int.emod_emod_of_dvd _ (Int.dvd_refl _)

/-! ### The two halves of the accumulator (R251, R254) -/

/-- The upper half of AX, DX:AX or EDX:EAX: AH, DX or EDX. -/
def upperHalf (s : State) (sz : Size) : DWord := if sz = .byte then (s.reg8 .ah).setWidth 32 else s.regS sz .edx

theorem upperHalf_lt (s : State) (sz : Size) : (upperHalf s sz).toNat < 2 ^ sz.bits := by
  cases sz with
  | byte => exact Nat.lt_of_le_of_lt (Nat.le_of_eq (BitVec.toNat_setWidth_of_le (b := s.reg8 .ah) (by decide : 8 ≤ 32))) (s.reg8 .ah).isLt
  | word => exact truncSize_lt .word _
  | dword => exact truncSize_lt .dword _

/-- The accumulator pair is its two halves. -/
theorem wide_eq_halves (s : State) (sz : Size) : s.wide sz = (upperHalf s sz).toNat * 2 ^ sz.bits + (s.acc sz).toNat := by
  cases sz with
  | byte =>
    have hah : (upperHalf s .byte).toNat = (s.reg .eax).toNat / 256 % 256 := by
      refine (BitVec.toNat_setWidth_of_le (b := s.reg8 .ah) (by decide : 8 ≤ 32)).trans ?_
      rw [State.reg8_eq, BitVec.extractLsb'_toNat, Nat.shiftRight_eq_div_pow]
      rfl
    rw [hah, State.acc, State.wide, State.regS_toNat, State.regS_toNat]
    simp only [Size.bits]
    omega
  | word => rfl
  | dword => rfl

theorem wide_lt (s : State) (sz : Size) : s.wide sz < 2 ^ (2 * sz.bits) := by
  have hacc : (s.acc sz).toNat < 2 ^ sz.bits := truncSize_lt ..
  have hupper := upperHalf_lt s sz
  rw [wide_eq_halves]
  cases sz <;> simp only [Size.bits] at hacc hupper ⊢ <;> omega

/-- The pair read as a number of twice the size. -/
theorem wideValue_eq_wrap (signed : Bool) (s : State) (sz : Size) : wideValue signed s sz = wrap signed (2 * sz.bits) (s.wide sz) := by
  have hlt : (s.wide sz : Int) < 2 ^ (2 * sz.bits) := by exact_mod_cast wide_lt s sz
  have hmod : (s.wide sz : Int) % 2 ^ (2 * sz.bits) = s.wide sz := Int.emod_eq_of_lt (Int.natCast_nonneg _) hlt
  cases signed with
  | true =>
    have hhalf : ((2 : Int) ^ (2 * sz.bits) + 1) / 2 = 2 ^ (2 * sz.bits - 1) := by cases sz <;> rfl
    have hcast : ((2 ^ (2 * sz.bits) : Nat) : Int) = 2 ^ (2 * sz.bits) := by push_cast; rfl
    rw [wideValue, if_pos rfl, State.wideSigned, wrap_true, Int.bmod_def, hcast, hmod, hhalf]
    congr 1
    exact_mod_cast rfl
  | false => exact hmod.symm

/-- AX after its two bytes are written together (R251). -/
theorem wide_setWide_byte (s : State) (lo hi : DWord) :
    (s.setWide .byte lo hi).wide .byte = (truncSize .byte hi).toNat * 2 ^ 8 + (truncSize .byte lo).toNat := by
  have hlo : (truncSize .byte lo).toNat < 2 ^ 8 := truncSize_lt ..
  have hhi : (truncSize .byte hi).toNat < 2 ^ 8 := truncSize_lt ..
  have hpair : (truncSize .byte hi <<< 8 ||| truncSize .byte lo).toNat = (truncSize .byte hi).toNat * 2 ^ 8 + (truncSize .byte lo).toNat := by
    rw [BitVec.toNat_or, BitVec.toNat_shiftLeft, Nat.mod_eq_of_lt (by rw [Nat.shiftLeft_eq]; omega),
      ← Nat.shiftLeft_add_eq_or_of_lt hlo, Nat.shiftLeft_eq]
  refine (congrArg BitVec.toNat (State.regS_setRegS_same s .word .eax _)).trans ?_
  rw [truncSize_toNat, hpair]
  exact Nat.mod_eq_of_lt (by simp only [Size.bits]; omega)

/-- EAX and then EDX written at a size: EAX is read back past the write of EDX. -/
theorem acc_setRegS_pair (s : State) (sz : Size) (lo hi : DWord) :
    ((s.setRegS sz .eax lo).setRegS sz .edx hi).acc sz = truncSize sz lo :=
  (State.regS_setRegS_other _ sz (by decide) hi).trans (State.regS_setRegS_same s sz .eax lo)

/-- Both halves are written at the size. -/
theorem halves_setWide (s : State) (sz : Size) (lo hi : DWord) :
    (s.setWide sz lo hi).acc sz = truncSize sz lo ∧ upperHalf (s.setWide sz lo hi) sz = truncSize sz hi := by
  cases sz with
  | byte =>
    have hlo : (truncSize .byte lo).toNat < 2 ^ 8 := truncSize_lt ..
    have hacc : ((s.setWide .byte lo hi).acc .byte).toNat < 2 ^ 8 := truncSize_lt ..
    have hwide := wide_setWide_byte s lo hi
    rw [wide_eq_halves] at hwide
    simp only [Size.bits] at hwide
    constructor <;> apply BitVec.eq_of_toNat_eq <;> omega
  | word => exact ⟨acc_setRegS_pair s .word lo hi, State.regS_setRegS_same _ .word .edx hi⟩
  | dword => exact ⟨acc_setRegS_pair s .dword lo hi, State.regS_setRegS_same _ .dword .edx hi⟩

/-- Writing the pair changes the general registers alone. -/
theorem setWide_changes_gpr (s : State) (sz : Size) (lo hi : DWord) : s.setWide sz lo hi = { s with gpr := (s.setWide sz lo hi).gpr } := by
  cases sz <;> rfl

theorem onlyRegs_setWide (s : State) (sz : Size) (lo hi : DWord) : OnlyRegs [.eax, .edx] s (s.setWide sz lo hi) := by
  intro q hq
  have ha : q ≠ .eax := fun h => hq (h ▸ by simp)
  have hd : q ≠ .edx := fun h => hq (h ▸ by simp)
  cases sz with
  | byte => exact State.reg_setRegS_other s _ _ q _ ha
  | word => exact (State.reg_setRegS_other _ _ _ q _ hd).trans (State.reg_setRegS_other s _ _ q _ ha)
  | dword => exact (State.reg_setRegS_other _ _ _ q _ hd).trans (State.reg_setRegS_other s _ _ q _ ha)

theorem keepsHalves_setWide (s : State) (sz : Size) (lo hi : DWord) : KeepsHalves sz s (s.setWide sz lo hi) := by
  cases sz with
  | byte => exact ⟨high_setRegS_word .., State.reg_setRegS_other _ _ _ _ _ (by decide)⟩
  | word =>
    have heax : ((s.setRegS .word .eax lo).setRegS .word .edx hi).reg .eax = (s.setRegS .word .eax lo).reg .eax :=
      State.reg_setRegS_other _ _ _ _ _ (by decide)
    have hedx : (s.setRegS .word .eax lo).reg .edx = s.reg .edx := State.reg_setRegS_other _ _ _ _ _ (by decide)
    exact ⟨(congrArg _ heax).trans (high_setRegS_word ..), (high_setRegS_word ..).trans (congrArg _ hedx)⟩
  | dword => trivial

/-- General registers written, flags set and some of them drawn: nothing else changes. -/
theorem undefined_frame {s u : State} (h : u = { s with gpr := u.gpr }) (f : Flags) (m : StatusMask) :
    let t := ({ u with flags := f } : State).undefined m
    t.flags = f.scramble m (Config.undef s.draws) ∧ t = { s with gpr := t.gpr, flags := t.flags, draws := s.draws + 1 } := by
  rw [h]
  exact ⟨rfl, rfl⟩

/-- What a write to the pair leaves alone, flags and draws apart. -/
theorem setWide_frame (s : State) (sz : Size) (lo hi : DWord) (f : Flags) (m : StatusMask) :
    let t := ({ s.setWide sz lo hi with flags := f } : State).undefined m
    t.flags = f.scramble m (Config.undef s.draws) ∧ t = { s with gpr := t.gpr, flags := t.flags, draws := s.draws + 1 } ∧
      OnlyRegs [.eax, .edx] s t ∧ KeepsHalves sz s t := by
  obtain ⟨hflags, hstate⟩ := undefined_frame (setWide_changes_gpr s sz lo hi) f m
  exact ⟨hflags, hstate, onlyRegs_setWide s sz lo hi, keepsHalves_setWide s sz lo hi⟩

/-! ### Numbers written to registers -/

theorem toNat_ofInt_mod (sz : Size) (p : Int) : ((BitVec.ofInt 32 p).toNat : Int) % 2 ^ sz.bits = p % 2 ^ sz.bits := by
  have hdvd : (2 : Int) ^ sz.bits ∣ 4294967296 := by cases sz <;> decide
  have hnonneg : 0 ≤ p % 4294967296 := Int.emod_nonneg p (by decide)
  have hcut : ((BitVec.ofInt 32 p).toNat : Int) = p % 4294967296 :=
    (congrArg Int.ofNat (BitVec.toNat_ofInt p)).trans (Int.toNat_of_nonneg hnonneg)
  rw [hcut, Int.emod_emod_of_dvd p hdvd]

theorem toNat_truncSize_ofInt (sz : Size) (p : Int) : ((truncSize sz (BitVec.ofInt 32 p)).toNat : Int) = p % 2 ^ sz.bits := by
  rw [truncSize_toNat, ← toNat_ofInt_mod]
  push_cast
  rfl

theorem toSigned_ofInt (sz : Size) (p : Int) : toSigned sz (BitVec.ofInt 32 p) = wrap true sz.bits p := by
  rw [toSigned_eq_bmod, ← wrap_true, ← wrap_emod, toNat_ofInt_mod, wrap_emod]

/-- The pair, after the low and the high part of a number are written to its halves. -/
theorem wide_setWide_ofInt (s : State) (sz : Size) (p : Int) :
    ((s.setWide sz (BitVec.ofInt 32 p) (BitVec.ofInt 32 (p / 2 ^ sz.bits))).wide sz : Int) = p % 2 ^ (2 * sz.bits) := by
  obtain ⟨hacc, hupper⟩ := halves_setWide s sz (BitVec.ofInt 32 p) (BitVec.ofInt 32 (p / 2 ^ sz.bits))
  rw [wide_eq_halves, hacc, hupper]
  push_cast
  rw [toNat_truncSize_ofInt, toNat_truncSize_ofInt]
  cases sz <;> simp only [Size.bits] <;> omega

/-! ### Multiplication (R251 to R253) -/

/-- A signed value of a size is at most half the range away from 0. -/
theorem natAbs_le_of_fits {sz : Size} {p : Int} (h : fits true sz p = true) : p.natAbs ≤ 2 ^ (sz.bits - 1) := by
  obtain ⟨hlow, hhigh⟩ := (fits_signed sz p).mp h
  cases sz <;> simp only [Size.bits] at hlow hhigh ⊢ <;> omega

/-- The product of two naturals below 2^N is below 2^2N. -/
theorem mul_lt_two_pow {m n N : Nat} (hm : m < 2 ^ N) (hn : n < 2 ^ N) : m * n < 2 ^ (2 * N) := by
  rw [Nat.two_mul, Nat.pow_add]
  exact Nat.mul_lt_mul'' hm hn

/-- The product of two values of a size is a value of twice the size. -/
theorem wrap_mul_of_fits {signed : Bool} {sz : Size} {a b : Int} (ha : fits signed sz a = true) (hb : fits signed sz b = true) :
    wrap signed (2 * sz.bits) (a * b) = a * b := by
  cases signed with
  | true =>
    have habs : (a * b).natAbs ≤ 2 ^ (sz.bits - 1) * 2 ^ (sz.bits - 1) :=
      Int.natAbs_mul a b ▸ Nat.mul_le_mul (natAbs_le_of_fits ha) (natAbs_le_of_fits hb)
    refine Int.bmod_eq_of_le ?_ ?_
    all_goals cases sz <;> simp only [Size.bits] at habs ⊢ <;> omega
  | false =>
    obtain ⟨m, rfl⟩ := Int.eq_ofNat_of_zero_le ((fits_unsigned sz a).mp ha).left
    obtain ⟨n, rfl⟩ := Int.eq_ofNat_of_zero_le ((fits_unsigned sz b).mp hb).left
    have hlt : m * n < 2 ^ (2 * sz.bits) := mul_lt_two_pow ((fits_natCast sz m).mp ha) ((fits_natCast sz n).mp hb)
    exact Int.emod_eq_of_lt (Int.natCast_nonneg (m * n)) (by exact_mod_cast hlt)

/-- CF and OF of MUL: the high half is 0 exactly when the product fits the low one (R251). -/
theorem mul_carry {sz : Size} {p : Nat} (h : p < 2 ^ (2 * sz.bits)) :
    (BitVec.ofNat 32 (p / 2 ^ sz.bits) != 0) = !fits false sz p := by
  have hhigh : p / 2 ^ sz.bits < 2 ^ 32 := by
    refine Nat.lt_of_lt_of_le (Nat.div_lt_of_lt_mul ?_) (Nat.pow_le_pow_right (by decide) (bits_le sz))
    rwa [← Nat.pow_add, ← Nat.two_mul]
  have hzero : BitVec.ofNat 32 (p / 2 ^ sz.bits) = 0 ↔ p < 2 ^ sz.bits := by
    rw [← Nat.div_eq_zero_iff_lt (Nat.two_pow_pos _), ← BitVec.toNat_inj, BitVec.toNat_ofNat, Nat.mod_eq_of_lt hhigh]
    rfl
  rw [bne, Bool.eq_iff_iff.mpr (beq_iff_eq.trans (hzero.trans (fits_natCast sz p).symm))]

/-- CF and OF of IMUL: the low part read as signed is the product exactly when it fits (R252, R253). -/
theorem imul_carry (sz : Size) (p : Int) : (p != toSigned sz (BitVec.ofInt 32 p)) = !fits true sz p := by
  rw [toSigned_ofInt, bne, Bool.eq_iff_iff.mpr ((fits_iff true sz p).trans (eq_comm.trans beq_iff_eq.symm))]

/-- MUL or IMUL of a location. -/
def mulOp (signed : Bool) (sz : Size) (l : Loc) : Op Unit := if signed then imulLoc sz l else mulLoc sz l

/-- The four forms are two operations (R251, R252). -/
theorem exec_of_mulForm {i : Instr} {s : State} {signed : Bool} {sz : Size} {l : Loc} (h : mulForm s i = some (signed, sz, l)) :
    exec i s = instr (mulOp signed sz l) s := by
  unfold mulForm at h
  split at h
  case h_5 => cases h
  all_goals cases h; exact instr_congr (query_id_bind_run _ s)

/-- The state after a number is written to the accumulator pair as the product of a multiplication (R251, R252). -/
def multiplied (signed : Bool) (sz : Size) (p : Int) (s : State) : State :=
  ({ s.setWide sz (BitVec.ofInt 32 p) (BitVec.ofInt 32 (p / 2 ^ sz.bits)) with
    flags := s.flags.setCarryOverflow (!fits signed sz p) } : State).undefined mulUndef

theorem mulLoc_of_readable {s : State} {sz : Size} {l : Loc} (h : Readable s sz l) :
    mulLoc sz l s = .ok () (multiplied false sz (number false sz (s.acc sz) * number false sz (s.value sz l)) s) := by
  have hlt : (s.acc sz).toNat * (s.value sz l).toNat < 2 ^ (2 * sz.bits) :=
    mul_lt_two_pow (truncSize_lt ..) (s.value_lt sz l)
  unfold mulLoc
  rw [bind_of_ok (readLoc_of_readable h), query_id_bind_run, update_bind_run, updateFlags_bind_run, undefFlags_run, mul_carry hlt,
    State.setWide_flags, ← BitVec.ofInt_natCast, ← BitVec.ofInt_natCast]
  push_cast
  rfl

theorem imulLoc_of_readable {s : State} {sz : Size} {l : Loc} (h : Readable s sz l) :
    imulLoc sz l s = .ok () (multiplied true sz (number true sz (s.acc sz) * number true sz (s.value sz l)) s) := by
  unfold imulLoc
  rw [bind_of_ok (readLoc_of_readable h), query_id_bind_run, update_bind_run, updateFlags_bind_run, undefFlags_run, imul_carry,
    State.setWide_flags]
  rfl

theorem mulOp_of_readable {s : State} {sz : Size} {l : Loc} (signed : Bool) (h : Readable s sz l) :
    mulOp signed sz l s = .ok () (multiplied signed sz (number signed sz (s.acc sz) * number signed sz (s.value sz l)) s) := by
  cases signed with
  | true => exact imulLoc_of_readable h
  | false => exact mulLoc_of_readable h

/-- IMUL into a register, with its two sources at hand (R253). -/
theorem exec_of_imulForm {i : Instr} {s : State} {r : Reg} {x y : Src} (h : imulForm s i = some (r, x, y))
    (hx : x.ready s s.osz.size) (hy : y.ready s s.osz.size) :
    exec i s = instr (imulInto s.osz.size r (x.val s s.osz.size) (y.val s s.osz.size)) s := by
  unfold imulForm at h
  split at h
  case h_1 => cases h; exact instr_congr ((query_id_bind_run _ s).trans (bind_of_ok (readLoc_of_readable hy)))
  case h_2 | h_3 => cases h; exact instr_congr ((query_id_bind_run _ s).trans (bind_of_ok (readLoc_of_readable hx)))
  case h_4 => cases h

theorem imulInto_run (s : State) (sz : Size) (r : Reg) (a b : DWord) :
    imulInto sz r a b s = .ok () (({ s.setRegS sz r (BitVec.ofInt 32 (toSigned sz a * toSigned sz b)) with
      flags := s.flags.setCarryOverflow (!fits true sz (toSigned sz a * toSigned sz b)) } : State).undefined mulUndef) := by
  unfold imulInto
  rw [update_bind_run, updateFlags_bind_run, undefFlags_run, imul_carry, State.setRegS_flags]
  rfl

/-- The signed value of a register after a number is written to it at a size (R253). -/
theorem toSigned_setRegS_ofInt (s : State) (sz : Size) (r : Reg) (p : Int) :
    toSigned sz ((s.setRegS sz r (BitVec.ofInt 32 p)).reg r) = wrap true sz.bits p := by
  have hread : ((s.setRegS sz r (BitVec.ofInt 32 p)).regS sz r).toNat = _ := congrArg _ (State.regS_setRegS_same s sz r _)
  have hmod := toNat_truncSize_ofInt sz p
  rw [← hread, State.regS_toNat] at hmod
  rw [toSigned_eq_bmod, ← wrap_true, ← wrap_emod, ← wrap_emod _ _ p, ← hmod]
  push_cast
  rfl

/-- Settles O20: the product is written as a number of twice the size, or of the size, and the carry asks whether it fits. -/
theorem multiplyResult : Obligations.MultiplyResult := by
  unfold Obligations.MultiplyResult
  refine ⟨fun i s signed sz l hform hr => ?_, fun i s r x y hform hx hy => ?_⟩
  · refine ⟨_, (exec_of_mulForm hform).trans (instr_of_ok (mulOp_of_readable signed hr)), ?_, setWide_frame ..⟩
    refine (wideValue_eq_wrap signed _ sz).trans ?_
    refine (congrArg (wrap signed _) (wide_setWide_ofInt s sz _)).trans ?_
    rw [wrap_emod]
    exact wrap_mul_of_fits (fits_number signed (truncSize_lt ..)) (fits_number signed (s.value_lt sz l))
  · obtain ⟨hflags, hstate⟩ := undefined_frame (State.setRegS_changes_gpr s s.osz.size r _) _ mulUndef
    have hhigh {sz : Size} (h : sz = .word) (v : DWord) :
        ((s.setRegS sz r v).reg r).extractLsb' 16 16 = (s.reg r).extractLsb' 16 16 := h ▸ high_setRegS_word s r v
    exact ⟨_, (exec_of_imulForm hform hx hy).trans (instr_of_ok (imulInto_run ..)), toSigned_setRegS_ofInt .., hflags, hstate,
      onlyRegs_setRegS s s.osz.size r _, fun h => hhigh h _⟩

/-! ### Division (R254, R255) -/

/-- The remainder of a division by a value of a size is a value of the size. -/
theorem fits_tmod {signed : Bool} {sz : Size} {n d : Int} (hd : d ≠ 0) (hfits : fits signed sz d = true)
    (hn : signed = false → 0 ≤ n) : fits signed sz (Int.tmod n d) = true := by
  have hlt : (Int.tmod n d).natAbs < d.natAbs := by
    rw [Int.natAbs_tmod]
    exact Nat.mod_lt _ (Int.natAbs_pos.mpr hd)
  cases signed with
  | true =>
    rw [fits_signed] at hfits ⊢
    omega
  | false =>
    have hnonneg := Int.tmod_nonneg d (hn rfl)
    rw [fits_unsigned] at hfits ⊢
    omega

/-- DIV or IDIV of a location. -/
def divOp (signed : Bool) (sz : Size) (l : Loc) : Op Unit := if signed then idivLoc sz l else divLoc sz l

/-- The four forms are two operations (R254, R255). -/
theorem exec_of_divForm {i : Instr} {s : State} {signed : Bool} {sz : Size} {l : Loc} (h : divForm s i = some (signed, sz, l)) :
    exec i s = instr (divOp signed sz l) s := by
  unfold divForm at h
  split at h
  case h_5 => cases h
  all_goals cases h; exact instr_congr (query_id_bind_run _ s)

/-- Both divisions as one, on numbers: the two tests, quotient and remainder written, and the flags free (R254, R255). -/
def dividing (signed : Bool) (sz : Size) (n d : Int) : Op Unit := do
  raiseIf (d == 0) (Exc.plain 0)
  raiseIf (!fits signed sz (Int.tdiv n d)) (Exc.plain 0)
  update fun s => s.setWide sz (BitVec.ofInt 32 (Int.tdiv n d)) (BitVec.ofInt 32 (Int.tmod n d))
  undefFlags StatusMask.all

/-- DIV tests the divisor and the quotient as naturals (R254). -/
theorem divLoc_of_readable {s : State} {sz : Size} {l : Loc} (h : Readable s sz l) :
    divLoc sz l s = dividing false sz (wideValue false s sz) (number false sz (s.value sz l)) s := by
  have hzero : (s.value sz l == 0) = (number false sz (s.value sz l) == 0) := by
    rw [Bool.eq_iff_iff, beq_iff_eq, beq_iff_eq, ← BitVec.toNat_inj]
    exact Int.natCast_eq_zero.symm
  have hfits (q : Nat) : decide (2 ^ sz.bits ≤ q) = !fits false sz q := by
    rw [Bool.eq_iff_iff, decide_eq_true_iff, Bool.not_eq_true', ← Bool.not_eq_true, fits_natCast, Nat.not_lt]
  unfold divLoc
  rw [bind_of_ok (readLoc_of_readable h), query_id_bind_run]
  simp only [hfits, hzero, ← BitVec.ofInt_natCast]
  rfl

/-- IDIV tests the quotient against both ends of the signed range (R255). -/
theorem idivLoc_of_readable {s : State} {sz : Size} {l : Loc} (h : Readable s sz l) :
    idivLoc sz l s = dividing true sz (wideValue true s sz) (number true sz (s.value sz l)) s := by
  have hfits (q : Int) : (decide (q < -2 ^ (sz.bits - 1)) || decide (2 ^ (sz.bits - 1) - 1 < q)) = !fits true sz q := by
    rw [Bool.eq_iff_iff, Bool.or_eq_true, decide_eq_true_iff, decide_eq_true_iff, Bool.not_eq_true', ← Bool.not_eq_true, fits_signed]
    omega
  unfold idivLoc
  rw [bind_of_ok (readLoc_of_readable h), query_id_bind_run]
  simp only [hfits]
  rfl

theorem divOp_of_readable {s : State} {sz : Size} {l : Loc} (signed : Bool) (h : Readable s sz l) :
    divOp signed sz l s = dividing signed sz (wideValue signed s sz) (number signed sz (s.value sz l)) s := by
  cases signed with
  | true => exact idivLoc_of_readable h
  | false => exact divLoc_of_readable h

section
variable {signed : Bool} {sz : Size} {n d : Int} (s : State)

theorem dividing_of_fits (hd : d ≠ 0) (h : fits signed sz (Int.tdiv n d) = true) :
    dividing signed sz n d s = .ok () (({ s.setWide sz (BitVec.ofInt 32 (Int.tdiv n d)) (BitVec.ofInt 32 (Int.tmod n d)) with
      flags := s.flags } : State).undefined StatusMask.all) := by
  unfold dividing
  rw [beq_false_of_ne hd, h, raiseIf_false_bind_run, Bool.not_true, raiseIf_false_bind_run, update_bind_run, undefFlags_run]
  unfold State.undefined
  rw [State.setWide_flags]

theorem dividing_of_not (h : d = 0 ∨ fits signed sz (Int.tdiv n d) = false) : dividing signed sz n d s = .error (Exc.plain 0) s := by
  unfold dividing
  rw [raiseIf_bind_run, raiseIf_bind_run]
  rcases h with h | h
  · rw [if_pos (beq_iff_eq.mpr h)]
  · simp [h]

end

/-- Settles O21: both divisions are one operation on numbers, whose remainder always fits. -/
theorem divideResultAndError : Obligations.DivideResultAndError := by
  unfold Obligations.DivideResultAndError
  intro i s signed sz l hform hr d n
  have hexec := (exec_of_divForm hform).trans (instr_congr (divOp_of_readable signed hr))
  refine ⟨fun hd hfits => ?_, fun herror => hexec.trans (instr_of_error (dividing_of_not s herror))⟩
  obtain ⟨hacc, hupper⟩ := halves_setWide s sz (BitVec.ofInt 32 (Int.tdiv n d)) (BitVec.ofInt 32 (Int.tmod n d))
  have hwritten {p : Int} (hp : fits signed sz p = true) : number signed sz (truncSize sz (BitVec.ofInt 32 p)) = p :=
    number_of_fits (truncSize_lt ..) (toNat_truncSize_ofInt sz p) hp
  have hn : signed = false → 0 ≤ n := by
    rintro rfl
    exact Int.natCast_nonneg _
  refine ⟨_, hexec.trans (instr_of_ok (dividing_of_fits s hd hfits)), (congrArg _ hacc).trans (hwritten hfits),
    (congrArg _ hupper).trans (hwritten (fits_tmod hd (fits_number signed (s.value_lt sz l)) hn)), setWide_frame ..⟩

end Sys2Proof.Machine
end

section
/-!
PROOFS. The shifts and rotates of one operand (41_muldiv_shift_bit.md R256 to R263): one operation for the fourteen constructors.
-/
namespace Sys2Proof.Machine

open Sys2Proof.Claims

/-- The fourteen constructors are one operation on a location (R256). -/
theorem exec_of_shiftForm {i : Instr} {s : State} {f : ShiftForm} (h : shiftForm s i = some f) :
    exec i s = instr (shiftLoc f.op f.count f.size f.dst) s := by
  unfold shiftForm at h
  split at h
  case h_15 => cases h
  all_goals cases h; exact instr_congr (query_id_bind_run _ s)

/-- A shift sets SF, ZF and PF by its result; OF is kept unless the count is 1 (R256, R261 to R263). -/
theorem ShiftOp.flags_eq (op : ShiftOp) (sz : Size) (n : Nat) (before after : DWord) (c : Bool) (f : Flags) :
    op.flags sz n before after c f =
      { (if op.isRotate || n == 0 then f else f.szp sz after) with
        cf := c, ofl := if n = 1 then op.overflow sz before after c else f.ofl } := by
  unfold ShiftOp.flags
  cases op.isRotate || n == 0 <;> rfl

/-- The state after a shift or rotate, before the flags that it leaves undefined are drawn (R256 to R263). -/
def shifted (f : ShiftForm) (s : State) : State :=
  let v := s.value f.size f.dst
  let vc := f.op.steps f.size f.count (v, s.flags.cf)
  { s.stored f.size f.dst vc.1 with flags := f.op.flags f.size f.count v vc.1 vc.2 s.flags }

theorem shiftLoc_of_ready {s : State} {f : ShiftForm} (hr : Readable s f.size f.dst) (hw : Writable s f.size f.dst) :
    shiftLoc f.op f.count f.size f.dst s = .ok () ((shifted f s).undefined (f.op.undef f.count)) := by
  unfold shiftLoc shifted
  rw [bind_of_ok (readLoc_of_readable hr), query_bind_run, bind_of_ok (writeLoc_of_writable _ hw), updateFlags_bind_run,
    State.stored_flags]
  rfl

/-- Settles O22: the operand is read, stepped and written back, and then the flags are set. -/
theorem shiftRotateResult : Obligations.ShiftRotateResult := by
  unfold Obligations.ShiftRotateResult
  intro i s f hform hr hw v vc fl t
  have ht : shifted f s = t := congrArg (fun g => { s.stored f.size f.dst vc.1 with flags := g }) (f.op.flags_eq ..)
  exact ⟨ht ▸ (exec_of_shiftForm hform).trans (instr_of_ok (shiftLoc_of_ready hr hw)), stored_onlyBytes s f.size f.dst vc.1⟩

end Sys2Proof.Machine
end

section
/-!
PROOFS. What the repeated steps of the shifts and rotates come to (41_muldiv_shift_bit.md R257 to R263): numbers for the shifts,
a ring of bits for the rotates, and OF after one step.
-/
namespace Sys2Proof.Machine

/-! ### One step: a bit enters at one end -/

/-- A value moved up by one place at a size, a bit entering at the bottom. -/
def shlIn (sz : Size) (v : DWord) (b : Bool) : DWord := truncSize sz (v <<< 1) ||| bitAt b 0

/-- A value moved down by one place, a bit entering at the top of the size. -/
def shrIn (sz : Size) (v : DWord) (b : Bool) : DWord := (v >>> 1) ||| bitAt b (sz.bits - 1)

section
variable (sz : Size) (vc : DWord × Bool)

theorem step_rol : ShiftOp.rol.step sz vc = (shlIn sz vc.1 (signBit sz vc.1), signBit sz vc.1) := rfl

theorem step_ror : ShiftOp.ror.step sz vc = (shrIn sz vc.1 (vc.1.getLsbD 0), vc.1.getLsbD 0) := rfl

theorem step_rcl : ShiftOp.rcl.step sz vc = (shlIn sz vc.1 vc.2, signBit sz vc.1) := rfl

theorem step_rcr : ShiftOp.rcr.step sz vc = (shrIn sz vc.1 vc.2, vc.1.getLsbD 0) := rfl

theorem step_sal : ShiftOp.sal.step sz vc = (shlIn sz vc.1 false, signBit sz vc.1) :=
  congrArg (·, signBit sz vc.1) BitVec.or_zero.symm

theorem step_shr : ShiftOp.shr.step sz vc = (shrIn sz vc.1 false, vc.1.getLsbD 0) :=
  congrArg (·, vc.1.getLsbD 0) BitVec.or_zero.symm

theorem step_sar : ShiftOp.sar.step sz vc = (shrIn sz vc.1 (signBit sz vc.1), vc.1.getLsbD 0) := rfl

end

/-- The last of several steps. -/
theorem steps_succ (op : ShiftOp) (sz : Size) (n : Nat) (vc : DWord × Bool) :
    op.steps sz (n + 1) vc = op.step sz (op.steps sz n vc) := by
  induction n generalizing vc with
  | zero => rfl
  | succ n ih => exact ih (op.step sz vc)

section
variable {sz : Size} {v : DWord} (b : Bool)

theorem getLsbD_shlIn (v : DWord) {j : Nat} (hj : j < sz.bits) : (shlIn sz v b).getLsbD j = if j = 0 then b else v.getLsbD (j - 1) := by
  have h32 : j < 32 := Nat.lt_of_lt_of_le hj (bits_le sz)
  rw [shlIn, BitVec.getLsbD_or, getLsbD_truncSize, BitVec.getLsbD_shiftLeft, getLsbD_bitAt]
  by_cases hzero : j = 0
  · simp [hzero]
  · simp [hj, h32, hzero]

theorem getLsbD_shrIn (hv : v.toNat < 2 ^ sz.bits) {j : Nat} (hj : j < sz.bits) :
    (shrIn sz v b).getLsbD j = if j + 1 = sz.bits then b else v.getLsbD (j + 1) := by
  have h32 : sz.bits - 1 < 32 := top_lt sz
  rw [shrIn, BitVec.getLsbD_or, BitVec.getLsbD_ushiftRight, getLsbD_bitAt, Nat.add_comm 1 j]
  by_cases htop : j + 1 = sz.bits
  · have hj' : j = sz.bits - 1 := by omega
    have hzero : v.getLsbD (j + 1) = false := getLsbD_of_bits_le hv (Nat.le_of_eq htop.symm)
    rw [hzero, if_pos htop]
    simp [h32, hj']
  · have hj' : j ≠ sz.bits - 1 := by omega
    simp [htop, hj']

theorem shlIn_lt (v : DWord) : (shlIn sz v b).toNat < 2 ^ sz.bits := by
  rw [shlIn, BitVec.toNat_or, toNat_bitAt b (by decide)]
  refine Nat.or_lt_two_pow (truncSize_lt sz _) ?_
  have hone : 1 < 2 ^ sz.bits := Nat.one_lt_two_pow (Nat.ne_of_gt (bits_pos sz))
  rw [Nat.pow_zero, Nat.mul_one]
  exact Nat.lt_of_le_of_lt (Bool.toNat_le b) hone

/-- The entering bit adds the weight of its place. -/
theorem toNat_shrIn (hv : v.toNat < 2 ^ sz.bits) : (shrIn sz v b).toNat = v.toNat / 2 + b.toNat * 2 ^ (sz.bits - 1) := by
  have h32 : sz.bits - 1 < 32 := top_lt sz
  have hhalf : v.toNat / 2 < 2 ^ (sz.bits - 1) := by
    cases sz <;> simp only [Size.bits] at hv ⊢ <;> omega
  rw [shrIn, BitVec.toNat_or, BitVec.toNat_ushiftRight, Nat.shiftRight_eq_div_pow, Nat.pow_one, toNat_bitAt b h32, Nat.or_comm,
    Nat.mul_comm, ← Nat.two_pow_add_eq_or_of_lt hhalf, Nat.add_comm]

theorem shrIn_lt (hv : v.toNat < 2 ^ sz.bits) : (shrIn sz v b).toNat < 2 ^ sz.bits := by
  rw [toNat_shrIn b hv]
  have hb : b.toNat ≤ 1 := Bool.toNat_le b
  cases sz <;> simp only [Size.bits] at hv ⊢ <;> omega

theorem toNat_shlIn_false (v : DWord) : (shlIn sz v false).toNat = v.toNat * 2 % 2 ^ sz.bits := by
  have hzero : shlIn sz v false = truncSize sz (v <<< 1) := BitVec.or_zero
  rw [hzero, truncSize_toNat, BitVec.toNat_shiftLeft, Nat.shiftLeft_eq, Nat.mod_mod_of_dvd _ (two_pow_bits_dvd sz), Nat.pow_one]

/-- Moving down with the sign entering halves the signed value, rounding down (R263). -/
theorem toSigned_shrIn_sign (hv : v.toNat < 2 ^ sz.bits) : toSigned sz (shrIn sz v (signBit sz v)) = toSigned sz v / 2 := by
  rw [toSigned_of_lt (shrIn_lt _ hv), toSigned_of_lt hv, toNat_shrIn _ hv, signBit_eq_decide hv]
  by_cases htop : 2 ^ (sz.bits - 1) ≤ v.toNat
  · rw [decide_eq_true htop, Bool.toNat_true, if_pos (by omega), if_pos htop]
    cases sz <;> simp only [Size.bits] at hv htop ⊢ <;> omega
  · rw [decide_eq_false htop, Bool.toNat_false, if_neg (by omega), if_neg htop]
    omega

/-- The low bit of a signed value is its remainder by 2. -/
theorem getLsbD_zero_eq_signed (hv : v.toNat < 2 ^ sz.bits) : v.getLsbD 0 = decide (toSigned sz v % 2 = 1) := by
  rw [toSigned_of_lt hv, BitVec.getLsbD, Nat.testBit_zero, decide_eq_decide]
  by_cases htop : 2 ^ (sz.bits - 1) ≤ v.toNat
  · rw [if_pos htop]
    cases sz <;> simp only [Size.bits] <;> omega
  · rw [if_neg htop]
    omega

end

/-- A step keeps a value in its size. -/
theorem step_lt (op : ShiftOp) {sz : Size} {vc : DWord × Bool} (h : vc.1.toNat < 2 ^ sz.bits) :
    (op.step sz vc).1.toNat < 2 ^ sz.bits := by
  cases op
  case rol => exact shlIn_lt ..
  case rcl => exact shlIn_lt ..
  case sal => exact step_sal sz vc ▸ shlIn_lt ..
  case ror => exact shrIn_lt _ h
  case rcr => exact shrIn_lt _ h
  case shr => exact step_shr sz vc ▸ shrIn_lt _ h
  case sar => exact shrIn_lt _ h

theorem steps_lt (op : ShiftOp) {sz : Size} (n : Nat) {vc : DWord × Bool} (h : vc.1.toNat < 2 ^ sz.bits) :
    (op.steps sz n vc).1.toNat < 2 ^ sz.bits := by
  induction n with
  | zero => exact h
  | succ n ih => exact steps_succ op sz n vc ▸ step_lt op ih

/-! ### The shifts as numbers (R261 to R263) -/

section
variable {sz : Size} {v : DWord} (c : Bool) (n : Nat)

theorem toNat_steps_sal (h : v.toNat < 2 ^ sz.bits) : (ShiftOp.sal.steps sz n (v, c)).1.toNat = v.toNat * 2 ^ n % 2 ^ sz.bits := by
  induction n with
  | zero => rw [Nat.pow_zero, Nat.mul_one, Nat.mod_eq_of_lt h]; rfl
  | succ n ih => rw [steps_succ, step_sal, toNat_shlIn_false, ih, Nat.mod_mul_mod, Nat.pow_succ, Nat.mul_assoc]

/-- CF is the bit that the last step moves out of the top. -/
theorem carry_steps_sal (h : v.toNat < 2 ^ sz.bits) (hn : 1 ≤ n) :
    (ShiftOp.sal.steps sz n (v, c)).2 = (v.toNat * 2 ^ n).testBit sz.bits := by
  obtain ⟨n, rfl⟩ := Nat.exists_eq_add_of_le' hn
  have hbits : sz.bits = sz.bits - 1 + 1 := (Nat.sub_add_cancel (bits_pos sz)).symm
  have hin : sz.bits - 1 < sz.bits := Nat.sub_lt (bits_pos sz) Nat.one_pos
  have hhalf : v.toNat * 2 ^ (n + 1) / 2 = v.toNat * 2 ^ n := by
    rw [Nat.pow_succ, ← Nat.mul_assoc, Nat.mul_div_cancel _ Nat.two_pos]
  have hout : (v.toNat * 2 ^ (n + 1)).testBit sz.bits = (v.toNat * 2 ^ n).testBit (sz.bits - 1) := by
    rw [hbits, Nat.testBit_succ, hhalf]
    rfl
  rw [hout, steps_succ, step_sal, signBit, BitVec.getLsbD, toNat_steps_sal c n h, Nat.testBit_mod_two_pow]
  simp [hin]

theorem toNat_steps_shr (h : v.toNat < 2 ^ sz.bits) : (ShiftOp.shr.steps sz n (v, c)).1.toNat = v.toNat / 2 ^ n := by
  induction n with
  | zero => exact (Nat.div_one _).symm
  | succ n ih =>
    rw [steps_succ, step_shr, toNat_shrIn false (steps_lt .shr n h), ih, Nat.div_div_eq_div_mul, Nat.pow_succ]
    simp

/-- CF is the bit that the last step moves out of the bottom. -/
theorem carry_steps_shr (h : v.toNat < 2 ^ sz.bits) (hn : 1 ≤ n) :
    (ShiftOp.shr.steps sz n (v, c)).2 = v.toNat.testBit (n - 1) := by
  obtain ⟨n, rfl⟩ := Nat.exists_eq_add_of_le' hn
  rw [Nat.add_sub_cancel, steps_succ, step_shr, BitVec.getLsbD, toNat_steps_shr c n h, Nat.testBit_div_two_pow, Nat.zero_add]

theorem toSigned_steps_sar (h : v.toNat < 2 ^ sz.bits) : toSigned sz (ShiftOp.sar.steps sz n (v, c)).1 = toSigned sz v / 2 ^ n := by
  induction n with
  | zero => exact (Int.ediv_one _).symm
  | succ n ih =>
    rw [steps_succ, step_sar, toSigned_shrIn_sign (steps_lt .sar n h), ih, Int.ediv_ediv_of_nonneg (Int.pow_nonneg (by decide)), Int.pow_succ]

theorem carry_steps_sar (h : v.toNat < 2 ^ sz.bits) (hn : 1 ≤ n) :
    (ShiftOp.sar.steps sz n (v, c)).2 = decide (toSigned sz v / 2 ^ (n - 1) % 2 = 1) := by
  obtain ⟨n, rfl⟩ := Nat.exists_eq_add_of_le' hn
  rw [Nat.add_sub_cancel, steps_succ, step_sar, getLsbD_zero_eq_signed (steps_lt .sar n h), toSigned_steps_sar c n h]

end

/-! ### The rotates as a ring of bits (R257 to R260) -/

section
variable {M : Nat} {w : Nat → Nat → Bool}

/-- A ring of bits that moves up by one place at each step has moved up by as many places as there were steps. -/
theorem ring_up (h : ∀ n j, j < M → w (n + 1) ((j + 1) % M) = w n j) (n : Nat) {j : Nat} (hj : j < M) :
    w n ((j + n) % M) = w 0 j := by
  induction n with
  | zero => rw [Nat.add_zero, Nat.mod_eq_of_lt hj]
  | succ n ih => rw [← ih, ← h n _ (Nat.mod_lt _ (Nat.zero_lt_of_lt hj)), Nat.mod_add_mod, Nat.add_assoc]

/-- The same for a ring that moves down. -/
theorem ring_down (h : ∀ n j, j < M → w (n + 1) j = w n ((j + 1) % M)) (n : Nat) {j : Nat} (hj : j < M) :
    w n j = w 0 ((j + n) % M) := by
  induction n generalizing j with
  | zero => rw [Nat.add_zero, Nat.mod_eq_of_lt hj]
  | succ n ih => rw [h n j hj, ih (Nat.mod_lt _ (Nat.zero_lt_of_lt hj)), Nat.mod_add_mod, Nat.add_assoc, Nat.add_comm 1]

end

/-- The next place of a ring: the first one after the last. -/
theorem ring_next {M j : Nat} (hj : j < M) : (j + 1) % M = if j + 1 = M then 0 else j + 1 := by
  split
  · next h => rw [h, Nat.mod_self]
  · next h => exact Nat.mod_eq_of_lt (by omega)

/-- The bits of a value of a size with CF as the bit above them (R259, R260). -/
def ringBit (sz : Size) (vc : DWord × Bool) (j : Nat) : Bool := if j = sz.bits then vc.2 else vc.1.getLsbD j

section
variable {sz : Size} {j : Nat} (vc : DWord × Bool)

theorem step_rol_ring (hj : j < sz.bits) : (ShiftOp.rol.step sz vc).1.getLsbD ((j + 1) % sz.bits) = vc.1.getLsbD j := by
  rw [step_rol, getLsbD_shlIn _ _ (Nat.mod_lt _ (bits_pos sz)), ring_next hj]
  by_cases h : j + 1 = sz.bits
  · have hlast : sz.bits - 1 = j := by omega
    rw [if_pos h, if_pos rfl, signBit, hlast]
  · rw [if_neg h, if_neg (Nat.succ_ne_zero j), Nat.add_sub_cancel]

theorem step_ror_ring (hv : vc.1.toNat < 2 ^ sz.bits) (hj : j < sz.bits) :
    (ShiftOp.ror.step sz vc).1.getLsbD j = vc.1.getLsbD ((j + 1) % sz.bits) := by
  rw [step_ror, getLsbD_shrIn _ hv hj, ring_next hj]
  split <;> rfl

theorem step_rcl_ring (hj : j < sz.bits + 1) : ringBit sz (ShiftOp.rcl.step sz vc) ((j + 1) % (sz.bits + 1)) = ringBit sz vc j := by
  have hpos := bits_pos sz
  rw [step_rcl, ring_next hj, ringBit, ringBit]
  rcases Nat.lt_trichotomy (j + 1) sz.bits with h | h | h
  · have h1 : j + 1 ≠ sz.bits + 1 := by omega
    rw [if_neg h1, if_neg (Nat.ne_of_lt h), getLsbD_shlIn _ _ h, if_neg (Nat.succ_ne_zero j), Nat.add_sub_cancel, if_neg (by omega)]
  · have hlast : sz.bits - 1 = j := by omega
    have h1 : j + 1 ≠ sz.bits + 1 := by omega
    rw [if_neg h1, if_pos h, if_neg (by omega), signBit, hlast]
  · have hcarry : j = sz.bits := by omega
    rw [if_pos (congrArg (· + 1) hcarry), if_neg (Nat.ne_of_lt hpos), getLsbD_shlIn _ _ hpos, if_pos rfl, if_pos hcarry]

theorem step_rcr_ring (hv : vc.1.toNat < 2 ^ sz.bits) (hj : j < sz.bits + 1) :
    ringBit sz (ShiftOp.rcr.step sz vc) j = ringBit sz vc ((j + 1) % (sz.bits + 1)) := by
  have hpos := bits_pos sz
  rw [step_rcr, ring_next hj, ringBit, ringBit]
  rcases Nat.lt_trichotomy j sz.bits with h | h | h
  · have h1 : j + 1 ≠ sz.bits + 1 := by omega
    rw [if_neg (Nat.ne_of_lt h), getLsbD_shrIn _ hv h, if_neg h1]
  · rw [if_pos h, if_pos (congrArg (· + 1) h), if_neg (Nat.ne_of_lt hpos)]
  · omega

end

section
variable {sz : Size} {v : DWord} {j : Nat} (c : Bool) (n : Nat)

theorem steps_rol_ring (hj : j < sz.bits) : (ShiftOp.rol.steps sz n (v, c)).1.getLsbD ((j + n) % sz.bits) = v.getLsbD j :=
  ring_up (w := fun n j => (ShiftOp.rol.steps sz n (v, c)).1.getLsbD j)
    (fun n _ hj => steps_succ .rol sz n (v, c) ▸ step_rol_ring _ hj) n hj

theorem steps_ror_ring (hv : v.toNat < 2 ^ sz.bits) (hj : j < sz.bits) :
    (ShiftOp.ror.steps sz n (v, c)).1.getLsbD j = v.getLsbD ((j + n) % sz.bits) :=
  ring_down (w := fun n j => (ShiftOp.ror.steps sz n (v, c)).1.getLsbD j)
    (fun n _ hj => steps_succ .ror sz n (v, c) ▸ step_ror_ring _ (steps_lt .ror n hv) hj) n hj

theorem steps_rcl_ring (hj : j < sz.bits + 1) :
    ringBit sz (ShiftOp.rcl.steps sz n (v, c)) ((j + n) % (sz.bits + 1)) = ringBit sz (v, c) j :=
  ring_up (w := fun n => ringBit sz (ShiftOp.rcl.steps sz n (v, c)))
    (fun n _ hj => steps_succ .rcl sz n (v, c) ▸ step_rcl_ring _ hj) n hj

theorem steps_rcr_ring (hv : v.toNat < 2 ^ sz.bits) (hj : j < sz.bits + 1) :
    ringBit sz (ShiftOp.rcr.steps sz n (v, c)) j = ringBit sz (v, c) ((j + n) % (sz.bits + 1)) :=
  ring_down (w := fun n => ringBit sz (ShiftOp.rcr.steps sz n (v, c)))
    (fun n _ hj => steps_succ .rcr sz n (v, c) ▸ step_rcr_ring _ (steps_lt .rcr n hv) hj) n hj

/-- After a ROL by at least 1, CF is the bit that came round to the bottom (R257). -/
theorem carry_steps_rol (hn : 1 ≤ n) : (ShiftOp.rol.steps sz n (v, c)).2 = (ShiftOp.rol.steps sz n (v, c)).1.getLsbD 0 := by
  obtain ⟨n, rfl⟩ := Nat.exists_eq_add_of_le' hn
  rw [steps_succ, step_rol, getLsbD_shlIn _ _ (bits_pos sz), if_pos rfl]

/-- After a ROR by at least 1, CF is the bit that came round to the top (R258). -/
theorem carry_steps_ror (hv : v.toNat < 2 ^ sz.bits) (hn : 1 ≤ n) :
    (ShiftOp.ror.steps sz n (v, c)).2 = (ShiftOp.ror.steps sz n (v, c)).1.getLsbD (sz.bits - 1) := by
  obtain ⟨n, rfl⟩ := Nat.exists_eq_add_of_le' hn
  have hpos := bits_pos sz
  rw [steps_succ, step_ror, getLsbD_shrIn _ (steps_lt .ror n hv) (by omega), if_pos (by omega)]

end

/-! ### OF after one step (R257 to R263) -/

section
variable {sz : Size} {v : DWord} (b : Bool)

theorem signBit_shlIn (v : DWord) : signBit sz (shlIn sz v b) = v.getLsbD (sz.bits - 2) := by
  have htwo : 2 ≤ sz.bits := by cases sz <;> decide
  rw [signBit, getLsbD_shlIn _ _ (by omega), if_neg (by omega), Nat.sub_sub]

theorem signBit_shrIn (hv : v.toNat < 2 ^ sz.bits) : signBit sz (shrIn sz v b) = b := by
  have hpos := bits_pos sz
  rw [signBit, getLsbD_shrIn _ hv (by omega), if_pos (by omega)]

theorem next_shrIn (hv : v.toNat < 2 ^ sz.bits) : (shrIn sz v b).getLsbD (sz.bits - 2) = signBit sz v := by
  have htwo : 2 ≤ sz.bits := by cases sz <;> decide
  have hnext : sz.bits - 2 + 1 = sz.bits - 1 := by omega
  rw [getLsbD_shrIn _ hv (by omega), if_neg (by omega), hnext, signBit]

end

/-- Settles O23: the shifts step by step are products and quotients by 2, and the rotates move a ring of N or N + 1 bits. -/
theorem shiftRotateValues : Obligations.ShiftRotateValues := by
  unfold Obligations.ShiftRotateValues
  refine ⟨fun sz n v c hv => ?_, fun sz v c hv => ?_⟩
  · intro N w out
    exact ⟨toNat_steps_sal c n hv, carry_steps_sal c n hv, toNat_steps_shr c n hv, carry_steps_shr c n hv,
      toSigned_steps_sar c n hv, carry_steps_sar c n hv, fun _ => steps_rol_ring c n, carry_steps_rol c n,
      fun _ => steps_ror_ring c n hv, carry_steps_ror c n hv, fun _ hj => steps_rcl_ring c n (Nat.lt_succ_of_le hj),
      fun _ hj => steps_rcr_ring c n hv (Nat.lt_succ_of_le hj)⟩
  · intro N top next once oflow
    have hup (b : Bool) : (signBit sz (shlIn sz v b) ^^ signBit sz v) = (top v ^^ next v) :=
      (congrArg (· ^^ signBit sz v) (signBit_shlIn b v)).trans (Bool.xor_comm ..)
    have hdown (b : Bool) : (signBit sz (shrIn sz v b) ^^ (shrIn sz v b).getLsbD (N - 2)) = (top v ^^ b) :=
      (congr (congrArg xor (signBit_shrIn b hv)) (next_shrIn b hv)).trans (Bool.xor_comm ..)
    have hsal : oflow .sal = (top v ^^ next v) := by
      refine Eq.trans ?_ (hup false)
      change (signBit sz (ShiftOp.sal.step sz (v, c)).1 ^^ (ShiftOp.sal.step sz (v, c)).2) = _
      rw [step_sal]
    exact ⟨rfl, rfl, rfl, rfl, rfl, rfl, rfl, hsal, hup _, hup c, hdown _, hdown c⟩

end Sys2Proof.Machine
end

section
/-!
PROOFS. SHLD and SHRD (41_muldiv_shift_bit.md R264, R265): the three ranges of the count, and the bits of the shifted pair.
-/
namespace Sys2Proof.Machine

open Sys2Proof.Claims

/-! ### The shifted pair -/

section
variable {sz : Size} {v x : DWord} {n : Nat}

/-- SHLD: the operand moves up by the count, and the register's top bits come in below it (R264). -/
theorem getLsbD_result_left (hx : x.toNat < 2 ^ sz.bits) (h : n < sz.bits) (j : Nat) :
    (DoubleShift.left.result sz v x n).1.getLsbD j =
      (decide (j < sz.bits) && if j < n then x.getLsbD (sz.bits - n + j) else v.getLsbD (j - n)) := by
  simp only [DoubleShift.result, getLsbD_truncSize, BitVec.getLsbD_or, BitVec.getLsbD_shiftLeft, BitVec.getLsbD_ushiftRight]
  by_cases hj : j < sz.bits
  · have h32 : j < 32 := Nat.lt_of_lt_of_le hj (bits_le sz)
    by_cases hn : j < n
    · simp [hj, hn]
    · have hzero : x.getLsbD (sz.bits - n + j) = false := getLsbD_of_bits_le hx (by omega)
      simp [hj, hn, hzero, h32]
  · simp [hj]

/-- SHRD: the operand moves down by the count, and the register's low bits come in above it (R265). -/
theorem getLsbD_result_right (hv : v.toNat < 2 ^ sz.bits) (h : n < sz.bits) (j : Nat) :
    (DoubleShift.right.result sz v x n).1.getLsbD j =
      (decide (j < sz.bits) && if j + n < sz.bits then v.getLsbD (j + n) else x.getLsbD (j + n - sz.bits)) := by
  have hindex : j - (sz.bits - n) = j + n - sz.bits := by omega
  simp only [DoubleShift.result, getLsbD_truncSize, BitVec.getLsbD_or, BitVec.getLsbD_shiftLeft, BitVec.getLsbD_ushiftRight, hindex,
    Nat.add_comm n j]
  by_cases hj : j < sz.bits
  · have h32 : j < 32 := Nat.lt_of_lt_of_le hj (bits_le sz)
    by_cases hn : j + n < sz.bits
    · have hbelow : j < sz.bits - n := by omega
      simp [hj, hn, hbelow]
    · have hzero : v.getLsbD (j + n) = false := getLsbD_of_bits_le hv (by omega)
      have habove : ¬j < sz.bits - n := by omega
      simp [hj, hn, hzero, habove, h32]
  · simp [hj]

end

/-! ### The three ranges of the count -/

/-- The four constructors are two operations; the count is masked to five bits (R256, R264, R265). -/
theorem exec_of_doubleForm {i : Instr} {s : State} {d : DoubleShift} {l : Loc} {r : Reg} {n : Nat}
    (h : doubleForm s i = some (d, l, r, n)) :
    ∃ rm count, locV s rm = l ∧ countValue s count = n ∧ exec i s = instr (shiftDouble d rm r count) s := by
  unfold doubleForm at h
  split at h
  case h_5 => cases h
  all_goals cases h; exact ⟨_, _, rfl, rfl, rfl⟩

/-- A store to an operand goes to the same place whatever has been drawn before. -/
theorem State.stored_draws_comm (s : State) (k : Nat) (sz : Size) (l : Loc) (v : DWord) :
    State.stored { s with draws := k } sz l v = { s.stored sz l v with draws := k } := by
  cases l with
  | reg8 r =>
    simp only [State.stored, State.setReg8_eq]
    rfl
  | reg r => cases sz <;> rfl
  | mem seg off =>
    have hrange : State.range { s with draws := k } .write seg off sz.bytes = s.range .write seg off sz.bytes :=
      range_congr (s := s) (t := { s with draws := k }) rfl rfl rfl rfl rfl ..
    simp only [State.stored, State.storedAt, hrange]

theorem writable_draws {s : State} {sz : Size} {l : Loc} (h : Writable s sz l) (k : Nat) : Writable { s with draws := k } sz l := by
  cases l with
  | reg8 r => trivial
  | reg r => trivial
  | mem seg off => exact (allowed_congr (s := s) (t := { s with draws := k }) rfl rfl rfl rfl rfl rfl ..).mpr h

section
variable {s : State} {rm : RM Reg} (d : DoubleShift) (r : Reg) (count : Count) (hr : Readable s s.osz.size (locV s rm))
  (hw : Writable s s.osz.size (locV s rm))
include hr hw

/-- With a count of 0 the operand is read and checked, and nothing changes (R264, D27). -/
theorem shiftDouble_of_zero (h : countValue s count = 0) : shiftDouble d rm r count s = .ok () s := by
  unfold shiftDouble
  rw [query_id_bind_run, bind_of_ok (readLoc_of_readable hr), if_pos h]
  exact checkWriteLoc_of_writable hw

/-- With a count below the operand size the shifted pair is stored (R264, R265). -/
theorem shiftDouble_of_lt (hpos : countValue s count ≠ 0) (hlt : ¬s.osz.size.bits ≤ countValue s count) :
    let rc := d.result s.osz.size (s.value s.osz.size (locV s rm)) (s.regS s.osz.size r) (countValue s count)
    shiftDouble d rm r count s = .ok ()
      (({ s.stored s.osz.size (locV s rm) rc.1 with flags := { s.flags.szp s.osz.size rc.1 with cf := rc.2 } } : State).undefined
        { StatusMask.none with af := true, ofl := true }) := by
  intro rc
  unfold shiftDouble
  rw [query_id_bind_run, bind_of_ok (readLoc_of_readable hr), if_neg hpos, if_neg hlt, bind_of_ok (writeLoc_of_writable _ hw),
    updateFlags_bind_run, State.stored_flags]
  rfl

/-- With a 16-bit operand and a count of 16 or more the result is drawn, and then the flags (R264, R265). -/
theorem shiftDouble_of_ge (hpos : countValue s count ≠ 0) (hge : s.osz.size.bits ≤ countValue s count) :
    shiftDouble d rm r count s = .ok () (({ s.stored s.osz.size (locV s rm) (truncSize s.osz.size (Config.undef s.draws)) with
      draws := s.draws + 1 } : State).undefined StatusMask.all) := by
  unfold shiftDouble
  rw [query_id_bind_run, bind_of_ok (readLoc_of_readable hr), if_neg hpos, if_pos hge, drawUndef_bind_run,
    bind_of_ok (writeLoc_of_writable _ (writable_draws hw _)), State.stored_draws_comm]
  rfl

end

/-- Settles O24: the count decides between three runs, and the bits of the pair are those of its two halves. -/
theorem doubleShiftResult : Obligations.DoubleShiftResult := by
  unfold Obligations.DoubleShiftResult
  intro i s d l r n hform hr hw sz N v x
  obtain ⟨rm, count, rfl, rfl, hexec⟩ := exec_of_doubleForm hform
  have hN : sz.bits ≠ 0 := by cases sz <;> decide
  refine ⟨fun hzero => hexec.trans (instr_of_ok (shiftDouble_of_zero d r count hr hw hzero)), fun hpos hlt => ?_, fun hge => ?_,
    stored_onlyBytes s sz _⟩
  · refine ⟨(d.result sz v x (countValue s count)).1, fun j => ?_,
      hexec.trans ((instr_of_ok (shiftDouble_of_lt d r count hr hw (Nat.ne_of_gt hpos) (Nat.not_le_of_lt hlt))).trans ?_)⟩
    · cases d with
      | left => exact getLsbD_result_left (truncSize_lt sz _) hlt j
      | right => exact getLsbD_result_right (s.value_lt sz _) hlt j
    · cases d <;> rfl
  · have hpos : countValue s count ≠ 0 := fun h => hN (Nat.le_zero.mp (h ▸ hge))
    exact hexec.trans (instr_of_ok (shiftDouble_of_ge d r count hr hw hpos hge))

end Sys2Proof.Machine
end

section
/-!
PROOFS. Bit test and bit scan (41_muldiv_shift_bit.md R266 to R272): the bits of the rewritten unit, and the first set bit.
-/
namespace Sys2Proof.Machine

open Sys2Proof.Claims

/-! ### Bit test (R266 to R270) -/

/-- The tested bit becomes what the operation makes of it, and every other bit is kept (R267 to R270). -/
theorem getLsbD_apply (op : BitOp) (v : DWord) {k : Nat} (h : k < 32) (j : Nat) :
    (op.apply v k).getLsbD j = if j = k then newBit op (v.getLsbD k) else v.getLsbD j := by
  by_cases hj : j = k
  · subst hj
    have hbit : (bitAt true j).getLsbD j = true := by
      rw [getLsbD_bitAt]
      simp [h]
    rw [if_pos rfl]
    cases op <;> simp only [BitOp.apply, newBit, BitVec.getLsbD_or, BitVec.getLsbD_and, BitVec.getLsbD_xor, BitVec.getLsbD_not, hbit,
      Bool.or_true, Bool.xor_true, Bool.not_true, Bool.and_false]
  · have hbit : (bitAt true k).getLsbD j = false := by simp [getLsbD_bitAt, hj]
    rw [if_neg hj]
    cases op with
    | bt => rfl
    | bts => rw [BitOp.apply, BitVec.getLsbD_or, hbit, Bool.or_false]
    | btr => simpa [BitOp.apply, hbit] using BitVec.lt_of_getLsbD
    | btc => rw [BitOp.apply, BitVec.getLsbD_xor, hbit, Bool.xor_false]

/-- The unit and bit of a register offset, in memory or in a register (R266). -/
theorem registerBit_lt (s : State) (rm : RM Reg) (r : Reg) : (registerBit s rm r).2 < s.osz.size.bits := by
  have hpos := bits_pos s.osz.size
  have hmod (off : Int) : (off % (s.osz.size.bits : Int)).toNat < s.osz.size.bits := by
    have := Int.emod_nonneg off (b := s.osz.size.bits) (by omega)
    have := Int.emod_lt_of_pos off (b := s.osz.size.bits) (by omega)
    omega
  cases rm with
  | reg q => exact Nat.mod_lt _ hpos
  | mem m => exact hmod _

theorem instr_bitReg (op : BitOp) (rm : RM Reg) (r : Reg) (s : State) :
    instr (bitReg op rm r) s = instr (bitLoc op s.osz.size (registerBit s rm r).1 (registerBit s rm r).2) s := by
  refine instr_congr ((query_id_bind_run _ s).trans ?_)
  cases rm <;> rfl

theorem instr_bitImm (op : BitOp) (rm : RM Reg) (imm : Byte) (s : State) :
    instr (bitImm op rm imm) s = instr (bitLoc op s.osz.size (locV s rm) (imm.toNat % s.osz.size.bits)) s :=
  instr_congr (query_id_bind_run _ s)

/-- The eight forms are one operation on a unit (R266 to R270). -/
theorem exec_of_bitForm {i : Instr} {s : State} {op : BitOp} {u : Loc × Nat} (h : bitForm s i = some (op, u)) :
    exec i s = instr (bitLoc op s.osz.size u.1 u.2) s ∧ u.2 < s.osz.size.bits := by
  cases i
  case btRmvRv rm r | btsRmvRv rm r | btrRmvRv rm r | btcRmvRv rm r =>
    cases h; exact ⟨instr_bitReg _ rm r s, registerBit_lt s rm r⟩
  case btRmvImm8 rm imm | btsRmvImm8 rm imm | btrRmvImm8 rm imm | btcRmvImm8 rm imm =>
    cases h; exact ⟨instr_bitImm _ rm imm s, Nat.mod_lt _ (bits_pos _)⟩
  all_goals cases h

/-- CF is the bit; all but BT write the unit back (R267 to R270). -/
theorem bitLoc_of_ready {s : State} {op : BitOp} {sz : Size} {l : Loc} (k : Nat) (hr : Readable s sz l)
    (hw : op ≠ .bt → Writable s sz l) :
    bitLoc op sz l k s = .ok () { (if op = .bt then s else s.stored sz l (op.apply (s.value sz l) k)) with
      flags := { s.flags with cf := (s.value sz l).getLsbD k } } := by
  unfold bitLoc
  rw [bind_of_ok (readLoc_of_readable hr)]
  by_cases hop : op = .bt
  · rw [if_pos hop, if_pos hop]
    rfl
  · rw [if_neg hop, if_neg hop]
    refine (bind_of_ok (writeLoc_of_writable _ (hw hop))).trans ((updateFlags_run _ _).trans ?_)
    rw [State.stored_flags]

/-- Settles O25: the eight forms test a bit of one unit, and rewrite it bit by bit. -/
theorem bitTestResult : Obligations.BitTestResult := by
  unfold Obligations.BitTestResult
  intro i s op l k hform hr hw v
  obtain ⟨hexec, hk⟩ := exec_of_bitForm hform
  refine ⟨op.apply v k, getLsbD_apply op v (Nat.lt_of_lt_of_le hk (bits_le _)), hk, hexec.trans (instr_of_ok (bitLoc_of_ready k hr hw)), ?_⟩
  split
  · exact fun _ _ => rfl
  · exact stored_onlyBytes s s.osz.size l _

/-! ### Bit scan (R271, R272) -/

/-- BSF or BSR. -/
def scanInstr (d : Scan) (r : Reg) (rm : RM Reg) : Instr :=
  match d with
  | .forward => .bsf r rm
  | .reverse => .bsr r rm

/-- `k` is the set bit that a scan meets first: the least one, or the greatest. -/
def IsFirstBit (d : Scan) (sz : Size) (v : DWord) (k : Nat) : Prop :=
  k < sz.bits ∧ v.getLsbD k = true ∧ match d with
    | .forward => ∀ j, j < k → v.getLsbD j = false
    | .reverse => ∀ j, k < j → v.getLsbD j = false

theorem find_zero (d : Scan) (sz : Size) : d.find sz 0 = none := by
  cases d <;> simp [Scan.find]

/-- A scan that finds nothing has seen every bit of the value. -/
theorem eq_zero_of_find_none {d : Scan} {sz : Size} {v : DWord} (hlt : v.toNat < 2 ^ sz.bits) (h : d.find sz v = none) : v = 0 := by
  have hclear (j : Nat) (hj : j < sz.bits) : v.getLsbD j = false := by
    cases d with
    | forward => exact Bool.eq_false_iff.mpr (List.find?_eq_none.mp h j (List.mem_range.mpr hj))
    | reverse => exact Bool.eq_false_iff.mpr (List.find?_eq_none.mp h j (List.mem_reverse.mpr (List.mem_range.mpr hj)))
  refine BitVec.eq_of_getLsbD_eq fun j _ => ?_
  rw [BitVec.ofNat_eq_ofNat, BitVec.getLsbD_zero]
  rcases Nat.lt_or_ge j sz.bits with hj | hj
  · exact hclear j hj
  · exact getLsbD_of_bits_le hlt hj

/-- What a scan finds is the first set bit; the bits that a reverse scan passes are counted from the top. -/
theorem isFirstBit_of_find {d : Scan} {sz : Size} {v : DWord} {k : Nat} (hlt : v.toNat < 2 ^ sz.bits) (h : d.find sz v = some k) :
    IsFirstBit d sz v k := by
  cases d with
  | forward =>
    obtain ⟨hset, hmem, hbelow⟩ := List.find?_range_eq_some.mp h
    exact ⟨List.mem_range.mp hmem, hset, fun j hj => by simpa using hbelow j hj⟩
  | reverse =>
    obtain ⟨hset, i, hi, hget, hpassed⟩ := List.find?_eq_some_iff_getElem.mp h
    simp only [List.length_reverse, List.length_range, List.getElem_reverse, List.getElem_range] at hi hget hpassed
    refine ⟨by omega, hset, fun j hj => ?_⟩
    rcases Nat.lt_or_ge j sz.bits with hN | hN
    · have hindex : sz.bits - 1 - (sz.bits - 1 - j) = j := by omega
      simpa [hindex] using hpassed (sz.bits - 1 - j) (by omega)
    · exact getLsbD_of_bits_le hlt hN

/-- A value of the size that is not 0 has a first set bit. -/
theorem exists_find {sz : Size} {v : DWord} (d : Scan) (hlt : v.toNat < 2 ^ sz.bits) (h : v ≠ 0) :
    ∃ k, d.find sz v = some k ∧ IsFirstBit d sz v k := by
  cases hfind : d.find sz v with
  | none => exact absurd (eq_zero_of_find_none hlt hfind) h
  | some k => exact ⟨k, rfl, isFirstBit_of_find hlt hfind⟩

section
variable {s : State} {rm : RM Reg} (d : Scan) (r : Reg) (hr : Readable s s.osz.size (locV s rm))
include hr

theorem bitScan_of_zero (h : s.value s.osz.size (locV s rm) = 0) : bitScan d r rm s = .ok ()
    { s.setRegS s.osz.size r (Config.undef s.draws) with draws := s.draws + 1, flags := { s.flags with zf := true } } := by
  unfold bitScan
  rw [query_id_bind_run, bind_of_ok (readLoc_of_readable hr), h, find_zero]
  cases s.osz <;> rfl

theorem bitScan_of_find {k : Nat} (h : d.find s.osz.size (s.value s.osz.size (locV s rm)) = some k) : bitScan d r rm s = .ok ()
    { s.setRegS s.osz.size r (BitVec.ofNat 32 k) with flags := { s.flags with zf := false } } := by
  unfold bitScan
  rw [query_id_bind_run, bind_of_ok (readLoc_of_readable hr), h]
  cases s.osz <;> rfl

end

/-- Settles O26: a scan finds nothing in 0, and in any other value its first set bit. -/
theorem bitScanResult : Obligations.BitScanResult := by
  unfold Obligations.BitScanResult
  intro s r rm sz v found hr
  have hexec (d : Scan) : exec (scanInstr d r rm) s = instr (bitScan d r rm) s := by cases d <;> rfl
  refine ⟨fun hzero i hi => ?_, fun hne => ?_⟩
  · have hrun (d : Scan) := (hexec d).trans (instr_of_ok (bitScan_of_zero d r hr hzero))
    simp only [List.mem_cons, List.not_mem_nil, or_false] at hi
    rcases hi with rfl | rfl
    · exact hrun .forward
    · exact hrun .reverse
  · have hfirst (d : Scan) : ∃ k, IsFirstBit d sz v k ∧ exec (scanInstr d r rm) s = .next (found k) := by
      obtain ⟨k, hfind, hk⟩ := exists_find d (s.value_lt sz _) hne
      exact ⟨k, hk, (hexec d).trans (instr_of_ok (bitScan_of_find d r hr hfind))⟩
    obtain ⟨k, ⟨hlt, hset, hbelow⟩, hforward⟩ := hfirst .forward
    obtain ⟨m, ⟨hltm, hsetm, habove⟩, hreverse⟩ := hfirst .reverse
    exact ⟨⟨k, hlt, hset, hbelow, hforward⟩, m, hltm, hsetm, habove, hreverse⟩

end Sys2Proof.Machine
end

section
/-!
PROOFS. SETcc (41_muldiv_shift_bit.md R273; 10_state.md R37).
-/
namespace Sys2Proof.Machine

open Sys2Proof.Claims

/-- The sixteen forms are one store, of 1 or 0 by the condition (R273). -/
theorem exec_of_setForm {i : Instr} {c : Cond} {rm : RM Reg8} (h : setForm i = some (c, rm)) (s : State) :
    exec i s = instr (setIf c rm) s := by
  unfold setForm at h
  split at h <;> cases h <;> rfl

theorem setIf_of_writable {s : State} {rm : RM Reg8} (c : Cond) (h : Writable s .byte (loc8 s rm)) :
    setIf c rm s = .ok () (s.stored .byte (loc8 s rm) (if c.holds s.flags then 1 else 0)) :=
  (query_id_bind_run _ s).trans (writeLoc_of_writable _ h)

/-- Settles O27: SETcc is a store, and each condition of the table is what the flags say. -/
theorem setConditionResult : Obligations.SetConditionResult := by
  unfold Obligations.SetConditionResult
  intro i s c rm hform hw t
  refine ⟨(exec_of_setForm hform s).trans (instr_of_ok (setIf_of_writable c hw)), stored_onlyBytes s .byte _ _, fun f => ?_⟩
  have ha : Cond.a.holds f = !Cond.be.holds f := (Bool.not_or f.cf f.zf).symm
  have hl : Cond.l.holds f = (f.sf ^^ f.ofl) := rfl
  have hge : Cond.ge.holds f = !Cond.l.holds f := (Bool.not_not _).symm
  have hg : Cond.g.holds f = !Cond.le.holds f :=
    (congrArg (!f.zf && ·) hge).trans (Bool.not_or f.zf _).symm
  exact ⟨rfl, rfl, rfl, rfl, rfl, rfl, hl, congrArg (f.zf || ·) hl, rfl, rfl, rfl, ha, rfl, rfl, hge, hg⟩

end Sys2Proof.Machine
end

section
/-!
PROOFS. Flag control (42_data_movement.md R350 to R354, R360) and the moves between general operands, the extensions, LEA, XLAT and
XCHG (R302, R305 to R309).
-/
namespace Sys2Proof.Machine

open Sys2Proof.Claims

/-! ### Flag control (R350 to R354, R360) -/

/-- Settles O38: the six opcodes are literal, and each meaning is one update of the flags. -/
theorem flagControlResult : Obligations.FlagControlResult := by
  unfold Obligations.FlagControlResult
  refine ⟨fun w => ?_, fun s => ⟨rfl, rfl, rfl, rfl, rfl, rfl⟩⟩
  cases w <;> exact ⟨rfl, rfl, rfl, rfl, rfl, rfl⟩

/-! ### MOV (R302) -/

/-- A move: the source is read and then stored in the destination. -/
def moveLoc (sz : Size) (dst : Loc) (src : Src) : Op Unit := readSrc sz src >>= fun v => writeLoc sz v dst

theorem moveLoc_of_ready {s : State} {sz : Size} {l : Loc} {x : Src} (hx : x.ready s sz) (hl : Writable s sz l) :
    moveLoc sz l x s = .ok () (s.stored sz l (x.val s sz)) :=
  (bind_of_ok (readSrc_of_ready hx)).trans (writeLoc_of_writable _ hl)

theorem instr_movImm8 (dst : RM Reg8) (imm : Byte) (s : State) :
    instr (movImm8 dst imm) s = instr (moveLoc .byte (loc8 s dst) (.imm (imm.setWidth 32))) s :=
  instr_congr ((query_id_bind_run _ s).trans (pure_bind_run _ _ s).symm)

theorem instr_movImmv (dst : RM Reg) (imm : DWord) (s : State) :
    instr (movImmv dst imm) s = instr (moveLoc s.osz.size (locV s dst) (.imm imm)) s :=
  instr_congr ((query_id_bind_run _ s).trans (pure_bind_run _ _ s).symm)

/-- The twelve forms are one move. -/
theorem exec_of_movForm {i : Instr} {s : State} {sz : Size} {l : Loc} {x : Src} (h : movForm s i = some (sz, l, x)) :
    exec i s = instr (moveLoc sz l x) s := by
  unfold movForm at h
  split at h
  case h_1 | h_2 | h_3 | h_4 => cases h; exact instr_congr (query_id_bind_run _ s)
  case h_5 r imm => cases h; exact instr_movImm8 (.reg r) imm s
  case h_6 r imm => cases h; exact instr_movImmv (.reg r) imm s
  case h_7 rm imm => cases h; exact instr_movImm8 rm imm s
  case h_8 rm imm => cases h; exact instr_movImmv rm imm s
  case h_9 | h_11 => cases h; exact instr_congr (query_id_bind_run _ s)
  case h_10 | h_12 => cases h; exact instr_congr ((query_id_bind_run _ s).trans (query_id_bind_run _ s))
  case h_13 => cases h

/-- Settles O28: the twelve forms are one move, which writes its destination alone. -/
theorem moveResult : Obligations.MoveResult := by
  unfold Obligations.MoveResult
  intro i s sz l x hform hx hl
  exact ⟨(exec_of_movForm hform).trans (instr_of_ok (moveLoc_of_ready hx hl)), stored_onlyBytes s sz l _⟩

/-! ### MOVZX and MOVSX (R305, R306) -/

/-- The four forms are one extension, of an operand to the operand size. -/
theorem exec_of_extendForm {i : Instr} {s : State} {signed : Bool} {sz : Size} {r : Reg} {l : Loc}
    (h : extendForm s i = some (signed, sz, r, l)) : exec i s = instr (moveExtended signed sz r l) s ∧ sz.bits ≤ 16 := by
  unfold extendForm at h
  split at h
  case h_5 => cases h
  all_goals cases h; exact ⟨instr_congr (query_id_bind_run _ s), by decide⟩

theorem moveExtended_of_readable {s : State} {sz : Size} {l : Loc} (signed : Bool) (r : Reg) (h : Readable s sz l) :
    moveExtended signed sz r l s =
      .ok () (s.setRegS s.osz.size r (if signed then signExtendFrom sz (s.value sz l) else s.value sz l)) := by
  unfold moveExtended
  rw [bind_of_ok (readLoc_of_readable h), query_bind_run, update_run]
  rfl

/-- A sign extension that is cut again is a sign extension. -/
theorem setWidth_signExtend {w m n : Nat} (h : n ≤ m) (x : BitVec w) : (x.signExtend m).setWidth n = x.signExtend n := by
  apply BitVec.eq_of_getLsbD_eq
  intro i hi
  have hm : i < m := by omega
  simp only [BitVec.getLsbD_setWidth, BitVec.getLsbD_signExtend, hi, hm, decide_true, Bool.true_and]

/-- A sign extension is the same number, read at any size that is wide enough. -/
theorem toSigned_signExtend {w : Nat} (x : BitVec w) {sz : Size} (h : w ≤ sz.bits) : toSigned sz (x.signExtend 32) = x.toInt := by
  cases sz with
  | byte | word =>
    refine (congrArg BitVec.toInt (setWidth_signExtend (by decide) x)).trans ?_
    exact BitVec.toInt_signExtend_of_le h
  | dword => exact BitVec.toInt_signExtend_of_le h

/-- An extended operand is the number that the operand is, at either operand size (R305, R306). -/
theorem number_extended (signed : Bool) {sz dst : Size} (h : sz.bits ≤ dst.bits) (v : DWord) :
    number signed dst (if signed then signExtendFrom sz v else v) = number signed sz v := by
  cases signed with
  | false => rfl
  | true =>
    cases sz with
    | byte | word => exact toSigned_signExtend _ h
    | dword =>
      cases dst with
      | dword => rfl
      | byte | word => exact absurd h (by decide)

/-! ### XCHG (R307) -/

section
variable {s : State}

theorem xchg8_of_ready {rm : RM Reg8} (r : Reg8) (hr : Readable s .byte (loc8 s rm)) (hw : Writable s .byte (loc8 s rm)) :
    xchg8 rm r s = .ok () ((s.stored .byte (loc8 s rm) ((s.reg8 r).setWidth 32)).setReg8 r
      ((s.value .byte (loc8 s rm)).setWidth 8)) := by
  unfold xchg8
  rw [query_id_bind_run, bind_of_ok (readLoc_of_readable hr), bind_of_ok (writeLoc_of_writable _ hw), update_run]

theorem xchgV_of_ready {rm : RM Reg} (r : Reg) (hr : Readable s s.osz.size (locV s rm)) (hw : Writable s s.osz.size (locV s rm)) :
    xchgV rm r s = .ok () ((s.stored s.osz.size (locV s rm) (s.regS s.osz.size r)).setRegS s.osz.size r
      (s.value s.osz.size (locV s rm))) := by
  unfold xchgV
  rw [query_id_bind_run, bind_of_ok (readLoc_of_readable hr), bind_of_ok (writeLoc_of_writable _ hw), update_run]

end

/-! ### XLAT (R308) -/

theorem tableLookup_of_allowed {s : State}
    (h : Allowed s .read (s.segOr .ds) (truncTo s.asz (s.gpr.ebx + (s.reg8 .al).setWidth 32)) 1) :
    tableLookup s = .ok () (s.setReg8 .al
      ((s.loaded (s.segOr .ds) (truncTo s.asz (s.gpr.ebx + (s.reg8 .al).setWidth 32)) 1).setWidth 8)) := by
  unfold tableLookup
  rw [query_id_bind_run, bind_of_ok (memRead_of_allowed h), update_run]

/-- Settles O29: the extensions keep the number, and each of the others is a read followed by its writes. -/
theorem extendAddressExchangeResult : Obligations.ExtendAddressExchangeResult := by
  unfold Obligations.ExtendAddressExchangeResult
  refine ⟨⟨?_, fun s r m => rfl, ?_⟩, ?_⟩
  · intro i s signed sz r l hform hr
    obtain ⟨hexec, hbits⟩ := exec_of_extendForm hform
    have hdst : sz.bits ≤ s.osz.size.bits := Nat.le_trans hbits (by cases s.osz <;> decide)
    exact ⟨_, hexec.trans (instr_of_ok (moveExtended_of_readable signed r hr)), number_extended signed hdst _⟩
  · intro s off hr
    exact instr_of_ok (tableLookup_of_allowed hr)
  · intro s r b x y sz
    refine ⟨fun hr hw => ?_, fun hr hw => ?_, instr_of_ok (xchgV_of_ready (s := s) (rm := .reg r) .eax trivial trivial)⟩
    · exact ⟨instr_of_ok (xchgV_of_ready r hr hw), stored_onlyBytes s sz _ _⟩
    · exact ⟨instr_of_ok (xchg8_of_ready b hr hw), stored_onlyBytes s .byte _ _⟩

end Sys2Proof.Machine
end

section
/-!
PROOFS. MOV from a segment register, and the loads of a segment register outside protected mode (42_data_movement.md R303, R304,
R310; 10_state.md R40, R52).
-/
namespace Sys2Proof.Machine

open Sys2Proof.Claims

/-! ### The load outside protected mode (R40) -/

/-- Outside protected mode a segment register is loaded without a check (R40). -/
theorem loadSeg_of_not_prot {s : State} (h : s.mode ≠ .prot) (r : SReg) (sel : Word) : loadSeg r sel s = .ok () (s.load8086 r sel) := by
  rw [loadSeg, query_bind_run]
  cases hmode : s.mode with
  | prot => exact absurd hmode h
  | real | v86 => rfl

/-- An instruction that, from the state `p` which its pops leave, loads a segment register outside protected mode and then does
`fin`. -/
theorem instr_load8086 {x : Op Unit} {s p : State} {sr : SReg} {sel : Word} {fin : State → State}
    (hx : x s = (loadSeg sr sel >>= fun _ => update fin) p) (hmode : p.mode ≠ .prot) :
    instr x s = .next (fin (p.load8086 sr sel)) :=
  instr_of_ok (hx.trans ((bind_of_ok (loadSeg_of_not_prot hmode sr sel)).trans (update_run fin _)))

/-- The register that the load leaves: a V86 segment with PE set, else the old one with selector and base changed (R40, D19). -/
theorem sreg_load8086 (s : State) (r : SReg) (sel : Word) :
    (s.load8086 r sel).sreg r = if s.pe then v86Segment sel else realSegment (s.sreg r) sel :=
  State.sreg_setSreg_same s r _

/-- The base of 16 times a selector does not wrap (R40). -/
theorem toNat_shiftLeft_four (sel : Word) : (sel.setWidth 32 <<< 4).toNat = 16 * sel.toNat := by
  have := sel.isLt
  rw [BitVec.toNat_shiftLeft, BitVec.toNat_setWidth_of_le (by decide), Nat.shiftLeft_eq]
  omega

/-- Selector, base and limit after the load (R40). -/
theorem sreg_load8086_fields (s : State) (sr : SReg) (sel : Word) :
    ((s.load8086 sr sel).sreg sr).sel = sel ∧ ((s.load8086 sr sel).sreg sr).base.toNat = 16 * sel.toNat ∧
    (s.pe = true → (s.load8086 sr sel).sreg sr = v86Segment sel) ∧
    (s.pe = false → ((s.load8086 sr sel).sreg sr).limit = (s.sreg sr).limit) := by
  rw [sreg_load8086]
  cases s.pe with
  | true => exact ⟨rfl, toNat_shiftLeft_four sel, fun _ => rfl, nofun⟩
  | false => exact ⟨rfl, toNat_shiftLeft_four sel, nofun, fun _ => rfl⟩

/-! ### MOV from a segment register (R303) -/

/-- A 32-bit register takes the selector in its low half, and a free upper half (R303, U13). -/
theorem movFromSeg_reg_w32 {s : State} (h : s.osz = .w32) (r : Reg) (sr : SReg) : movFromSeg (.reg r) sr s =
    .ok () { s.setReg r (setLow16 (Config.undef s.draws) (s.selD sr)) with draws := s.draws + 1 } := by
  unfold movFromSeg
  rw [query_id_bind_run, h]
  rfl

/-- Every other operand takes the selector as a word (R303). -/
theorem movFromSeg_word {s : State} {rm : RM Reg} (h : s.osz = .w16 ∨ isMemory rm = true) (hw : Writable s .word (locV s rm))
    (sr : SReg) : movFromSeg rm sr s = .ok () (s.stored .word (locV s rm) (s.selD sr)) := by
  have hstore := writeLoc_of_writable (s.selD sr) hw
  unfold movFromSeg
  rw [query_id_bind_run]
  cases rm with
  | mem m => exact hstore
  | reg r =>
    rcases h with hsize | hmem
    · rw [hsize]
      exact hstore
    · exact absurd hmem Bool.false_ne_true

/-- Settles O30: MOV from a segment register is a store of the selector, and outside protected mode the loads are one assignment to
the register. -/
theorem segmentRegisterMoves8086 : Obligations.SegmentRegisterMoves8086 := by
  unfold Obligations.SegmentRegisterMoves8086
  refine ⟨fun s sr r h => instr_of_ok (movFromSeg_reg_w32 h r sr), fun s sr rm h hw => ?_, fun s sr rm hmode hr => ?_,
    fun i s sr r m hi hmode hr => ?_, sreg_load8086_fields, fun sel => ?_⟩
  · exact ⟨instr_of_ok (movFromSeg_word h hw sr), stored_onlyBytes s .word _ _⟩
  · exact instr_load8086 (movToSeg_of_readable hr) hmode
  · exact (exec_of_pointerForm hi s).trans (instr_load8086 (loadPointer_of_readable hr) hmode)
  · exact ⟨rfl, toNat_shiftLeft_four sel, rfl, rfl, rfl, rfl, rfl, by simp [v86Segment], by simp [v86Segment]⟩

end Sys2Proof.Machine
end

section
/-!
PROOFS. PUSH and POP (42_data_movement.md R300, R301, R320 to R323).
-/
namespace Sys2Proof.Machine

open Sys2Proof.Claims

/-! ### The stack pointer (R106, R300, R301) -/

theorem truncTo_truncTo (w : Width) (v : DWord) : truncTo w (truncTo w v) = truncTo w v := by
  cases w with
  | w16 => exact (BitVec.and_assoc ..).trans (congrArg (v &&& ·) (BitVec.and_self ..))
  | w32 => rfl

theorem onlyRegs_setSp (s : State) (v : DWord) : OnlyRegs [.esp] s (s.setSp v) :=
  fun q hq => State.reg_setRegW_other s s.ssz .esp q v fun h => hq (h ▸ List.mem_singleton_self q)

/-- After a push eSP is the offset that was written (R300). -/
theorem pushed_sp (s : State) (w : Width) (v : DWord) : (s.pushed w v).sp = s.pushSp w := by
  rw [State.pushed, setSp_sp, State.storedAt_ssz, State.pushSp, truncTo_truncTo]

/-! ### Stores of a part of a value (R80) -/

/-- A store of `k` bytes takes the low bits of the value alone. -/
theorem writeAll_congr {addrs : List DWord} {v x : DWord} (m : List Host.Cell)
    (h : ∀ i < 8 * addrs.length, v.getLsbD i = x.getLsbD i) : Memory.writeAll m addrs v = Memory.writeAll m addrs x := by
  induction addrs generalizing m v x with
  | nil => rfl
  | cons a rest ih =>
    rw [List.length_cons] at h
    have hfirst : v.setWidth 8 = x.setWidth 8 := by
      apply BitVec.eq_of_getLsbD_eq
      intro i hi
      simp only [BitVec.getLsbD_setWidth, h i (by omega)]
    have hrest : ∀ i < 8 * rest.length, (v >>> 8).getLsbD i = (x >>> 8).getLsbD i := by
      intro i hi
      simp only [BitVec.getLsbD_ushiftRight, h (8 + i) (by omega)]
    rw [Memory.writeAll, Memory.writeAll, hfirst, ih _ hrest]

/-- A push of a width takes the value cut to it (R300). -/
theorem pushed_truncSize (s : State) (w : Width) (v : DWord) : s.pushed w (truncSize w.size v) = s.pushed w v := by
  have hbits : w.size.bits = 8 * w.bytes := by cases w <;> rfl
  have hmem : s.storedAt .ss (s.pushSp w) w.bytes (truncSize w.size v) = s.storedAt .ss (s.pushSp w) w.bytes v := by
    unfold State.storedAt
    rw [writeAll_congr s.mem]
    intro i hi
    have hlen := s.range_length_le .write .ss (s.pushSp w) w.bytes
    have hi : i < w.size.bits := by omega
    rw [getLsbD_truncSize, decide_eq_true hi, Bool.true_and]
  rw [State.pushed, hmem, State.pushed]

/-! ### PUSH of a general operand (R320) -/

/-- The value that PUSH pushes: of a register all of it, of which the push takes what its width has. -/
def pushValue (s : State) : Src → DWord
  | .loc (.reg r) => s.reg r
  | x => x.val s s.osz.size

/-- As a push takes it, the value of the operand is that of the source. -/
theorem pushed_val (s : State) (x : Src) : s.pushed s.osz (x.val s s.osz.size) = s.pushed s.osz (pushValue s x) := by
  match x with
  | .loc (.reg r) => exact pushed_truncSize s s.osz (s.reg r)
  | .loc (.reg8 r) | .loc (.mem seg off) | .imm v => rfl

/-- The four forms push their operand. -/
theorem exec_of_pushForm {i : Instr} {s : State} {x : Src} (h : pushForm s i = some x) (hx : x.ready s s.osz.size)
    (hp : CanPush s s.osz) : exec i s = .next (s.pushed s.osz (pushValue s x)) := by
  have himm (v : DWord) : instr (pushImm v) s = .next (s.pushed s.osz v) :=
    instr_of_ok ((query_id_bind_run _ s).trans (push_of_can v hp))
  unfold pushForm at h
  split at h
  case h_1 r => cases h; exact instr_of_ok ((query_id_bind_run _ s).trans (push_of_can (s.reg r) hp))
  case h_2 imm => cases h; exact himm imm
  case h_3 imm => cases h; exact himm (imm.signExtend 32)
  case h_4 rm =>
    cases h
    rw [← pushed_val]
    exact instr_of_ok ((query_id_bind_run _ s).trans ((bind_of_ok (readLoc_of_readable hx)).trans (push_of_can _ hp)))
  case h_5 => cases h

/-! ### PUSH of a segment register (R321) -/

/-- The six forms have one meaning. -/
theorem exec_of_pushSegForm {i : Instr} {sr : SReg} (h : pushSegForm i = some sr) (s : State) : exec i s = instr (pushSeg sr) s := by
  unfold pushSegForm at h
  split at h <;> cases h <;> rfl

/-- A push is allowed, and does the same, whatever has been drawn before. -/
theorem canPush_draws {s : State} {w : Width} (h : CanPush s w) (k : Nat) : CanPush { s with draws := k } w :=
  (allowed_congr (s := s) (t := { s with draws := k }) rfl rfl rfl rfl rfl rfl ..).mpr h

theorem setRegW_draws_comm (s : State) (k : Nat) (w : Width) (r : Reg) (v : DWord) :
    State.setRegW { s with draws := k } w r v = { s.setRegW w r v with draws := k } := by
  cases w <;> rfl

theorem pushed_draws_comm (s : State) (k : Nat) (w : Width) (v : DWord) :
    State.pushed { s with draws := k } w v = { s.pushed w v with draws := k } := by
  have hbytes : w.size.bytes = w.bytes := by cases w <;> rfl
  have hstore := State.stored_draws_comm s k w.size (.mem .ss (s.pushSp w)) v
  simp only [State.stored, hbytes] at hstore
  exact (congrArg (State.setSp · (s.pushSp w)) hstore).trans (setRegW_draws_comm _ k s.ssz .esp _)

theorem pushSeg_w16 {s : State} (h : s.osz = .w16) (hp : CanPush s .w16) (sr : SReg) :
    pushSeg sr s = .ok () (s.pushed .w16 (s.selD sr)) := by
  unfold pushSeg
  rw [query_id_bind_run, h]
  exact push_of_can _ hp

/-- A 32-bit push draws the upper half before it pushes (R321, U14). -/
theorem pushSeg_w32 {s : State} (h : s.osz = .w32) (hp : CanPush s .w32) (sr : SReg) : pushSeg sr s =
    .ok () { s.pushed .w32 (setLow16 (Config.undef s.draws) (s.selD sr)) with draws := s.draws + 1 } := by
  unfold pushSeg
  rw [query_id_bind_run, h]
  exact (drawUndef_bind_run _ s).trans ((push_of_can _ (canPush_draws hp _)).trans (congrArg _ (pushed_draws_comm ..)))

/-- Settles O32: every form is one push, and a push changes its bytes and (E)SP alone. -/
theorem pushResult : Obligations.PushResult := by
  unfold Obligations.PushResult
  refine ⟨fun i s x hi hx hp => ?_, fun i s sr hi hp => ?_, fun s w v hp => ?_⟩
  · rw [exec_of_pushForm hi hx hp]
    match x with
    | .loc (.reg r) | .loc (.reg8 r) | .loc (.mem seg off) | .imm v => rfl
  · rw [exec_of_pushSegForm hi]
    exact ⟨fun h => instr_of_ok (pushSeg_w16 h (h ▸ hp) sr), fun h => instr_of_ok (pushSeg_w32 h (h ▸ hp) sr)⟩
  · refine ⟨fun a ha => ?_, onlyRegs_setSp _ _, pushed_sp s w v⟩
    rw [State.pushed, State.setSp_mem]
    exact storedAt_onlyBytes s .ss _ _ v a ha

/-! ### POP (R322, R323) -/

/-- The two forms have one meaning. -/
theorem exec_of_popForm {i : Instr} {x : RM Reg} (h : popForm i = some x) (s : State) : exec i s = instr (popRm x) s := by
  unfold popForm at h
  split at h <;> cases h <;> rfl

/-- The popped value is stored in the operand that the raised (E)SP gives (R322). -/
theorem popRm_of_can {s : State} {x : RM Reg} (hp : CanPop s s.osz)
    (hw : Writable (s.popped s.osz) s.osz.size (locV (s.popped s.osz) x)) :
    popRm x s = .ok () ((s.popped s.osz).stored s.osz.size (locV (s.popped s.osz) x) (s.top s.osz)) := by
  unfold popRm
  rw [query_id_bind_run, bind_of_ok (pop_of_can hp), query_id_bind_run]
  exact writeLoc_of_writable _ hw

/-- Settles O33: POP is a pop followed by a store, or by the load of a segment register. -/
theorem popResult : Obligations.PopResult := by
  unfold Obligations.PopResult
  refine ⟨fun i s x hi hp => ?_, fun i s sr hi hmode hp => ?_, fun s w => ⟨setSp_sp s _, onlyRegs_setSp s _, State.popped_mem s w⟩⟩
  · intro u hw
    refine ⟨(exec_of_popForm hi s).trans (instr_of_ok (popRm_of_can hp hw)), fun a ha => ?_⟩
    rw [← State.popped_mem s s.osz]
    exact stored_onlyBytes u s.osz.size _ _ a ha
  · refine (exec_of_popSegForm hi s).trans (instr_load8086 (popSeg_of_can hp) ?_)
    rwa [State.popped_mode]

end Sys2Proof.Machine
end

section
/-!
PROOFS. PUSHA, POPA, ENTER, LEAVE and BOUND (42_data_movement.md R324, R325, R330 to R332).
-/
namespace Sys2Proof.Machine

open Sys2Proof.Claims

/-! ### Several pushes (R324) -/

theorem pushAllOf_of_can {w : Width} {vs : List DWord} {s : State} (h : CanPushAll w vs s) :
    pushAllOf w vs s = .ok () (pushedAll w vs s) := by
  induction vs generalizing s with
  | nil => rfl
  | cons v rest ih =>
    obtain ⟨hfirst, hrest⟩ := h
    exact (bind_of_ok (push_of_can v hfirst)).trans (ih hrest)

/-- A push that the segment refuses raises that exception (R300). -/
theorem push_of_segFault {s : State} {w : Width} {e : Exc}
    (h : segFault s.mode .ss s.seg.ss (s.pushSp w) w.bytes .write = some e) (v : DWord) : push w v s = .error e s := by
  have hcheck : checkSeg .ss (s.pushSp w) w.bytes .write s = .error e s := by
    rw [checkSeg]
    exact h ▸ rfl
  unfold push memWrite
  rw [query_id_bind_run]
  exact bind_of_error (bind_of_error hcheck)

/-- The first push that the segment refuses ends the pushes with that exception. -/
theorem pushAllOf_of_segFault {w : Width} {vs : List DWord} {s : State} {e : Exc} {k : Nat} (hk : k < vs.length)
    (hcan : CanPushAll w (vs.take k) s)
    (h : let u := pushedAll w (vs.take k) s
      segFault u.mode .ss u.seg.ss (u.pushSp w) w.bytes .write = some e) : ∃ t, pushAllOf w vs s = .error e t := by
  induction k generalizing vs s with
  | zero =>
    obtain ⟨v, rest, rfl⟩ := List.exists_cons_of_length_pos hk
    exact ⟨s, bind_of_error (push_of_segFault h v)⟩
  | succ k ih =>
    obtain ⟨v, rest, rfl⟩ := List.exists_cons_of_length_pos (Nat.zero_lt_of_lt hk)
    obtain ⟨hfirst, hrest⟩ := hcan
    obtain ⟨t, ht⟩ := ih (Nat.lt_of_succ_lt_succ hk) hrest h
    exact ⟨t, (bind_of_ok (push_of_can v hfirst)).trans ht⟩

/-- PUSHA outside protected mode without room for all eight raises interrupt 13 (R324). -/
theorem pushAll_of_no_room {s : State} (hmode : s.mode ≠ .prot) (hroom : s.hasRoom s.osz.bytes 8 = false) :
    pushAll s = .error (Exc.gp 0) s := by
  have htest : (s.mode != .prot && !s.hasRoom s.osz.bytes 8) = true := by simp [hmode, hroom]
  unfold pushAll
  rw [query_id_bind_run, htest, raiseIf_true_bind_run]

/-- In protected mode, or with room for all eight, PUSHA is its eight pushes (R324). -/
theorem pushAll_of_room {s : State} (h : s.mode = .prot ∨ s.hasRoom s.osz.bytes 8 = true) :
    pushAll s = pushAllOf s.osz
      [s.gpr.eax, s.gpr.ecx, s.gpr.edx, s.gpr.ebx, s.gpr.esp, s.gpr.ebp, s.gpr.esi, s.gpr.edi] s := by
  have htest : (s.mode != .prot && !s.hasRoom s.osz.bytes 8) = false := by
    rcases h with h | h <;> simp [h]
  unfold pushAll
  rw [query_id_bind_run, htest, raiseIf_false_bind_run]

/-! ### Several pops (R325) -/

/-- Pops that are allowed pass the check of them all. -/
theorem holdsItems_of_canPopAll {w : Width} {n : Nat} {s : State} (h : CanPopAll w n s) : s.holdsItems w.bytes n = true := by
  induction n generalizing s with
  | zero => rfl
  | succ n ih =>
    obtain ⟨⟨hfirst, _⟩, hrest⟩ := h
    have hfirst : segFault s.mode .ss s.seg.ss s.sp w.bytes .read = none := hfirst
    rw [holdsItems_succ, hfirst, ih hrest]
    rfl

/-- Writing a general register of a width replaces the part of it that the width names (R21). -/
def replacePart (w : Width) (old v : DWord) : DWord :=
  match w with
  | .w16 => setLow16 old v
  | .w32 => v

theorem State.setRegW_eq (s : State) (w : Width) (r : Reg) (v : DWord) : s.setRegW w r v = s.setReg r (replacePart w (s.reg r) v) := by
  cases w <;> rfl

/-- The general registers are what they read as. -/
theorem Gprs.eq_of_get_eq {g g' : Gprs} (h : ∀ r, g.get r = g'.get r) : g = g' := by
  cases g
  cases g'
  exact Gprs.mk.injEq .. ▸ ⟨h .eax, h .ecx, h .edx, h .ebx, h .esp, h .ebp, h .esi, h .edi⟩

theorem Gprs.set_comm (g : Gprs) {r q : Reg} (h : r ≠ q) (v x : DWord) : (g.set r v).set q x = (g.set q x).set r v := by
  apply Gprs.eq_of_get_eq
  intro p
  by_cases hq : p = q
  · subst hq
    rw [Gprs.get_set_same, Gprs.get_set_other _ _ _ _ h.symm, Gprs.get_set_same]
  · rw [Gprs.get_set_other _ _ _ _ hq]
    by_cases hr : p = r
    · subst hr
      rw [Gprs.get_set_same, Gprs.get_set_same]
    · rw [Gprs.get_set_other _ _ _ _ hr, Gprs.get_set_other _ _ _ _ hr, Gprs.get_set_other _ _ _ _ hq]

/-- Writes to different registers can be made in either order (R21). -/
theorem State.setRegW_comm (s : State) (w w' : Width) {r q : Reg} (h : r ≠ q) (v x : DWord) :
    (s.setRegW w r v).setRegW w' q x = (s.setRegW w' q x).setRegW w r v := by
  rw [State.setRegW_eq s w, State.setRegW_eq s w', State.setRegW_eq _ w', State.setRegW_eq _ w, State.reg_setReg_other _ _ _ _ h,
    State.reg_setReg_other _ _ _ _ h.symm]
  exact congrArg (fun g => { s with gpr := g }) (s.gpr.set_comm h _ _)

section
variable {r : Reg} (h : r ≠ .esp) (s : State) (w : Width) (v : DWord)
include h

/-- A register other than (E)SP has no part in what the stack holds. -/
theorem sp_setRegW : (s.setRegW w r v).sp = s.sp := by
  have hreg : (s.setRegW w r v).reg .esp = s.reg .esp := State.reg_setRegW_other s w r .esp v h.symm
  unfold State.sp State.regW
  rw [State.setRegW_ssz, hreg]

theorem canPop_setRegW (w' : Width) : CanPop (s.setRegW w r v) w' ↔ CanPop s w' := by
  rw [CanPop, sp_setRegW h]
  exact allowed_congr (by simp) (by simp) (by simp) (by simp) (by simp) (by simp) ..

theorem top_setRegW (w' : Width) : (s.setRegW w r v).top w' = s.top w' := by
  rw [State.top, sp_setRegW h]
  exact loaded_congr (by simp) (by simp) (by simp) (by simp) (by simp) ..

theorem popped_setRegW (w' : Width) : (s.setRegW w r v).popped w' = (s.popped w').setRegW w r v := by
  rw [State.popped, sp_setRegW h, State.setSp, State.setRegW_ssz]
  exact s.setRegW_comm w s.ssz h _ _

theorem poppedAll_setRegW (n : Nat) : poppedAll w n (s.setRegW w r v) = (poppedAll w n s).setRegW w r v := by
  induction n generalizing s with
  | zero => rfl
  | succ n ih => rw [poppedAll, popped_setRegW h, ih, poppedAll]

theorem canPopAll_setRegW (n : Nat) : CanPopAll w n (s.setRegW w r v) ↔ CanPopAll w n s := by
  induction n generalizing s with
  | zero => rfl
  | succ n ih => rw [CanPopAll, CanPopAll, canPop_setRegW h, popped_setRegW h, ih]

theorem stackValue_setRegW : stackValue w (s.setRegW w r v) = stackValue w s := by
  funext k
  rw [stackValue, poppedAll_setRegW h, top_setRegW h, stackValue]

end

/-- A pop into a register (R325, R331). -/
theorem popInto_of_can {s : State} {w : Width} (r : Reg) (h : CanPop s w) :
    popInto w r s = .ok () ((s.popped w).setRegW w r (s.top w)) :=
  (bind_of_ok (pop_of_can h)).trans (update_run _ _)

/-- Values popped one after another, each into a register or, for `none`, discarded. -/
def popsInto (w : Width) : List (Option Reg) → Op Unit
  | [] => pure ()
  | some r :: rest => popInto w r >>= fun _ => popsInto w rest
  | none :: rest => pop w >>= fun _ => popsInto w rest

/-- A state with values in registers, the `k`-th value in the `k`-th one, and nowhere for `none`. -/
def loadedFrom (w : Width) (value : Nat → DWord) : List (Option Reg) → State → State
  | [], t => t
  | some r :: rest, t => loadedFrom w (fun k => value (k + 1)) rest (t.setRegW w r (value 0))
  | none :: rest, t => loadedFrom w (fun k => value (k + 1)) rest t

/-- Pops that are allowed load the values of the stack, since none of the registers is (E)SP. -/
theorem popsInto_of_can {w : Width} {rs : List (Option Reg)} (hrs : some Reg.esp ∉ rs) {s : State} (h : CanPopAll w rs.length s) :
    popsInto w rs s = .ok () (loadedFrom w (stackValue w s) rs (poppedAll w rs.length s)) := by
  induction rs generalizing s with
  | nil => rfl
  | cons x rest ih =>
    obtain ⟨hx, hrest⟩ := not_or.mp (mt List.mem_cons.mpr hrs)
    obtain ⟨hfirst, hmore⟩ := h
    cases x with
    | none => exact (bind_of_ok (pop_of_can hfirst)).trans (ih hrest hmore)
    | some r =>
      have hr : r ≠ .esp := fun he => hx (congrArg some he.symm)
      refine (bind_of_ok (popInto_of_can r hfirst)).trans ((ih hrest ((canPopAll_setRegW hr ..).mpr hmore)).trans ?_)
      rw [stackValue_setRegW hr, poppedAll_setRegW hr]
      rfl

/-- The registers of POPA, the image of (E)SP discarded (R325). -/
def popAllRegs : List (Option Reg) := [some .edi, some .esi, some .ebp, none, some .ebx, some .edx, some .ecx, some .eax]

/-- POPA is the check of its pops and then its pops (R325). -/
theorem popAll_run (s : State) : popAll s = (checkPops s.osz.bytes 8 >>= fun _ => popsInto s.osz popAllRegs) s := by
  unfold popAll
  rw [query_id_bind_run]
  simp only [popAllRegs, popsInto, bind_pure_unit]

theorem popAll_of_can {s : State} (h : CanPopAll s.osz 8 s) :
    popAll s = .ok () (loadedFrom s.osz (stackValue s.osz s) popAllRegs (poppedAll s.osz 8 s)) := by
  have hcheck : checkPops s.osz.bytes 8 s = .ok () s := by rw [checkPops_run, if_pos (holdsItems_of_canPopAll h)]
  rw [popAll_run, bind_of_ok hcheck]
  exact popsInto_of_can (by decide) h

theorem popAll_of_short {s : State} (h : s.holdsItems s.osz.bytes 8 = false) : popAll s = .error (Exc.ss 0) s := by
  have hcheck : checkPops s.osz.bytes 8 s = .error (Exc.ss 0) s := by rw [checkPops_run, h, if_neg Bool.false_ne_true]
  rw [popAll_run, bind_of_error hcheck]

/-! ### ENTER and LEAVE (R330, R331) -/

theorem copyFrames_of_can {w : Width} {n : Nat} {s : State} (h : CanCopyFrames w n s) :
    copyFrames w n s = .ok () (framesCopied w n s) := by
  induction n generalizing s with
  | zero => rfl
  | succ n ih =>
    obtain ⟨hread, hpush, hrest⟩ := h
    rw [copyFrames, update_bind_run, query_id_bind_run, bind_of_ok (memRead_of_allowed hread), bind_of_ok (push_of_can _ hpush),
      ih hrest]
    rfl

/-- ENTER: the first push, for a level above 0 the copied frame pointers and the new one, then the two registers (R330). -/
theorem enterFrame_of_can {s : State} {n : Word} {level : Byte} (hpush : CanPush s s.osz)
    (h : level.toNat % 32 ≠ 0 →
      CanCopyFrames s.osz (level.toNat % 32 - 1) (s.pushed s.osz (s.reg .ebp)) ∧
      CanPush (framesCopied s.osz (level.toNat % 32 - 1) (s.pushed s.osz (s.reg .ebp))) s.osz) :
    let p := s.pushed s.osz (s.reg .ebp)
    let u := if level.toNat % 32 = 0 then p else (framesCopied s.osz (level.toNat % 32 - 1) p).pushed s.osz p.sp
    enterFrame n level s = .ok () ((u.setRegW s.osz .ebp p.sp).setSp (u.sp - n.setWidth 32)) := by
  intro p u
  unfold enterFrame
  rw [query_id_bind_run]
  refine (bind_of_ok (push_of_can _ hpush)).trans ?_
  rw [query_bind_run]
  have hfinish (t : State) : (update (fun t => t.setRegW s.osz .ebp p.sp) >>= fun _ =>
      update fun t => t.setSp (t.sp - n.setWidth 32)) t =
      .ok () ((t.setRegW s.osz .ebp p.sp).setSp (t.sp - n.setWidth 32)) := by
    rw [update_bind_run, update_run, sp_setRegW (by decide)]
  by_cases hk : level.toNat % 32 = 0
  · have hu : u = p := if_pos hk
    rw [if_pos hk, hu]
    exact hfinish p
  · have hu : u = (framesCopied s.osz (level.toNat % 32 - 1) p).pushed s.osz p.sp := if_neg hk
    obtain ⟨hcopy, hnew⟩ := h hk
    rw [if_neg hk, hu]
    exact (bind_of_ok (copyFrames_of_can hcopy)).trans ((bind_of_ok (push_of_can p.sp hnew)).trans (hfinish _))

theorem leaveFrame_of_can {s : State} (h : CanPop (s.setSp (s.reg .ebp)) s.osz) : leaveFrame s =
    .ok () (((s.setSp (s.reg .ebp)).popped s.osz).setRegW s.osz .ebp ((s.setSp (s.reg .ebp)).top s.osz)) := by
  unfold leaveFrame
  rw [query_id_bind_run, update_bind_run]
  exact popInto_of_can .ebp h

/-! ### BOUND (R332) -/

/-- The bounds that can be read are compared with the index (R332). -/
theorem boundCheck_of_readable {s : State} {r : Reg} {m : EA} {seg : SReg} {ea : DWord} {sz : Size}
    (hseg : s.segOr (defaultSegment m) = seg) (hea : effectiveOffset s m = ea) (hsz : s.osz.size = sz)
    (hwhole : segFault s.mode seg (s.sreg seg) ea (2 * sz.bytes) .read = none) (hlo : Allowed s .read seg ea sz.bytes)
    (hhi : Allowed s .read seg (ea + BitVec.ofNat 32 sz.bytes) sz.bytes) :
    boundCheck r m s =
      if toSigned sz (s.loaded seg ea sz.bytes) ≤ toSigned sz (s.reg r) ∧
        toSigned sz (s.reg r) ≤ toSigned sz (s.loaded seg (ea + BitVec.ofNat 32 sz.bytes) sz.bytes) then .ok () s
      else .error (Exc.plain 5) s := by
  subst hseg hea hsz
  have hcheck : checkSeg (s.segOr (defaultSegment m)) (effectiveOffset s m) (2 * s.osz.size.bytes) .read s = .ok () s := by
    simp only [checkSeg, hwhole]
  have houtside (lo i hi : Int) : (decide (i < lo) || decide (hi < i)) = true ↔ ¬(lo ≤ i ∧ i ≤ hi) := by
    rw [Bool.or_eq_true, decide_eq_true_eq, decide_eq_true_eq]
    omega
  unfold boundCheck
  rw [query_id_bind_run]
  refine (bind_of_ok hcheck).trans ?_
  rw [bind_of_ok (memRead_of_allowed hlo), bind_of_ok (memRead_of_allowed hhi), raiseIf_run]
  simp only [houtside, ite_not]

/-- Settles O34: each listing is a run of pushes or pops; the registers that POPA loads have no part in the stack. -/
theorem pushAllAndFrameResult : Obligations.PushAllAndFrameResult := by
  unfold Obligations.PushAllAndFrameResult
  refine ⟨?_, ?_, ?_, ?_⟩
  · intro s w regs v
    refine ⟨fun hroom hcan => ?_, fun hmode hroom => ?_, fun k hk => ?_, fun hcan => ?_, fun hshort => ?_⟩
    · exact instr_of_ok ((pushAll_of_room hroom).trans (pushAllOf_of_can hcan))
    · exact instr_of_error (pushAll_of_no_room hmode hroom)
    · intro u hmode hcan hfault
      obtain ⟨t, ht⟩ := pushAllOf_of_segFault hk hcan hfault
      exact instr_of_error ((pushAll_of_room (.inl hmode)).trans ht)
    · exact instr_of_ok (popAll_of_can hcan)
    · exact instr_of_error (popAll_of_short hshort)
  · intro s n level w p k c hpush hdisplay u
    exact instr_of_ok (enterFrame_of_can hpush hdisplay)
  · intro s u hpop
    exact instr_of_ok (leaveFrame_of_can hpop)
  · intro s r m sz seg ea hi hwhole hlo hhi x
    have hrun := boundCheck_of_readable (r := r) rfl rfl rfl hwhole hlo hhi
    split
    · next hin => exact instr_of_ok (hrun.trans (if_pos hin))
    · next hout => exact instr_of_error (hrun.trans (if_neg hout))

end Sys2Proof.Machine
end

section
/-!
PROOFS. The flags on the stack and in AH (42_data_movement.md R326 to R329, 60_exceptions.md R550).
-/
namespace Sys2Proof.Machine

/-- Outside V86 mode, and there with IOPL 3, the IOPL test passes (R550). -/
theorem checkV86Iopl_passes {s : State} (h : s.mode ≠ .v86 ∨ s.flags.iopl = 3) : checkV86Iopl s = .ok () s := by
  rw [checkV86Iopl_run, if_neg]
  rintro ⟨hmode, hiopl⟩
  rcases h with h | h
  · exact h hmode
  · rw [h] at hiopl
    exact absurd hiopl (by decide)

theorem checkV86Iopl_refuses {s : State} (hmode : s.mode = .v86) (hiopl : s.flags.iopl < 3) :
    checkV86Iopl s = .error (Exc.gp 0) s := by
  rw [checkV86Iopl_run, if_pos ⟨hmode, hiopl⟩]

/-- What POPF loads, with its privilege tests as propositions (R327). -/
theorem Flags.load_eq (f : Flags) (pe : Bool) (cpl : BitVec 2) (v : DWord) :
    f.load pe cpl v = { Flags.ofImage v with
      iopl := if pe = false ∨ cpl = 0 then (Flags.ofImage v).iopl else f.iopl
      ifl := if pe = false ∨ cpl ≤ f.iopl then (Flags.ofImage v).ifl else f.ifl
      rf := f.rf
      vm := f.vm } := by
  simp [Flags.load]

theorem pushFlags_of_can {s : State} (h : s.mode ≠ .v86 ∨ s.flags.iopl = 3) (hp : CanPush s s.osz) :
    pushFlags s = .ok () (s.pushed s.osz s.flags.image) := by
  unfold pushFlags
  rw [bind_of_ok (checkV86Iopl_passes h), query_id_bind_run]
  exact push_of_can _ hp

theorem popFlags_of_can {s : State} (h : s.mode ≠ .v86 ∨ s.flags.iopl = 3) (hp : CanPop s s.osz) :
    popFlags s = .ok () { s.popped s.osz with flags := s.flags.load s.pe s.cpl (s.top s.osz) } := by
  unfold popFlags
  rw [bind_of_ok (checkV86Iopl_passes h), query_id_bind_run, bind_of_ok (pop_of_can hp), updateFlags_run, State.popped_flags]

/-- Settles O35: past the IOPL test PUSHF is a push and POPF a pop, and the privilege decides on IOPL and IF. -/
theorem flagsOnStackAndInAh : Obligations.FlagsOnStackAndInAh := by
  unfold Obligations.FlagsOnStackAndInAh
  intro s v ah new
  refine ⟨fun hmode hiopl => ⟨?_, ?_⟩, fun h => ⟨fun hp => ?_, fun hp => ?_⟩, rfl, rfl⟩
  · exact instr_of_error (bind_of_error (checkV86Iopl_refuses hmode hiopl))
  · exact instr_of_error (bind_of_error (checkV86Iopl_refuses hmode hiopl))
  · exact instr_of_ok (pushFlags_of_can h hp)
  · have hrun := popFlags_of_can h hp
    rw [Flags.load_eq] at hrun
    exact instr_of_ok hrun

end Sys2Proof.Machine
end

section
/-!
PROOFS. Port I/O (42_data_movement.md R340, R341; 20_memory.md R84, R121).
-/
namespace Sys2Proof.Machine

open Sys2Proof.Claims

/-! ### The I/O access check (R121) -/

/-- In V86 mode, or with CPL above IOPL, the bit map is consulted (R121). -/
theorem ioConsulted_iff (s : State) : (s.pe && (s.flags.vm || decide (s.flags.iopl < s.cpl))) = true ↔
    s.mode = .v86 ∨ (s.mode = .prot ∧ s.flags.iopl < s.cpl) := by
  unfold State.mode
  cases s.pe <;> cases s.flags.vm <;> simp

/-- Where the bit map is not consulted every port is allowed (R121). -/
theorem ioAllowed_of_privilege {s : State} (h : s.mode = .real ∨ (s.mode = .prot ∧ s.cpl ≤ s.flags.iopl)) (p : Word) (sz : Size) :
    IoAllowed s p sz := by
  have hnot : ¬(s.pe && (s.flags.vm || decide (s.flags.iopl < s.cpl))) = true := by
    rw [ioConsulted_iff]
    rintro (hv | ⟨hprot, hlt⟩)
    · rcases h with h | ⟨h, _⟩ <;> exact absurd (h.symm.trans hv) (by decide)
    · rcases h with h | ⟨_, hle⟩
      · exact absurd (h.symm.trans hprot) (by decide)
      · exact absurd hle (BitVec.not_le.mpr hlt)
  unfold IoAllowed checkIo
  rw [query_id_bind_run, if_neg hnot, pure_run]

/-- Without an 80386 TSS the bit map allows nothing (R122). -/
theorem ioPermissionBits_of_not_386 {s : State} (h : s.tr.is386 = false) (port count : Nat) :
    ioPermissionBits port count s = .ok false s := by
  unfold ioPermissionBits
  rw [query_id_bind_run, h]
  rfl

theorem ioPermissionWrapped_of_not_386 {s : State} (h : s.tr.is386 = false) (port n : Nat) :
    ioPermissionWrapped port n s = .ok (n == 0) s := by
  induction n generalizing port with
  | zero => rfl
  | succ n ih => exact (bind_of_ok (ioPermissionBits_of_not_386 h _ _)).trans ((bind_of_ok (ih (port + 1))).trans rfl)

theorem checkIo_of_not_386 {s : State} (h : s.mode = .v86 ∨ (s.mode = .prot ∧ s.flags.iopl < s.cpl)) (h386 : s.tr.is386 = false)
    (p : Word) (sz : Size) : checkIo p sz s = .error (Exc.gp 0) s := by
  have hbytes : (sz.bytes == 0) = false := by cases sz <;> rfl
  have hperm : ioPermission p sz.bytes s = .ok false s := by
    unfold ioPermission
    split
    · exact ioPermissionBits_of_not_386 h386 _ _
    · rw [ioPermissionWrapped_of_not_386 h386, hbytes]
  unfold checkIo
  rw [query_id_bind_run, if_pos ((ioConsulted_iff s).mpr h), bind_of_ok hperm]
  rfl

/-! ### IN and OUT (R340, R341) -/

section
variable {i : Instr} {s : State} {p : Word} {sz : Size}

/-- The four forms of IN have one meaning. -/
theorem exec_of_inForm (h : inForm s i = some (p, sz)) : exec i s = instr (inPort p sz) s := by
  unfold inForm at h
  split at h
  case h_1 => cases h; rfl
  case h_2 | h_3 => cases h; exact instr_congr (query_id_bind_run _ s)
  case h_4 => cases h; exact instr_congr ((query_id_bind_run _ s).trans (query_id_bind_run _ s))
  case h_5 => cases h

/-- The four forms of OUT have one meaning. -/
theorem exec_of_outForm (h : outForm s i = some (p, sz)) : exec i s = instr (outPort p sz) s := by
  unfold outForm at h
  split at h
  case h_1 => cases h; rfl
  case h_2 | h_3 => cases h; exact instr_congr (query_id_bind_run _ s)
  case h_4 => cases h; exact instr_congr ((query_id_bind_run _ s).trans (query_id_bind_run _ s))
  case h_5 => cases h

/-- A free value in the accumulator (R340). -/
theorem inPort_of_allowed (h : IoAllowed s p sz) :
    inPort p sz s = .ok () { s.setAcc sz (truncSize sz (Config.ioIn p sz s.draws)) with draws := s.draws + 1 } := by
  refine (bind_of_ok h).trans ?_
  cases sz <;> rfl

/-- The write recorded; the accumulator has the size already (R341). -/
theorem outPort_of_allowed (h : IoAllowed s p sz) :
    outPort p sz s = .ok () { s with ioWrites := s.ioWrites ++ [⟨p, sz, s.acc sz⟩] } := by
  have hcut : truncSize sz (s.acc sz) = s.acc sz := truncSize_of_lt (truncSize_lt sz _)
  refine (bind_of_ok h).trans ?_
  rw [query_id_bind_run, ioWrite, update_run, hcut]

end

/-- Settles O36: every form is the check followed by one read or one recorded write. -/
theorem portInputOutputResult : Obligations.PortInputOutputResult := by
  unfold Obligations.PortInputOutputResult
  refine ⟨fun i s p sz hi => ?_, fun i s p sz hi => ?_, fun s p sz => ?_⟩
  · rw [exec_of_inForm hi]
    exact ⟨fun h => instr_of_ok (inPort_of_allowed h), fun e h => instr_of_error (bind_of_error h)⟩
  · rw [exec_of_outForm hi]
    exact ⟨fun h => instr_of_ok (outPort_of_allowed h), fun e h => instr_of_error (bind_of_error h)⟩
  · exact ⟨fun h => ioAllowed_of_privilege h p sz, fun h h386 => checkIo_of_not_386 h h386 p sz⟩

end Sys2Proof.Machine
end

section
/-!
PROOFS. CLI, STI, HLT and WAIT (42_data_movement.md R355, R356, R361, R364; 60_exceptions.md R537).
-/
namespace Sys2Proof.Machine

/-! ### The tests of privilege (R355, R356, R361) -/

theorem checkIopl_run (s : State) :
    checkIopl s = if s.pe = false ∨ s.cpl ≤ s.flags.iopl then .ok () s else .error (Exc.gp 0) s := by
  have htest : (s.pe && decide (s.flags.iopl < s.cpl)) = true ↔ ¬(s.pe = false ∨ s.cpl ≤ s.flags.iopl) := by simp
  unfold checkIopl
  rw [query_id_bind_run, raiseIf_run]
  simp only [htest, ite_not]

theorem checkPrivileged_run (s : State) :
    checkPrivileged s = if s.pe = false ∨ s.cpl = 0 then .ok () s else .error (Exc.gp 0) s := by
  have htest : (s.pe && s.cpl != 0) = true ↔ ¬(s.pe = false ∨ s.cpl = 0) := by simp
  unfold checkPrivileged
  rw [query_id_bind_run, raiseIf_run]
  simp only [htest, ite_not]

/-! ### WAIT (R364, R537) -/

/-- The two exceptions of WAIT in their order, then the wait (R364). -/
theorem waitCoprocessor_run (s : State) :
    waitCoprocessor s = if (s.mp && s.ts) = true then .error Exc.nm s
      else if s.pins.error = true then .error Exc.mf s
      else if s.pins.busy = true then .ok () { s with run := .waiting s.eip, eip := s.insnStart } else .ok () s := by
  unfold waitCoprocessor
  rw [query_id_bind_run, raiseIf_bind_run, raiseIf_bind_run]
  cases s.pins.busy <;> rfl

/-- Settles O39: CLI, STI and HLT are a test of privilege and one update; WAIT is two tests and one. -/
theorem interruptFlagHaltWaitResult : Obligations.InterruptFlagHaltWaitResult := by
  unfold Obligations.InterruptFlagHaltWaitResult
  intro s allowed
  have hwait := waitCoprocessor_run s
  refine ⟨fun h => ?_, fun h => ?_, fun h => ?_, fun hpe hcpl => ?_, fun hmp hts => ?_, fun hnm herr => ?_, fun hnm herr hbusy => ?_,
    fun hnm herr hbusy => ?_⟩
  · have htest : checkIopl s = .ok () s := (checkIopl_run s).trans (if_pos h)
    exact ⟨instr_of_ok ((bind_of_ok htest).trans rfl), instr_of_ok ((bind_of_ok htest).trans rfl)⟩
  · have htest : checkIopl s = .error (Exc.gp 0) s := (checkIopl_run s).trans (if_neg h)
    exact ⟨instr_of_error (bind_of_error htest), instr_of_error (bind_of_error htest)⟩
  · have htest : checkPrivileged s = .ok () s := (checkPrivileged_run s).trans (if_pos h)
    exact instr_of_ok ((bind_of_ok htest).trans rfl)
  · have htest : checkPrivileged s = .error (Exc.gp 0) s := (checkPrivileged_run s).trans (if_neg (not_or.mpr ⟨by simp [hpe], hcpl⟩))
    exact instr_of_error (bind_of_error htest)
  · exact instr_of_error (hwait.trans (if_pos (by simp [hmp, hts])))
  · rw [hnm, herr] at hwait
    exact instr_of_error hwait
  · rw [hnm, herr, hbusy] at hwait
    exact instr_of_ok hwait
  · rw [hnm, herr, hbusy] at hwait
    exact instr_of_ok hwait

end Sys2Proof.Machine
end

section
/-!
PROOFS. The string instructions and the repeat prefixes (43_string_rep.md R370 to R379).
-/
namespace Sys2Proof.Machine

open Sys2Proof.Claims

/-! ### One element (R370 to R377) -/

theorem advance_run (r : Reg) (sz : Size) (s : State) : advance r sz s = .ok () (advanced r sz s) := rfl

theorem advance_bind_run (r : Reg) (sz : Size) (f : Unit → Op Unit) (s : State) :
    (advance r sz >>= f) s = f () (advanced r sz s) := bind_of_ok (advance_run r sz s)

section
variable {s : State} {sz : Size}

/-- One read at the source, one write at the destination (R371). -/
theorem movs_of_allowed (hr : Allowed s .read (s.segOr .ds) s.srcIndex sz.bytes) (hw : Allowed s .write .es s.dstIndex sz.bytes) :
    movs sz s = .ok () (advanced .edi sz (advanced .esi sz
      (s.storedAt .es s.dstIndex sz.bytes (s.loaded (s.segOr .ds) s.srcIndex sz.bytes)))) := by
  unfold movs
  rw [query_id_bind_run, bind_of_ok (memRead_of_allowed hr), bind_of_ok (memWrite_of_allowed _ hw), advance_bind_run, advance_run]

/-- Two reads, and the flags of their difference (R372). -/
theorem cmps_of_allowed (hsrc : Allowed s .read (s.segOr .ds) s.srcIndex sz.bytes)
    (hdst : Allowed s .read .es s.dstIndex sz.bytes) :
    cmps sz s = .ok () (advanced .edi sz (advanced .esi sz { s with
      flags := s.flags.sub sz (s.loaded (s.segOr .ds) s.srcIndex sz.bytes) (s.loaded .es s.dstIndex sz.bytes) false })) := by
  unfold cmps
  rw [query_id_bind_run, bind_of_ok (memRead_of_allowed hsrc), bind_of_ok (memRead_of_allowed hdst), updateFlags_bind_run,
    advance_bind_run, advance_run]

/-- One read, and the flags of the accumulator less it (R373). -/
theorem scas_of_allowed (h : Allowed s .read .es s.dstIndex sz.bytes) :
    scas sz s = .ok () (advanced .edi sz { s with
      flags := s.flags.sub sz (s.acc sz) (s.loaded .es s.dstIndex sz.bytes) false }) := by
  unfold scas
  rw [query_id_bind_run, bind_of_ok (memRead_of_allowed h), updateFlags_bind_run, advance_run]

theorem lods_of_allowed (h : Allowed s .read (s.segOr .ds) s.srcIndex sz.bytes) :
    lods sz s = .ok () (advanced .esi sz (s.setAcc sz (s.loaded (s.segOr .ds) s.srcIndex sz.bytes))) := by
  unfold lods
  rw [query_id_bind_run, bind_of_ok (memRead_of_allowed h), update_bind_run, advance_run]

theorem stos_of_allowed (h : Allowed s .write .es s.dstIndex sz.bytes) :
    stos sz s = .ok () (advanced .edi sz (s.storedAt .es s.dstIndex sz.bytes (s.acc sz))) := by
  unfold stos
  rw [query_id_bind_run, bind_of_ok (memWrite_of_allowed _ h), advance_run]

/-- A draw has no part in a store, so it can be made before the store or after it. -/
theorem storedAt_with_draws (s : State) (seg : SReg) (off : DWord) (n d : Nat) (v : DWord) :
    State.storedAt { s with draws := d } seg off n v = { s.storedAt seg off n v with draws := d } := by
  have hrange := range_congr (s := s) (t := { s with draws := d }) rfl rfl rfl rfl rfl .write seg off n
  rw [State.storedAt, hrange]
  rfl

/-- INS checks its destination before it reads the port; what the port answers cannot make the write fail then (R376). -/
theorem ins_of_allowed (hio : IoAllowed s s.dx sz) (hw : Allowed s .write .es s.dstIndex sz.bytes) :
    ins sz s = .ok () (advanced .edi sz { s.storedAt .es s.dstIndex sz.bytes (truncSize sz (Config.ioIn s.dx sz s.draws)) with
      draws := s.draws + 1 }) := by
  have hport : ioRead s.dx sz s = .ok (truncSize sz (Config.ioIn s.dx sz s.draws)) { s with draws := s.draws + 1 } := rfl
  have hdrawn : Allowed { s with draws := s.draws + 1 } .write .es s.dstIndex sz.bytes :=
    (allowed_congr (s := s) (t := { s with draws := s.draws + 1 }) rfl rfl rfl rfl rfl rfl ..).mpr hw
  unfold ins
  rw [query_id_bind_run]
  refine (bind_of_ok hio).trans ((bind_of_ok (checkWrite_of_allowed hw)).trans ((bind_of_ok hport).trans ?_))
  rw [bind_of_ok (memWrite_of_allowed _ hdrawn), storedAt_with_draws, advance_run]

/-- OUTS reads memory and records the write to the port (R377). -/
theorem outs_of_allowed (hio : IoAllowed s s.dx sz) (hr : Allowed s .read (s.segOr .ds) s.srcIndex sz.bytes) :
    outs sz s = .ok () (advanced .esi sz { s with
      ioWrites := s.ioWrites ++ [⟨s.dx, sz, truncSize sz (s.loaded (s.segOr .ds) s.srcIndex sz.bytes)⟩] }) := by
  unfold outs
  rw [query_id_bind_run]
  refine (bind_of_ok hio).trans ?_
  rw [bind_of_ok (memRead_of_allowed hr), ioWrite, update_bind_run, advance_run]
  rfl

end

/-! ### The repeat prefixes (R378) -/

section
variable {s u : State} {compares : Bool} {prim : Op Unit} {k : Rep}

theorem repeated_of_rep_none (h : s.pfx.rep = none) : repeated compares prim s = prim s := by
  unfold repeated
  rw [query_id_bind_run, h]

theorem repeated_of_count_zero (h : s.pfx.rep = some k) (hcx : s.regW s.asz .ecx = 0) : repeated compares prim s = .ok () s := by
  unfold repeated
  rw [query_id_bind_run, h]
  exact congrFun (if_pos hcx) s

/-- With a count, the first step of an iteration is the element operation. -/
theorem repeated_of_count (h : s.pfx.rep = some k) (hcx : s.regW s.asz .ecx ≠ 0) :
    repeated compares prim s = (prim >>= fun _ => update (fun t => t.setRegW t.asz .ecx (t.reg .ecx - 1)) >>= fun _ =>
      query id >>= fun t => if (compares && k.ends t.flags.zf) || t.regW t.asz .ecx == 0 then pure () else setEip s.insnStart) s := by
  unfold repeated
  rw [query_id_bind_run, h]
  exact congrFun (if_neg hcx) s

theorem repeated_of_error {e : Exc} (h : s.pfx.rep = some k) (hcx : s.regW s.asz .ecx ≠ 0) (hprim : prim s = .error e u) :
    repeated compares prim s = .error e u :=
  (repeated_of_count h hcx).trans (bind_of_error hprim)

/-- An iteration whose element operation completes lowers the count; the repetition then ends, or EIP goes back to the
first byte of the instruction (R378). -/
theorem repeated_of_ok (h : s.pfx.rep = some k) (hcx : s.regW s.asz .ecx ≠ 0) (hprim : prim s = .ok () u) :
    let t := u.setRegW u.asz .ecx (u.reg .ecx - 1)
    repeated compares prim s =
      .ok () (if t.regW t.asz .ecx = 0 ∨ (compares = true ∧ k.ends u.flags.zf = true) then t
        else { t with eip := s.insnStart }) := by
  intro t
  have hflags : t.flags = u.flags := State.setRegW_flags ..
  have hends : ((compares && k.ends t.flags.zf) || t.regW t.asz .ecx == 0) = true ↔
      t.regW t.asz .ecx = 0 ∨ (compares = true ∧ k.ends u.flags.zf = true) := by
    rw [hflags, Bool.or_eq_true, Bool.and_eq_true, beq_iff_eq, or_comm]
  rw [repeated_of_count h hcx, bind_of_ok hprim, update_bind_run, query_id_bind_run]
  split
  · next hdone => rw [if_pos (hends.mp hdone), pure_run]
  · next hmore => rw [if_neg (mt hends.mpr hmore), setEip_run]

end

/-! ### The fourteen instructions -/

section
variable {s : State} {i : Instr} {sz : Size} {b : Bool} {f : Size → Op Unit}

/-- The fourteen forms have one meaning: the element operation at the size, repeated as R378 says. -/
theorem exec_of_stringForm (h : stringForm s i = some (sz, b, f)) : exec i s = instr (repeated b (f sz)) s := by
  unfold stringForm at h
  split at h
  case h_1 | h_3 | h_5 | h_7 | h_9 | h_11 | h_13 => cases h; rfl
  case h_2 | h_4 | h_6 | h_8 | h_10 | h_12 | h_14 => cases h; exact instr_congr (query_id_bind_run _ s)
  case h_15 => cases h

/-- Without REP and REPNE the two instructions of one kind are its element operation, at their size. -/
theorem exec_of_string_kind {iByte iSized : Instr} {c : Bool} {g : Size → Op Unit} {u : State}
    (h : stringForm s i = some (sz, b, f)) (hrep : s.pfx.rep = none) (hi : i = iByte ∨ i = iSized)
    (hbyte : stringForm s iByte = some (.byte, c, g)) (hsized : stringForm s iSized = some (s.osz.size, c, g))
    (hrun : g sz s = .ok () u) : exec i s = .next u := by
  have hop : f = g := by
    rcases hi with rfl | rfl
    · cases h.symm.trans hbyte; rfl
    · cases h.symm.trans hsized; rfl
  rw [exec_of_stringForm h, hop]
  exact instr_of_ok ((repeated_of_rep_none hrep).trans hrun)

end

/-- Settles O40: without REP and REPNE each form is its element operation, whose steps complete one after another. -/
theorem stringOperationResult : Obligations.StringOperationResult := by
  unfold Obligations.StringOperationResult
  intro i s sz b f hform hrep src dst q n port x y both rd rdES wr input
  refine ⟨fun hi hr hw => ?movs, fun hi hr hrES => ?cmps, fun hi hrES => ?scas, fun hi hr => ?lods, fun hi hw => ?stos,
    fun hi hio hw => ?ins, fun hi hio hr => ?outs, fun v => storedAt_onlyBytes s .es dst n v⟩
  case movs => exact exec_of_string_kind hform hrep hi rfl rfl (movs_of_allowed hr hw)
  case cmps => exact exec_of_string_kind hform hrep hi rfl rfl (cmps_of_allowed hr hrES)
  case scas => exact exec_of_string_kind hform hrep hi rfl rfl (scas_of_allowed hrES)
  case lods => exact exec_of_string_kind hform hrep hi rfl rfl (lods_of_allowed hr)
  case stos => exact exec_of_string_kind hform hrep hi rfl rfl (stos_of_allowed hw)
  case ins => exact exec_of_string_kind hform hrep hi rfl rfl (ins_of_allowed hio hw)
  case outs => exact exec_of_string_kind hform hrep hi rfl rfl (outs_of_allowed hio hr)

/-- Settles O41: a step under REP or REPNE is one iteration, whatever the element operation. -/
theorem stringRepeatResult : Obligations.StringRepeatResult := by
  unfold Obligations.StringRepeatResult
  intro i s sz b f k hform hrep
  rw [exec_of_stringForm hform]
  refine ⟨fun hcx => instr_of_ok (repeated_of_count_zero hrep hcx), fun hcx u hu => ?_,
    fun hcx e u hu => instr_of_error (repeated_of_error hrep hcx hu)⟩
  intro t finished
  have hrun := repeated_of_ok (compares := b) hrep hcx hu
  have hends : finished ↔ t.regW t.asz .ecx = 0 ∨ (b = true ∧ k.ends u.flags.zf = true) := by
    refine or_congr_right (and_congr_right fun _ => ?_)
    cases k with
    | rep => exact (Bool.not_eq_true' _).symm.to_iff
    | repne => exact Iff.rfl
  exact ⟨fun hdone => instr_of_ok (hrun.trans (congrArg _ (if_pos (hends.mp hdone)))),
    fun hmore => instr_of_ok (hrun.trans (congrArg _ (if_neg (mt hends.mpr hmore))))⟩

end Sys2Proof.Machine
end

section
/-!
PROOFS. Near jumps, calls and returns, and the LOOPs (44_control_transfer.md R390 to R401).
-/
namespace Sys2Proof.Machine

open Sys2Proof.Claims

/-! ### Near branches (R390 to R393) -/

/-- An instruction whose operation raises an exception under a condition and completes otherwise. -/
theorem instr_of_ite {x : Op Unit} {s t u : State} {e : Exc} {p : Prop} [Decidable p]
    (h : x s = if p then .error e t else .ok () u) : instr x s = .next (if p then s.raise e else u) := by
  split at h
  · next hp => rw [if_pos hp]; exact instr_of_error h
  · next hp => rw [if_neg hp]; exact instr_of_ok h

/-- The target is beyond the code segment in protected mode alone (R390). -/
theorem beyondCode_iff (s : State) (t : DWord) : s.beyondCode t = true ↔ s.mode = .prot ∧ s.seg.cs.limit.toNat < t.toNat := by
  simp [State.beyondCode]

/-- A near branch tests its target, cut to the operand size, and goes there (R390). -/
theorem nearBranch_run (t : DWord) (s : State) :
    nearBranch t s =
      if s.mode = .prot ∧ s.seg.cs.limit.toNat < (truncTo s.osz t).toNat then .error (Exc.gp 0) s
      else .ok () { s with eip := truncTo s.osz t } := by
  unfold nearBranch
  rw [query_id_bind_run, raiseIf_bind_run]
  simp only [beyondCode_iff, setEip_run]

/-- The same, by what another state with the same mode, sizes and segments says of the target. -/
theorem nearBranch_of_same {s u : State} (hosz : u.osz = s.osz) (hmode : u.mode = s.mode) (hseg : u.seg = s.seg) (t : DWord) :
    nearBranch t u =
      if s.mode = .prot ∧ s.seg.cs.limit.toNat < (truncTo s.osz t).toNat then .error (Exc.gp 0) u
      else .ok () { u with eip := truncTo s.osz t } := by
  have hlimit : u.seg.cs.limit = s.seg.cs.limit := congrArg (fun g => g.cs.limit) hseg
  rw [nearBranch_run, hosz, hmode, hlimit]

theorem jumpRel_run (rel : DWord) (s : State) : jumpRel rel s = nearBranch (s.eip + rel) s := query_id_bind_run _ s

/-- The 32 Jcc have one meaning (R391, R392). -/
theorem exec_of_jumpForm {i : Instr} {c : Cond} {rel : DWord} (h : jumpForm i = some (c, rel)) (s : State) :
    exec i s = instr (jumpIf c rel) s := by
  unfold jumpForm at h
  split at h <;> cases h <;> rfl

/-- A relative branch that is taken under a condition and otherwise does nothing. -/
theorem instr_jumpRel_ite {x : Op Unit} {s : State} {rel : DWord} {p : Prop} [Decidable p]
    (h : x s = (if p then jumpRel rel else pure ()) s) :
    instr x s = .next (if p then
        (if s.mode = .prot ∧ s.seg.cs.limit.toNat < (truncTo s.osz (s.eip + rel)).toNat then s.raise (Exc.gp 0)
          else { s with eip := truncTo s.osz (s.eip + rel) })
      else s) := by
  split at h
  · next hp => rw [if_pos hp]; exact instr_of_ite (h.trans ((jumpRel_run rel s).trans (nearBranch_run _ s)))
  · next hp => rw [if_neg hp]; exact instr_of_ok h

/-! ### The LOOPs (R394 to R396) -/

theorem exec_of_loopForm {i : Instr} {c : LoopCond} {rel : Byte} (h : loopForm i = some (c, rel)) (s : State) :
    exec i s = instr (loopWhile c rel) s := by
  unfold loopForm at h
  split at h <;> cases h <;> rfl

/-- A LOOP lowers the count; it goes on when the count is used up or the flag condition fails, and else branches from the
state with the lower count (R394 to R396). -/
theorem loopWhile_run (c : LoopCond) (rel : Byte) (s : State) :
    let u := s.setRegW s.asz .ecx (s.reg .ecx - 1)
    loopWhile c rel s =
      if u.regW s.asz .ecx ≠ 0 ∧ c.holds s.flags.zf = true then jumpRel (rel.signExtend 32) u else .ok () u := by
  intro u
  have hasz : u.asz = s.asz := State.setRegW_asz ..
  have hflags : u.flags = s.flags := State.setRegW_flags ..
  have htest : (u.regW u.asz .ecx != 0 && c.holds u.flags.zf) = true ↔ u.regW s.asz .ecx ≠ 0 ∧ c.holds s.flags.zf = true := by
    rw [hasz, hflags, Bool.and_eq_true, bne_iff_ne]
  unfold loopWhile
  rw [update_bind_run, query_id_bind_run]
  split
  · next h => rw [if_pos (htest.mp h)]
  · next h => rw [if_neg (mt htest.mpr h), pure_run]

/-- Settles O42: each jump is a near branch under a condition, and a LOOP one from the state with the count lowered. -/
theorem conditionalJumpAndLoopResult : Obligations.ConditionalJumpAndLoopResult := by
  unfold Obligations.ConditionalJumpAndLoopResult
  refine ⟨fun s => ?_, fun i s c rel hform => ?_⟩
  · intro jump
    refine ⟨fun i c rel hform => ?_, fun rel => instr_jumpRel_ite (query_id_bind_run _ s)⟩
    rw [exec_of_jumpForm hform]
    exact instr_jumpRel_ite (query_id_bind_run _ s)
  · intro u t zfOk
    have hzf : zfOk = c.holds s.flags.zf := by cases c <;> rfl
    have hseg : u.seg = s.seg := State.setRegW_seg ..
    have hjump : jumpRel (rel.signExtend 32) u = nearBranch (s.eip + rel.signExtend 32) u := by
      rw [jumpRel_run, State.setRegW_eip]
    have hbranch := nearBranch_of_same (State.setRegW_osz ..) (State.setRegW_mode ..) hseg (s.eip + rel.signExtend 32)
    rw [exec_of_loopForm hform]
    split
    · next htaken =>
      rw [hzf] at htaken
      exact instr_of_ite (((loopWhile_run c rel s).trans (if_pos htaken)).trans (hjump.trans hbranch))
    · next hdone =>
      rw [hzf] at hdone
      exact instr_of_ok ((loopWhile_run c rel s).trans (if_neg hdone))

/-! ### JMP, CALL and RET (R397 to R401) -/

/-- The three near jumps branch to the value of their operand (R397, R398). -/
theorem exec_of_nearJumpForm {i : Instr} {s : State} {x : Src} (h : nearJumpForm s i = some x) :
    exec i s = instr (readSrc s.osz.size x >>= nearBranch) s := by
  unfold nearJumpForm at h
  split at h
  case h_1 | h_2 => cases h; exact instr_congr ((jumpRel_run _ s).trans (pure_bind_run _ _ s).symm)
  case h_3 => cases h; exact instr_congr (query_id_bind_run _ s)
  case h_4 => cases h

/-- The two near calls call the value of their operand (R399, R400). -/
theorem exec_of_nearCallForm {i : Instr} {s : State} {x : Src} (h : nearCallForm s i = some x) :
    exec i s = instr (readSrc s.osz.size x >>= callNear) s := by
  unfold nearCallForm at h
  split at h
  case h_1 => cases h; exact instr_congr ((query_id_bind_run _ s).trans (pure_bind_run _ _ s).symm)
  case h_2 => cases h; exact instr_congr (query_id_bind_run _ s)
  case h_3 => cases h

theorem exec_of_nearReturn {i : Instr} {n : Word} (h : i = .retNearImm n ∨ (i = .retNear ∧ n = 0)) (s : State) :
    exec i s = instr (returnNear n) s := by
  rcases h with rfl | ⟨rfl, rfl⟩ <;> rfl

/-- Pushes that are allowed pass the check of them all. -/
theorem hasRoom_of_canPushAll {w : Width} {vs : List DWord} {s : State} (h : CanPushAll w vs s) :
    s.hasRoom w.bytes vs.length = true := by
  induction vs generalizing s with
  | nil => rfl
  | cons v rest ih =>
    obtain ⟨⟨hfirst, _⟩, hrest⟩ := h
    have hfirst : segFault s.mode .ss s.seg.ss (s.pushSp w) w.bytes .write = none := hfirst
    rw [List.length_cons, hasRoom_succ s w v, hfirst, ih hrest]
    rfl

/-- Where there is room for some pushes, their check passes (R404). -/
theorem checkPushes_of_hasRoom {w count : Nat} {s : State} (h : s.hasRoom w count = true) : checkPushes w count s = .ok () s := by
  rw [checkPushes_run, if_pos h]

/-- A near CALL whose push is allowed tests its target, and then pushes and goes there (R399). -/
theorem callNear_of_can {s : State} (h : CanPush s s.osz) (t : DWord) :
    callNear t s =
      if s.mode = .prot ∧ s.seg.cs.limit.toNat < (truncTo s.osz t).toNat then .error (Exc.gp 0) s
      else .ok () { s.pushed s.osz s.eip with eip := truncTo s.osz t } := by
  have hroom : s.hasRoom s.osz.bytes 1 = true := hasRoom_of_canPushAll (vs := [s.eip]) ⟨h, trivial⟩
  unfold callNear
  rw [query_id_bind_run]
  refine (bind_of_ok (checkPushes_of_hasRoom hroom)).trans ?_
  rw [raiseIf_bind_run, bind_of_ok (push_of_can _ h), setEip_run]
  simp only [beyondCode_iff]

/-- Setting EIP and setting eSP do not meet. -/
theorem setSp_with_eip (s : State) (t v : DWord) : ({ s with eip := t } : State).setSp v = { s.setSp v with eip := t } := by
  unfold State.setSp State.setRegW
  cases h : s.ssz <;> simp only [State.ssz] at h ⊢ <;> rw [h] <;> rfl

/-- A near RET whose pop is allowed tests the target it popped, goes there and drops its parameters (R401). -/
theorem returnNear_of_can {s : State} (h : CanPop s s.osz) (n : Word) :
    let u := s.popped s.osz
    returnNear n s =
      if s.mode = .prot ∧ s.seg.cs.limit.toNat < (truncTo s.osz (s.top s.osz)).toNat then .error (Exc.gp 0) u
      else .ok () { u.setSp (u.sp + n.setWidth 32) with eip := truncTo s.osz (s.top s.osz) } := by
  intro u
  have hbranch := nearBranch_of_same (State.popped_osz ..) (State.popped_mode ..) (State.popped_seg s s.osz) (s.top s.osz)
  unfold returnNear
  rw [query_id_bind_run, bind_of_ok (pop_of_can h)]
  split at hbranch
  · next hbeyond => rw [if_pos hbeyond, bind_of_error hbranch]
  · next hinside =>
    rw [if_neg hinside, bind_of_ok hbranch, dropParams, update_run, setSp_with_eip]
    rfl

/-- Settles O43: each transfer is its stack access and one test of the target. -/
theorem nearJumpCallReturnResult : Obligations.NearJumpCallReturnResult := by
  unfold Obligations.NearJumpCallReturnResult
  intro s w beyond
  refine ⟨fun i x hform hx => ?_, fun i x hform hx hpush => ?_, fun i n hi hpop => ?_⟩
  · rw [exec_of_nearJumpForm hform]
    exact instr_of_ite ((bind_of_ok (readSrc_of_ready hx)).trans (nearBranch_run _ s))
  · rw [exec_of_nearCallForm hform]
    exact instr_of_ite ((bind_of_ok (readSrc_of_ready hx)).trans (callNear_of_can hpush _))
  · rw [exec_of_nearReturn hi]
    exact instr_of_ite (returnNear_of_can hpop n)

end Sys2Proof.Machine
end

section
/-!
PROOFS. Far jumps, calls and returns outside protected mode (44_control_transfer.md R402 to R405).
-/
namespace Sys2Proof.Machine

open Sys2Proof.Claims

/-! ### The far transfers and returns (R402 to R406) -/

/-- JMP or CALL, as the table of the far forms tells them apart. -/
def transferKind (call : Bool) : Transfer := if call then .call else .jmp

theorem complete_congr {x y : Op Unit} {s : State} (h : x s = y s) : complete x s = complete y s := by
  simp only [complete, h]

/-- A transfer through a pointer in memory is the transfer to that pointer (R402). -/
theorem farIndirect_of_readable {s : State} {m : EA} (h : FarReadable s m) (k : Transfer) :
    farIndirect k m s = farTransfer k (farSelector s m) (farOffset s m) s :=
  bind_of_ok (readFarPointer_of_readable h)

/-- The four far forms are one transfer, to the pointer in the instruction or in memory. -/
theorem exec_of_farForm {s : State} {i : Instr} {call : Bool} {sel : Word} {off : DWord} (h : farForm s i = some (call, sel, off))
    (hready : FarReady s i) : exec i s = complete (farTransfer (transferKind call) sel off) s := by
  unfold farForm at h
  split at h
  case h_1 | h_2 => cases h; rfl
  case h_3 | h_4 => cases h; exact complete_congr (farIndirect_of_readable hready _)
  case h_5 => cases h

theorem exec_of_farReturn {i : Instr} {n : Word} (h : i = .retFarImm n ∨ (i = .retFar ∧ n = 0)) (s : State) :
    exec i s = complete (returnFar n) s := by
  rcases h with rfl | ⟨rfl, rfl⟩ <;> rfl

/-! ### CS:EIP loaded as an 8086 does (R403) -/

/-- The state at a selector and offset loaded as an 8086 does, with an operand size (R403). -/
def State.entered8086 (s : State) (w : Width) (sel : Word) (off : DWord) : State :=
  { s.load8086 .cs sel with eip := truncTo w off }

theorem enter8086_run (sel : Word) (off : DWord) (s : State) : enter8086 sel off s = .ok () (s.entered8086 s.osz sel off) :=
  query_id_bind_run _ s

theorem farTransfer_of_not_prot {s : State} (h : s.mode ≠ .prot) (k : Transfer) (sel : Word) (off : DWord) :
    farTransfer k sel off s = (match k with
      | .jmp => enter8086 sel off
      | .call => atomically (callFar8086 sel off)) s := by
  unfold farTransfer
  rw [query_bind_run]
  cases hmode : s.mode with
  | prot => exact absurd hmode h
  | real | v86 => cases k <;> rfl

theorem returnFar_of_not_prot {s : State} (h : s.mode ≠ .prot) (n : Word) : returnFar n s = atomically (returnFar8086 n) s := by
  unfold returnFar
  rw [query_bind_run]
  cases hmode : s.mode with
  | prot => exact absurd hmode h
  | real | v86 => rfl

/-! ### The pushes and pops (R404, R405) -/

/-- Pushes leave the operand size alone. -/
theorem pushedAll_osz (w : Width) (vs : List DWord) (s : State) : (pushedAll w vs s).osz = s.osz := by
  induction vs generalizing s with
  | nil => rfl
  | cons v rest ih => rw [pushedAll, ih, State.pushed_osz]

/-- Pops leave the operand size alone. -/
theorem poppedAll_osz (w : Width) (n : Nat) (s : State) : (poppedAll w n s).osz = s.osz := by
  induction n generalizing s with
  | zero => rfl
  | succ n ih => rw [poppedAll, ih, State.popped_osz]

theorem checkPops_of_canPopAll {w : Width} {n : Nat} {s : State} (h : CanPopAll w n s) : checkPops w.bytes n s = .ok () s := by
  rw [checkPops_run, if_pos (holdsItems_of_canPopAll h)]

/-- A CALL whose pushes are allowed pushes CS and the return offset and enters its target (R404). -/
theorem callFar8086_of_can {s : State} (h : CanPushAll s.osz [s.selD .cs, s.eip] s) (sel : Word) (off : DWord) :
    callFar8086 sel off s = .ok () ((pushedAll s.osz [s.selD .cs, s.eip] s).entered8086 s.osz sel off) := by
  unfold callFar8086
  rw [query_id_bind_run]
  refine (bind_of_ok (checkPushes_of_hasRoom (hasRoom_of_canPushAll h))).trans ?_
  rw [bind_of_ok (pushAllOf_of_can h), enter8086_run, pushedAll_osz]

/-- A CALL without room for its pushes does nothing (R404). -/
theorem callFar8086_of_no_room {s : State} (h : s.hasRoom s.osz.bytes 2 = false) (sel : Word) (off : DWord) :
    callFar8086 sel off s = .error (Exc.ss 0) s := by
  have hcheck : checkPushes s.osz.bytes 2 s = .error (Exc.ss 0) s := by rw [checkPushes_run, h, if_neg Bool.false_ne_true]
  unfold callFar8086
  rw [query_id_bind_run, bind_of_error hcheck]

/-- A RET whose pops are allowed enters the address it popped and drops its parameters (R405). -/
theorem returnFar8086_of_can {s : State} (h : CanPopAll s.osz 2 s) (n : Word) :
    let u := (poppedAll s.osz 2 s).entered8086 s.osz ((stackValue s.osz s 1).setWidth 16) (stackValue s.osz s 0)
    returnFar8086 n s = .ok () (u.setSp (u.sp + n.setWidth 32)) := by
  intro u
  have henter : enter8086 ((stackValue s.osz s 1).setWidth 16) (stackValue s.osz s 0) (poppedAll s.osz 2 s) = .ok () u := by
    rw [enter8086_run, poppedAll_osz]
  obtain ⟨hoff, hsel, _⟩ := id h
  unfold returnFar8086
  rw [query_id_bind_run, bind_of_ok (checkPops_of_canPopAll h), bind_of_ok (pop_of_can hoff), bind_of_ok (pop_of_can hsel)]
  exact (bind_of_ok henter).trans (update_run _ u)

/-- A RET whose items are not all on the stack does nothing (R405). -/
theorem returnFar8086_of_short {s : State} (h : s.holdsItems s.osz.bytes 2 = false) (n : Word) :
    returnFar8086 n s = .error (Exc.ss 0) s := by
  have hcheck : checkPops s.osz.bytes 2 s = .error (Exc.ss 0) s := by rw [checkPops_run, h, if_neg Bool.false_ne_true]
  unfold returnFar8086
  rw [query_id_bind_run, bind_of_error hcheck]

/-! ### The instructions -/

section
variable {s : State} (hmode : s.mode ≠ .prot) {i : Instr} {sel : Word} {off : DWord} {n : Word}
include hmode

theorem exec_farJump8086 (h : farForm s i = some (false, sel, off)) (hready : FarReady s i) :
    exec i s = .next (s.entered8086 s.osz sel off) :=
  (exec_of_farForm h hready).trans (complete_of_ok ((farTransfer_of_not_prot hmode .jmp sel off).trans (enter8086_run sel off s)))

theorem exec_farCall8086 (h : farForm s i = some (true, sel, off)) (hready : FarReady s i)
    (hpush : CanPushAll s.osz [s.selD .cs, s.eip] s) :
    exec i s = .next ((pushedAll s.osz [s.selD .cs, s.eip] s).entered8086 s.osz sel off) :=
  (exec_of_farForm h hready).trans
    (complete_of_ok ((farTransfer_of_not_prot hmode .call sel off).trans (atomically_of_ok (callFar8086_of_can hpush sel off))))

theorem exec_farCall8086_of_no_room (h : farForm s i = some (true, sel, off)) (hready : FarReady s i)
    (hroom : s.hasRoom s.osz.bytes 2 = false) : exec i s = .next (s.raise (Exc.ss 0)) :=
  (exec_of_farForm h hready).trans (complete_of_error
    ((farTransfer_of_not_prot hmode .call sel off).trans (atomically_of_error (callFar8086_of_no_room hroom sel off))))

theorem exec_farReturn8086_of_short (h : s.holdsItems s.osz.bytes 2 = false) (hi : i = .retFarImm n ∨ (i = .retFar ∧ n = 0)) :
    exec i s = .next (s.raise (Exc.ss 0)) :=
  (exec_of_farReturn hi s).trans
    (complete_of_error ((returnFar_of_not_prot hmode n).trans (atomically_of_error (returnFar8086_of_short h n))))

end

/-- Settles O44: outside protected mode a transfer is its pushes or pops, checked together, and one load of CS:EIP. -/
theorem farTransfer8086Result : Obligations.FarTransfer8086Result := by
  unfold Obligations.FarTransfer8086Result
  intro s hmode w go frame
  refine ⟨fun off sel => ?_, fun m hm => ?_, fun hpush => ⟨fun off sel => ?_, fun m hm => ?_⟩, fun i n hi hpop => ?_,
    fun hroom => ⟨fun off sel => ?_, fun m hm => ?_⟩, fun hshort i n hi => ?_⟩
  · exact exec_farJump8086 hmode rfl trivial
  · exact exec_farJump8086 hmode rfl hm
  · exact exec_farCall8086 hmode rfl trivial hpush
  · exact exec_farCall8086 hmode rfl hm hpush
  · exact (exec_of_farReturn hi s).trans
      (complete_of_ok ((returnFar_of_not_prot hmode n).trans (atomically_of_ok (returnFar8086_of_can hpop n))))
  · exact exec_farCall8086_of_no_room hmode rfl trivial hroom
  · exact exec_farCall8086_of_no_room hmode rfl hm hroom
  · rcases hi with hi | hi
    · exact exec_farReturn8086_of_short hmode hshort (.inl hi)
    · exact exec_farReturn8086_of_short hmode hshort (.inr ⟨hi, rfl⟩)

end Sys2Proof.Machine
end

section
/-!
PROOFS. Far jumps and calls in protected mode to a code segment and through a call gate (44_control_transfer.md R406 to R412).
-/
namespace Sys2Proof.Machine

open Sys2Proof.Claims

/-- A test of a proposition: the exception where it holds, and else the rest. -/
theorem raiseIf_iff_bind_run {α : Type} {c : Bool} {p : Prop} [Decidable p] (h : c = true ↔ p) (e : Exc)
    (f : Unit → Op α) (s : State) :
    (raiseIf c e >>= f) s = if p then .error e s else f () s := by
  rw [raiseIf_bind_run]
  simp only [h]

/-! ### The end of a transfer: CS:EIP loaded (R407, R410) -/

/-- What a transfer pushes: the return address of a CALL, and nothing for JMP (R407). -/
def transferFrame (s : State) (call : Bool) : List DWord := if call then [s.selD .cs, s.eip] else []

theorem installCode_of_accessed {f : Found} {s u : State} (h : setAccessed f s = .ok () u) (sel : Word) (rpl : BitVec 2)
    (off : DWord) :
    installCode f sel rpl off s = .ok () (u.withCode f sel rpl off) :=
  bind_of_ok h

/-- A transfer tests the room of a CALL and the limit; then it pushes its frame and loads CS:EIP (R407). -/
theorem transferTo_run (call : Bool) (w : Width) (c : Found) (cs : Word) (t : DWord) (s : State) :
    transferTo (transferKind call) w c cs t s =
      if call = true ∧ s.hasRoom w.bytes 2 = false then .error (Exc.ss 0) s
      else if c.desc.limit.toNat < t.toNat then .error (Exc.gp 0) s
      else atomically (pushAllOf w (transferFrame s call) >>= fun _ => installCode c cs s.cpl t) s := by
  have hroom : (transferKind call == .call && !s.hasRoom w.bytes 2) = true ↔ call = true ∧ s.hasRoom w.bytes 2 = false := by
    cases call <;> simp [transferKind]
  unfold transferTo
  rw [query_id_bind_run, raiseIf_iff_bind_run hroom, raiseIf_iff_bind_run decide_eq_true_iff]
  cases call <;> rfl

/-- What comes of a transfer to a code segment that has passed the checks on its descriptor: #SS(0) without the room of a CALL,
#GP(0) beyond the limit, and else the frame pushed and CS:EIP loaded (R407, R410). -/
structure EntersCode (s : State) (call : Bool) (w : Width) (c : Found) (cs : Word) (t : DWord)
    (go : Host.Outcome State Fault Refusal) : Prop where
  noRoom : call = true → s.hasRoom w.bytes 2 = false → go = .next (s.raise (Exc.ss 0))
  beyond : (call = true → s.hasRoom w.bytes 2 = true) → c.desc.limit.toNat < t.toNat → go = .next (s.raise (Exc.gp 0))
  inside : t.toNat ≤ c.desc.limit.toNat → CanPushAll w (transferFrame s call) s →
    ∀ u, setAccessed c (pushedAll w (transferFrame s call) s) = .ok () u → go = .next (u.withCode c cs s.cpl t)

theorem entersCode_of_run {x : Op Unit} {s : State} {call : Bool} {w : Width} {c : Found} {cs : Word} {t : DWord}
    (hx : x s = transferTo (transferKind call) w c cs t s) : EntersCode s call w c cs t (complete x s) := by
  have hrun := hx.trans (transferTo_run call w c cs t s)
  refine ⟨fun hcall hroom => ?_, fun hroom hlimit => ?_, fun hlimit hpush u hu => ?_⟩
  · exact complete_of_error (hrun.trans (if_pos ⟨hcall, hroom⟩))
  · have hfits : ¬(call = true ∧ s.hasRoom w.bytes 2 = false) := fun h => by simp [hroom h.1] at h
    rw [if_neg hfits, if_pos hlimit] at hrun
    exact complete_of_error hrun
  · have hfits : ¬(call = true ∧ s.hasRoom w.bytes 2 = false) := by
      rintro ⟨rfl, hnone⟩
      have hroom : s.hasRoom w.bytes 2 = true := hasRoom_of_canPushAll hpush
      simp [hroom] at hnone
    have hinstall : (pushAllOf w (transferFrame s call) >>= fun _ => installCode c cs s.cpl t) s = .ok () (u.withCode c cs s.cpl t) :=
      (bind_of_ok (pushAllOf_of_can hpush)).trans (installCode_of_accessed hu cs s.cpl t)
    rw [if_neg hfits, if_neg (Nat.not_lt.mpr hlimit), atomically_of_ok hinstall] at hrun
    exact complete_of_ok hrun

/-! ### The dispatch on the descriptor (R406) -/

theorem farTransfer_of_prot {s : State} (h : s.mode = .prot) (k : Transfer) (sel : Word) (off : DWord) :
    farTransfer k sel off s = farProt k sel off s := by
  unfold farTransfer
  rw [query_bind_run, h]

section
variable {s : State} {sel : Word} {a : DWord} {d : Desc} (k : Transfer) (off : DWord)

theorem farProt_of_null (h : selNull sel = true) : farProt k sel off s = .error (Exc.gp 0) s := by
  unfold farProt
  rw [h, raiseIf_true_bind_run]

theorem farProt_of_outside (h : selNull sel = false) (hout : s.descAddr sel = none) :
    farProt k sel off s = .error (Exc.gp (selCode sel)) s := by
  unfold farProt
  rw [h, raiseIf_false_bind_run, bind_of_error (lookup_of_outside hout _)]

theorem farProt_of_code (h : selNull sel = false) (ha : s.descAddr sel = some a) (hd : peekDesc s a = some d)
    (hcode : d.isCode = true) : farProt k sel off s = farToCode k ⟨a, d⟩ sel off s := by
  unfold farProt
  rw [h, raiseIf_false_bind_run, bind_of_ok (lookup_of_found ha hd _), if_pos hcode]

/-- A system descriptor is no code segment. -/
theorem Desc.isCode_of_isSystem {d : Desc} {t : BitVec 4} (h : d.isSystem t = true) : d.isCode = false := by
  rw [d.isCode_eq, ((d.isSystem_iff t).mp h).1, Bool.false_and]

theorem farProt_of_gate (h : selNull sel = false) (ha : s.descAddr sel = some a) (hd : peekDesc s a = some d)
    (hgate : d.isSystem 4 = true ∨ d.isSystem 12 = true) : farProt k sel off s = farThroughGate k d sel s := by
  have hcode : ¬d.isCode = true := Bool.eq_false_iff.mp (hgate.elim Desc.isCode_of_isSystem Desc.isCode_of_isSystem)
  unfold farProt
  rw [h, raiseIf_false_bind_run, bind_of_ok (lookup_of_found ha hd _), if_neg hcode, if_pos (Bool.or_eq_true_iff.mpr hgate)]

end

/-! ### To a code segment (R407) -/

/-- A code segment may be reached directly: a conforming one from its DPL outwards, another from its own level with no greater
RPL (R407). -/
abbrev CodeReachable (s : State) (sel : Word) (d : Desc) : Prop :=
  if d.isConforming then d.dpl ≤ s.cpl else d.dpl = s.cpl ∧ selRpl sel ≤ s.cpl

theorem farToCode_run (k : Transfer) (d : Found) (sel : Word) (off : DWord) (s : State) :
    farToCode k d sel off s =
      if ¬CodeReachable s sel d.desc then .error (Exc.gp (selCode sel)) s
      else if d.desc.p = false then .error (Exc.np (selCode sel)) s
      else transferTo k s.osz d sel (truncTo s.osz off) s := by
  unfold farToCode
  rw [query_id_bind_run]
  by_cases hconf : d.desc.isConforming = true
  · have htest : decide (s.cpl < d.desc.dpl) = true ↔ ¬CodeReachable s sel d.desc := by
      rw [CodeReachable, if_pos hconf, decide_eq_true_iff, BitVec.not_le]
    rw [if_pos hconf, raiseIf_iff_bind_run htest]
    dsimp only
    rw [raiseIf_iff_bind_run (Bool.not_eq_true' _).to_iff]
  · have htest : (decide (s.cpl < selRpl sel) || d.desc.dpl != s.cpl) = true ↔ ¬CodeReachable s sel d.desc := by
      rw [CodeReachable, if_neg hconf, Bool.or_eq_true, decide_eq_true_iff, bne_iff_ne,
        Decidable.not_and_iff_not_or_not, BitVec.not_le, or_comm]
    rw [if_neg hconf, raiseIf_twice_bind_run, raiseIf_iff_bind_run htest]
    dsimp only
    rw [raiseIf_iff_bind_run (Bool.not_eq_true' _).to_iff]

/-! ### Through a call gate (R408 to R410) -/

/-- A gate is open to the current level and the selector's RPL (R408). -/
abbrev GateOpen (s : State) (sel : Word) (g : Desc) : Prop := s.cpl ≤ g.dpl ∧ selRpl sel ≤ g.dpl

/-- What a gate leads to may be entered: code of DPL at most CPL, by a JMP only at the same level or conforming (R409, R410). -/
abbrev GateCodeOk (s : State) (call : Bool) (c : Desc) : Prop :=
  c.isCode = true ∧ c.dpl ≤ s.cpl ∧ (call = true ∨ c.isConforming = true ∨ c.dpl = s.cpl)

/-- Code that a gate leads to and that runs at the current level (R410). -/
abbrev SameLevel (s : State) (c : Desc) : Prop := c.isConforming = true ∨ c.dpl = s.cpl

/-- The tests of a JMP or a CALL on the code that a gate leads to, all of which raise the same exception, are one test
(R409, R410). -/
theorem gateTarget_tests (s : State) (call : Bool) (c : Desc) (e : Exc) (f : Unit → Op Unit) :
    (raiseIf (!c.isCode) e >>= fun _ => match transferKind call with
      | .jmp => raiseIf (!c.isConforming && c.dpl != s.cpl) e >>= fun _ =>
          raiseIf (c.isConforming && decide (s.cpl < c.dpl)) e >>= f
      | .call => raiseIf (decide (s.cpl < c.dpl)) e >>= f) s =
      if ¬GateCodeOk s call c then .error e s else f () s := by
  cases call with
  | true =>
    have htest : (!c.isCode || decide (s.cpl < c.dpl)) = true ↔ ¬GateCodeOk s true c := by
      rw [Bool.or_eq_true, Bool.not_eq_true', decide_eq_true_iff, ← BitVec.not_le, ← Bool.not_eq_true,
        ← Decidable.not_and_iff_not_or_not]
      exact not_congr (and_congr_right fun _ => ⟨fun h => ⟨h, .inl rfl⟩, fun h => h.1⟩)
    exact (raiseIf_twice_bind_run ..).trans (raiseIf_iff_bind_run htest e f s)
  | false =>
    have htest : ((!c.isCode || (!c.isConforming && c.dpl != s.cpl)) || (c.isConforming && decide (s.cpl < c.dpl))) = true ↔
        ¬GateCodeOk s false c := by
      rw [GateCodeOk]
      cases c.isCode with
      | false => exact iff_of_true (Bool.true_or _) fun h => Bool.false_ne_true h.1
      | true =>
        cases c.isConforming with
        | false =>
          have hsame : c.dpl = s.cpl ↔ true = true ∧ c.dpl ≤ s.cpl ∧ (false = true ∨ false = true ∨ c.dpl = s.cpl) :=
            ⟨fun h => ⟨rfl, h ▸ BitVec.le_refl _, .inr (.inr h)⟩,
              fun ⟨_, _, h⟩ => by simpa only [Bool.false_eq_true, false_or] using h⟩
          rw [← hsame]
          simp only [Bool.not_true, Bool.not_false, Bool.true_and, Bool.false_and, Bool.false_or, Bool.or_false, bne_iff_ne, ne_eq]
        | true =>
          have hlevel : c.dpl ≤ s.cpl ↔ true = true ∧ c.dpl ≤ s.cpl ∧ (false = true ∨ true = true ∨ c.dpl = s.cpl) :=
            ⟨fun h => ⟨rfl, h, .inr (.inl rfl)⟩, fun ⟨_, h, _⟩ => h⟩
          rw [← hlevel, BitVec.not_le]
          simp only [Bool.not_true, Bool.true_and, Bool.false_and, Bool.false_or, decide_eq_true_eq]
    exact (raiseIf_twice_bind_run ..).trans ((raiseIf_twice_bind_run ..).trans (raiseIf_iff_bind_run htest e f s))

/-- The code that a gate leads to, once its descriptor is read: the tests, then the present bit, then the same level or an inner one
(R409, R410). -/
def gateTarget (call : Bool) (g : Desc) (c : Found) : Op Unit := fun s =>
  if ¬GateCodeOk s call c.desc then .error (Exc.gp (selCode g.gateSelector)) s
  else if c.desc.p = false then .error (Exc.np (selCode g.gateSelector)) s
  else if SameLevel s c.desc then transferTo (transferKind call) g.gateWidth c g.gateSelector g.gateOffset s
  else callInner g c g.gateSelector s

/-- Code that may be entered and does not run at the current level is entered by a CALL to an inner level (R410). -/
theorem inner_iff_not_sameLevel {s : State} {call : Bool} {c : Desc} (h : GateCodeOk s call c) :
    (transferKind call == .call && !c.isConforming && decide (c.dpl < s.cpl)) = true ↔ ¬SameLevel s c := by
  obtain ⟨_, hdpl, hkind⟩ := h
  have hlt : c.dpl < s.cpl ↔ ¬c.dpl = s.cpl := by
    rw [BitVec.lt_def, ← BitVec.toNat_inj]
    rw [BitVec.le_def] at hdpl
    omega
  cases call with
  | true => simp [transferKind, SameLevel, hlt]
  | false =>
    have hsame : SameLevel s c := hkind.resolve_left Bool.false_ne_true
    simp [transferKind, hsame]

/-- A transfer through a call gate tests the gate, then looks up the code it leads to (R408). -/
theorem farThroughGate_run (call : Bool) (g : Desc) (sel : Word) (s : State) :
    farThroughGate (transferKind call) g sel s =
      if ¬GateOpen s sel g then .error (Exc.gp (selCode sel)) s
      else if g.p = false then .error (Exc.np (selCode sel)) s
      else if selNull g.gateSelector = true then .error (Exc.gp 0) s
      else (lookup g.gateSelector (Exc.gp (selCode g.gateSelector)) >>= gateTarget call g) s := by
  have hopen : (decide (g.dpl < s.cpl) || decide (g.dpl < selRpl sel)) = true ↔ ¬GateOpen s sel g := by
    rw [Bool.or_eq_true, decide_eq_true_iff, decide_eq_true_iff, Decidable.not_and_iff_not_or_not, BitVec.not_le, BitVec.not_le]
  unfold farThroughGate
  rw [query_id_bind_run, raiseIf_twice_bind_run, raiseIf_iff_bind_run hopen, raiseIf_iff_bind_run (Bool.not_eq_true' _).to_iff,
    raiseIf_iff_bind_run Iff.rfl]
  congr 3
  rcases (silent_lookup g.gateSelector (Exc.gp (selCode g.gateSelector))).cases s with ⟨c, hc⟩ | ⟨e, he⟩
  · rw [bind_of_ok hc, bind_of_ok hc]
    refine (gateTarget_tests s call c.desc _ _).trans ?_
    unfold gateTarget
    split
    · rfl
    · next hok =>
      dsimp only
      rw [raiseIf_iff_bind_run (Bool.not_eq_true' _).to_iff]
      have hinner := inner_iff_not_sameLevel (Decidable.not_not.mp hok)
      by_cases hsame : SameLevel s c.desc
      · rw [if_neg (mt hinner.mp (not_not_intro hsame)), if_pos hsame]
      · rw [if_pos (hinner.mpr hsame), if_neg hsame]
  · rw [bind_of_error he, bind_of_error he]

end Sys2Proof.Machine
end

section
/-!
PROOFS. The stack of an inner level and a CALL through a gate to it (44_control_transfer.md R411, R412).
-/
namespace Sys2Proof.Machine

open Sys2Proof.Claims

/-! ### The stack that the TSS gives (R411, R412) -/

/-- The stack of a level is read from its fields in the TSS, if they lie inside it: the pointer, and the selector after it (R412). -/
theorem innerStack_run (level : BitVec 2) (s : State) :
    innerStack level s =
      let o := innerStackField s level
      (do
        raiseIf (decide (s.tr.limit.toNat < o.1 + o.2 + 1)) (Exc.ts (selCode s.tr.sel))
        let sp ← linRead (s.tr.base + BitVec.ofNat 32 o.1) o.2
        let ss ← linRead (s.tr.base + BitVec.ofNat 32 (o.1 + o.2)) 2
        pure (ss.setWidth 16, sp) : Op (Word × DWord)) s := by
  unfold innerStack innerStackField
  rw [query_id_bind_run]
  cases s.tr.is386 <;> rfl

/-- A level whose stack fields lie outside the TSS has no stack (R412). -/
theorem innerStack_of_outside {s : State} {level : BitVec 2} (h : ¬InnerStackInTss s level) :
    innerStack level s = .error (Exc.ts (selCode s.tr.sel)) s := by
  have houtside := decide_eq_true (Nat.not_le.mp h)
  rw [innerStack_run]
  dsimp only at houtside ⊢
  rw [houtside, raiseIf_true_bind_run]

/-- A level whose stack fields can be read has the stack they give (R412). -/
theorem innerStack_of_pointer {s : State} {level : BitVec 2} {ss : Word} {sp : DWord} (h : InnerPointer s level ss sp) :
    innerStack level s = .ok (ss, sp) s := by
  obtain ⟨hlimit, hsp, hss⟩ := h
  have hcut : (ss.setWidth 32).setWidth 16 = ss := by simp
  have hinside := decide_eq_false (Nat.not_lt.mpr hlimit)
  rw [innerStack_run]
  dsimp only
  rw [hinside, raiseIf_false_bind_run, bind_of_ok (linRead_of_peek hsp), bind_of_ok (linRead_of_peek hss), hcut, pure_run]

/-- The stack segment of an inner level passes its checks (R411). -/
theorem checkInnerStack_of_innerStack {s : State} {level : BitVec 2} {ss : Word} {sp : DWord} {f : Found}
    (h : InnerStack s level ss sp f) (e : Exc) : checkInnerStack ss level e s = .ok f s := by
  obtain ⟨_, hnull, ha, hd, hrpl, hdpl, hdata, hp⟩ := h
  unfold checkInnerStack
  rw [hnull, raiseIf_false_bind_run, bind_of_ok (lookup_of_found ha hd _)]
  simp [-bind_pure_comp, hrpl, hdpl, hdata, hp]

/-! ### The parameters (R411) -/

/-- Parameters that are copied are read and pushed one after another. -/
theorem copyParams_of_copied {old : State} {w : Width} {n : Nat} {p q : State} (h : ParamsCopied old w n p q) :
    copyParams old w n p = .ok () q := by
  induction n generalizing p with
  | zero => exact h ▸ rfl
  | succ n ih =>
    obtain ⟨hinside, v, hv, hpush, hrest⟩ := h
    have hread : readParam old w n p = .ok v p := by
      rw [readParam_of_inside hinside]
      exact linRead_of_peek hv
    rw [copyParams_of_read hread hpush, ih hrest]

/-! ### The CALL (R411) -/

/-- What a CALL to an inner level does on the new stack: the old stack pointer, the parameters and the return address are pushed,
and CS:EIP is loaded (R411). -/
def callOnInnerStack (s : State) (g : Desc) (c : Found) (cs : Word) (f : Found) (ss : Word) (sp : DWord) : Op Unit := do
  update fun x => x.withStack f ss sp c.desc.dpl
  pushAllOf g.gateWidth [s.selD .ss, s.gpr.esp]
  copyParams s g.gateWidth g.gateCount
  pushAllOf g.gateWidth [s.selD .cs, s.eip]
  installCode c cs c.desc.dpl g.gateOffset

theorem callInner_of_outside {s : State} {c : Found} (h : ¬InnerStackInTss s c.desc.dpl) (g : Desc) (cs : Word) :
    callInner g c cs s = .error (Exc.ts (selCode s.tr.sel)) s := by
  unfold callInner
  rw [query_id_bind_run, bind_of_error (innerStack_of_outside h)]

section
variable {s x : State} {g : Desc} {c : Found} {ss : Word} {sp : DWord} {f : Found} (hstack : InnerStack s c.desc.dpl ss sp f)
  (hroom : stackRoom .prot (f.desc.toSeg ss) g.gateWidth.bytes (g.gateCount + 4) (spFor (f.desc.toSeg ss) sp) = true)
  (hlimit : g.gateOffset.toNat ≤ c.desc.limit.toNat) (hx : setAccessed f s = .ok () x) (cs : Word)
include hstack hroom hlimit hx

/-- With a stack that has the room, and the offset inside the limit, the CALL goes on on the new stack (R411). -/
theorem callInner_of_innerStack : callInner g c cs s = atomically (callOnInnerStack s g c cs f ss sp) x := by
  unfold callInner
  have hpointer : InnerPointer s c.desc.dpl ss sp := hstack.1
  rw [query_id_bind_run, bind_of_ok (innerStack_of_pointer hpointer)]
  refine (bind_of_ok (checkInnerStack_of_innerStack hstack _)).trans ?_
  have hinside : decide (c.desc.limit.toNat < g.gateOffset.toNat) = false := decide_eq_false (Nat.not_lt.mpr hlimit)
  rw [hroom, Bool.not_true, raiseIf_false_bind_run, hinside, raiseIf_false_bind_run, bind_of_ok hx]
  rfl

variable (hold : CanPushAll g.gateWidth [s.selD .ss, s.gpr.esp] (x.withStack f ss sp c.desc.dpl))
include hold

/-- A CALL whose parameters are copied and whose return address is pushed loads CS:EIP (R411). -/
theorem callInner_of_copied {y u : State}
    (hparams : ParamsCopied s g.gateWidth g.gateCount
      (pushedAll g.gateWidth [s.selD .ss, s.gpr.esp] (x.withStack f ss sp c.desc.dpl)) y)
    (hframe : CanPushAll g.gateWidth [s.selD .cs, s.eip] y)
    (hu : setAccessed c (pushedAll g.gateWidth [s.selD .cs, s.eip] y) = .ok () u) :
    callInner g c cs s = .ok () (u.withCode c cs c.desc.dpl g.gateOffset) := by
  rw [callInner_of_innerStack hstack hroom hlimit hx]
  apply atomically_of_ok
  unfold callOnInnerStack
  rw [update_bind_run, bind_of_ok (pushAllOf_of_can hold), bind_of_ok (copyParams_of_copied hparams),
    bind_of_ok (pushAllOf_of_can hframe), installCode_of_accessed hu]

/-- A CALL whose last parameter lies outside the old stack undoes its pushes (R411). -/
theorem callInner_of_unreadable {k : Nat} {e : Exc} (hcount : g.gateCount = k + 1)
    (hfault : segFault s.mode .ss s.seg.ss (paramOffset s g.gateWidth k) g.gateWidth.bytes .read = some e) :
    callInner g c cs s = .error e x := by
  have hread (p : State) : readParam s g.gateWidth k p = .error e p := by rw [readParam_of_outside hfault, raiseExc_run]
  rw [callInner_of_innerStack hstack hroom hlimit hx]
  apply atomically_of_error
  unfold callOnInnerStack
  rw [update_bind_run, bind_of_ok (pushAllOf_of_can hold), hcount, bind_of_error (copyParams_of_error (hread _))]

end

/-- What comes of a CALL to an inner level: an exception without stack fields in the TSS, and with a stack that has the room, once the
old stack pointer is pushed, the transfer with the parameters copied, or the exception of the last one (R411). -/
structure EntersInner (s : State) (g : Desc) (c : Found) (cs : Word) (go : Host.Outcome State Fault Refusal) : Prop where
  outsideTss : ¬InnerStackInTss s c.desc.dpl → go = .next (s.raise (Exc.ts (selCode s.tr.sel)))
  onStack : ∀ (ss : Word) (sp : DWord) (f : Found) (x : State), InnerStack s c.desc.dpl ss sp f →
    stackRoom .prot (f.desc.toSeg ss) g.gateWidth.bytes (g.gateCount + 4) (spFor (f.desc.toSeg ss) sp) = true →
    g.gateOffset.toNat ≤ c.desc.limit.toNat → setAccessed f s = .ok () x →
    let old := [s.selD .ss, s.gpr.esp]
    let inner := x.withStack f ss sp c.desc.dpl
    CanPushAll g.gateWidth old inner →
    (∀ y u, ParamsCopied s g.gateWidth g.gateCount (pushedAll g.gateWidth old inner) y →
      CanPushAll g.gateWidth [s.selD .cs, s.eip] y → setAccessed c (pushedAll g.gateWidth [s.selD .cs, s.eip] y) = .ok () u →
      go = .next (u.withCode c cs c.desc.dpl g.gateOffset)) ∧
    (∀ k e, g.gateCount = k + 1 → segFault s.mode .ss s.seg.ss (paramOffset s g.gateWidth k) g.gateWidth.bytes .read = some e →
      go = .next (x.raise e))

theorem entersInner_of_run {y : Op Unit} {s : State} {g : Desc} {c : Found} {cs : Word} (hy : y s = callInner g c cs s) :
    EntersInner s g c cs (complete y s) := by
  refine ⟨fun hout => complete_of_error (hy.trans (callInner_of_outside hout g cs)), fun ss sp f x hstack hroom hlimit hx => ?_⟩
  intro old inner hold
  refine ⟨fun p u hparams hframe hu => ?_, fun k e hcount hfault => ?_⟩
  · exact complete_of_ok (hy.trans (callInner_of_copied hstack hroom hlimit hx cs hold hparams hframe hu))
  · exact complete_of_error (hy.trans (callInner_of_unreadable hstack hroom hlimit hx cs hold hcount hfault))

end Sys2Proof.Machine
end

section
/-!
PROOFS. Far returns in protected mode (44_control_transfer.md R415 to R418).
-/
namespace Sys2Proof.Machine

open Sys2Proof.Claims

/-! ### The frame (R415) -/

theorem checkStackRead_of_inside {s : State} {n : Nat} (h : segFault s.mode .ss s.seg.ss s.sp n .read = none) :
    checkStackRead n s = .ok () s := by
  unfold checkStackRead
  rw [query_id_bind_run, checkSeg]
  exact h ▸ rfl

theorem checkStackRead_of_refused {s : State} {n : Nat} {e : Exc} (h : segFault s.mode .ss s.seg.ss s.sp n .read = some e) :
    checkStackRead n s = .error e s := by
  unfold checkStackRead
  rw [query_id_bind_run, checkSeg]
  exact h ▸ rfl

/-! ### The segments returned to (R416, R417) -/

theorem checkReturnCode_of_returnCode {s : State} {sel : Word} {level : BitVec 2} {a : DWord} {d : Desc}
    (h : ReturnCode s sel level a d) : checkReturnCode sel level s = .ok ⟨a, d⟩ s := by
  obtain ⟨hnull, ha, hd, hcode, hlevel, hp⟩ := h
  unfold checkReturnCode
  rw [hnull, raiseIf_false_bind_run, bind_of_ok (lookup_of_found ha hd _)]
  by_cases hconf : d.isConforming = true
  · rw [if_pos hconf] at hlevel
    simp [-bind_pure_comp, hcode, hconf, hp, BitVec.not_lt.mpr hlevel]
  · rw [if_neg hconf] at hlevel
    simp [-bind_pure_comp, hcode, hconf, hp, hlevel]

theorem checkReturnStack_of_returnStack {s : State} {sel : Word} {level : BitVec 2} {a : DWord} {d : Desc}
    (h : ReturnStack s sel level a d) : checkReturnStack sel level s = .ok ⟨a, d⟩ s := by
  obtain ⟨hnull, ha, hd, hrpl, hdata, hdpl, hp⟩ := h
  unfold checkReturnStack
  rw [hnull, raiseIf_false_bind_run, bind_of_ok (lookup_of_found ha hd _)]
  simp [-bind_pure_comp, hrpl, hdata, hdpl, hp]

/-! ### The state after a return -/

/-- A selector with its own RPL put into it is that selector. -/
theorem selWithRpl_selRpl (sel : Word) : selWithRpl sel (selRpl sel) = sel := by
  have mask : ∀ i < 16, (0xFFFC#16).getLsbD i = decide (2 ≤ i) := by decide
  apply BitVec.eq_of_getLsbD_eq
  intro i hi
  rw [selWithRpl, selRpl, BitVec.getLsbD_or, BitVec.getLsbD_and, mask i hi, BitVec.getLsbD_setWidth, BitVec.getLsbD_extractLsb']
  by_cases h2 : i < 2
  · have : ¬2 ≤ i := by omega
    simp [h2, hi, this]
  · have : 2 ≤ i := by omega
    simp [h2, this]

/-- Setting an accessed bit does not move the stack pointer. -/
theorem setAccessed_sp {f : Found} {s u : State} (h : setAccessed f s = .ok () u) : u.sp = s.sp := by
  obtain ⟨hu, _⟩ := setAccessed_ok h
  rw [hu]
  rfl

/-- A data-segment register is dropped for a level as the statements say (R418). -/
theorem dropFor_eq_keptAt (g : SegReg) (level : BitVec 2) : g.dropFor level = keptAt level g := by
  have htest : (g.valid && !(g.isCode && g.type.getLsbD 2) && decide (g.dpl < level)) = true ↔
      g.valid = true ∧ (g.isCode = false ∨ g.type.getLsbD 2 = false) ∧ g.dpl < level := by
    simp only [Bool.and_eq_true, Bool.not_eq_true', Bool.and_eq_false_iff, decide_eq_true_eq, and_assoc]
  unfold SegReg.dropFor keptAt
  simp only [htest]

/-- The code segment, the stack and the dropped registers of a return to an outer level (R417, R418). -/
theorem dropSegments_withStack_withCode (s : State) (c f : Found) (rs nss : Word) (off nsp : DWord) :
    State.dropSegments ((s.withCode c rs (selRpl rs) off).withStack f nss nsp (selRpl rs)) =
      returnedOut s (selRpl rs) (c.desc.toSeg rs) off (f.desc.toSeg nss) nsp := by
  have hdrop (g : SegReg) : keptAt (selRpl rs) g = g.dropFor (selRpl rs) := (dropFor_eq_keptAt g _).symm
  simp only [returnedOut, hdrop]
  unfold State.withCode State.withStack State.setSp State.setRegW State.ssz
  rw [selWithRpl_selRpl]
  cases hdb : (f.desc.toSeg nss).db <;> simp [State.dropSegments, State.setSreg, SegRegs.set, hdb, State.setReg, State.reg]

/-! ### The returns (R415 to R417) -/

theorem returnFar_of_prot {s : State} (h : s.mode = .prot) (n : Word) : returnFar n s = returnProt n s := by
  unfold returnFar
  rw [query_bind_run, h]

/-- The selector of the frame, above the offset (R415). -/
def returnSelector (s : State) : Word := (s.loaded .ss (s.stackOff s.osz.bytes) 2).setWidth 16

/-- A frame that lies outside the stack is refused (R415). -/
theorem returnProt_of_refused {s : State} {e : Exc} (h : segFault s.mode .ss s.seg.ss s.sp (s.osz.bytes + 2) .read = some e)
    (n : Word) : returnProt n s = .error e s := by
  unfold returnProt
  rw [query_id_bind_run, bind_of_error (checkStackRead_of_refused h)]

section
variable {s : State} (hframe : segFault s.mode .ss s.seg.ss s.sp (s.osz.bytes + 2) .read = none)
  (hsel : Allowed s .read .ss (s.stackOff s.osz.bytes) 2) (n : Word)
include hframe hsel

/-- The RPL of the selector that is returned to decides: no inner level, the same one, or an outer one (R415). -/
theorem returnProt_of_frame :
    returnProt n s =
      if selRpl (returnSelector s) < s.cpl then .error (Exc.gp (selCode (returnSelector s))) s
      else if selRpl (returnSelector s) = s.cpl then returnSame s.osz (returnSelector s) n s
      else returnOuter s.osz (returnSelector s) n s := by
  unfold returnProt
  rw [query_id_bind_run, bind_of_ok (checkStackRead_of_inside hframe), bind_of_ok (stackRead_of_allowed hsel)]
  refine (raiseIf_iff_bind_run decide_eq_true_iff ..).trans (congrArg (ite _ _) ?_)
  by_cases hlevel : selRpl (returnSelector s) = s.cpl
  · rw [if_pos hlevel]
    exact congrFun (if_pos hlevel) s
  · rw [if_neg hlevel]
    exact congrFun (if_neg hlevel) s

end

/-- A return to the same level loads CS:EIP and drops the frame and the parameters (R416). -/
theorem returnSame_of_returnCode {s u : State} {w : Width} {rs n : Word} {a : DWord} {d : Desc} (hcode : ReturnCode s rs s.cpl a d)
    (hframe : segFault s.mode .ss s.seg.ss s.sp (2 * w.bytes) .read = none) (hoff : Allowed s .read .ss (s.stackOff 0) w.bytes)
    (hlimit : (s.loaded .ss (s.stackOff 0) w.bytes).toNat ≤ d.limit.toNat) (hu : setAccessed ⟨a, d⟩ s = .ok () u) :
    returnSame w rs n s = .ok () (({ u.setSreg .cs (d.toSeg rs) with eip := s.loaded .ss (s.stackOff 0) w.bytes } : State).setSp
      (s.sp + BitVec.ofNat 32 (2 * w.bytes) + n.setWidth 32)) := by
  have hinside := decide_eq_false (Nat.not_lt.mpr hlimit)
  unfold returnSame
  rw [query_id_bind_run, bind_of_ok (checkReturnCode_of_returnCode hcode), bind_of_ok (checkStackRead_of_inside hframe),
    bind_of_ok (stackRead_of_allowed hoff), hinside, raiseIf_false_bind_run, bind_of_ok hu, update_run, setAccessed_sp hu,
    State.withCode, selWithRpl_selRpl]

/-- A return to an outer level loads CS:EIP and the stack beyond the parameters (R417, R418). -/
theorem returnOuter_of_segments {s x u : State} {w : Width} {rs n : Word} {a b : DWord} {d f : Desc}
    (hframe : segFault s.mode .ss s.seg.ss s.sp (4 * w.bytes + n.toNat) .read = none)
    (hcode : ReturnCode s rs (selRpl rs) a d) (hsp : Allowed s .read .ss (s.stackOff (2 * w.bytes + n.toNat)) w.bytes)
    (hss : Allowed s .read .ss (s.stackOff (2 * w.bytes + n.toNat + w.bytes)) 2)
    (hstack : ReturnStack s ((s.loaded .ss (s.stackOff (2 * w.bytes + n.toNat + w.bytes)) 2).setWidth 16) (selRpl rs) b f)
    (hoff : Allowed s .read .ss (s.stackOff 0) w.bytes)
    (hlimit : (s.loaded .ss (s.stackOff 0) w.bytes).toNat ≤ d.limit.toNat) (hx : setAccessed ⟨a, d⟩ s = .ok () x)
    (hu : setAccessed ⟨b, f⟩ x = .ok () u) :
    returnOuter w rs n s = .ok () (returnedOut u (selRpl rs) (d.toSeg rs) (s.loaded .ss (s.stackOff 0) w.bytes)
      (f.toSeg ((s.loaded .ss (s.stackOff (2 * w.bytes + n.toNat + w.bytes)) 2).setWidth 16))
      (s.loaded .ss (s.stackOff (2 * w.bytes + n.toNat)) w.bytes)) := by
  have hinside := decide_eq_false (Nat.not_lt.mpr hlimit)
  have hoffset : 3 * w.bytes + n.toNat = 2 * w.bytes + n.toNat + w.bytes := by omega
  unfold returnOuter
  rw [hoffset, bind_of_ok (checkStackRead_of_inside hframe), bind_of_ok (checkReturnCode_of_returnCode hcode),
    bind_of_ok (stackRead_of_allowed hsp), bind_of_ok (stackRead_of_allowed hss),
    bind_of_ok (checkReturnStack_of_returnStack hstack), bind_of_ok (stackRead_of_allowed hoff), hinside, raiseIf_false_bind_run,
    bind_of_ok hx, bind_of_ok hu, update_run, dropSegments_withStack_withCode]

end Sys2Proof.Machine
end

section
/-!
PROOFS. Far transfers in protected mode that switch no task, put together (44_control_transfer.md R402, R406 to R419).
-/
namespace Sys2Proof.Machine

open Sys2Proof.Claims

/-! ### Far JMP and CALL -/

/-- A far JMP or CALL in protected mode is the dispatch on the descriptor its pointer names (R402, R406). -/
theorem exec_of_farForm_prot {s : State} {i : Instr} {call : Bool} {sel : Word} {off : DWord} (hmode : s.mode = .prot)
    (h : farForm s i = some (call, sel, off)) (hready : FarReady s i) :
    exec i s = complete (farProt (transferKind call) sel off) s :=
  (exec_of_farForm h hready).trans (complete_congr (farTransfer_of_prot hmode _ sel off))

/-- A transfer straight to a code segment that may be reached and is present (R407). -/
theorem entersCode_of_reachable {s : State} {call : Bool} {sel : Word} {off : DWord} {a : DWord} {d : Desc}
    (h : selNull sel = false) (ha : s.descAddr sel = some a) (hd : peekDesc s a = some d) (hcode : d.isCode = true)
    (hreach : CodeReachable s sel d) (hp : d.p = true) :
    EntersCode s call s.osz ⟨a, d⟩ sel (truncTo s.osz off) (complete (farProt (transferKind call) sel off) s) := by
  refine entersCode_of_run ((farProt_of_code _ off h ha hd hcode).trans ?_)
  rw [farToCode_run, if_neg (not_not_intro hreach), if_neg (by simp [hp])]

section
variable {s : State} {call : Bool} {sel : Word} {a : DWord} {g : Desc} (off : DWord) (h : selNull sel = false)
  (ha : s.descAddr sel = some a) (hd : peekDesc s a = some g) (hgate : g.isSystem 4 = true ∨ g.isSystem 12 = true)
include h ha hd hgate

theorem farProt_of_closed_gate (hclosed : ¬GateOpen s sel g) :
    farProt (transferKind call) sel off s = .error (Exc.gp (selCode sel)) s := by
  rw [farProt_of_gate _ off h ha hd hgate, farThroughGate_run, if_pos hclosed]

variable (hopen : GateOpen s sel g)
include hopen

theorem farProt_of_absent_gate (hp : g.p = false) : farProt (transferKind call) sel off s = .error (Exc.np (selCode sel)) s := by
  rw [farProt_of_gate _ off h ha hd hgate, farThroughGate_run, if_neg (not_not_intro hopen), if_pos hp]

variable (hp : g.p = true)
include hp

theorem farProt_of_open_gate :
    farProt (transferKind call) sel off s =
      if selNull g.gateSelector = true then .error (Exc.gp 0) s
      else (lookup g.gateSelector (Exc.gp (selCode g.gateSelector)) >>= gateTarget call g) s := by
  rw [farProt_of_gate _ off h ha hd hgate, farThroughGate_run, if_neg (not_not_intro hopen), if_neg (by simp [hp])]

theorem farProt_of_null_target (hnull : selNull g.gateSelector = true) :
    farProt (transferKind call) sel off s = .error (Exc.gp 0) s := by
  rw [farProt_of_open_gate off h ha hd hgate hopen hp, if_pos hnull]

variable (hnull : selNull g.gateSelector = false)
include hnull

theorem farProt_of_target_outside (hout : s.descAddr g.gateSelector = none) :
    farProt (transferKind call) sel off s = .error (Exc.gp (selCode g.gateSelector)) s := by
  rw [farProt_of_open_gate off h ha hd hgate hopen hp, hnull, if_neg Bool.false_ne_true, bind_of_error (lookup_of_outside hout _)]

theorem farProt_of_target {b : DWord} {c : Desc} (hb : s.descAddr g.gateSelector = some b) (hc : peekDesc s b = some c) :
    farProt (transferKind call) sel off s = gateTarget call g ⟨b, c⟩ s := by
  rw [farProt_of_open_gate off h ha hd hgate hopen hp, hnull, if_neg Bool.false_ne_true, bind_of_ok (lookup_of_found hb hc _)]

end

theorem gateTarget_of_refused {s : State} {call : Bool} {g : Desc} {c : Found} (hno : ¬GateCodeOk s call c.desc) :
    gateTarget call g c s = .error (Exc.gp (selCode g.gateSelector)) s := by
  rw [gateTarget, if_pos hno]

section
variable {s : State} {call : Bool} {g : Desc} {c : Found} (hok : GateCodeOk s call c.desc)
include hok

theorem gateTarget_of_absent (hp : c.desc.p = false) : gateTarget call g c s = .error (Exc.np (selCode g.gateSelector)) s := by
  rw [gateTarget, if_neg (not_not_intro hok), if_pos hp]

variable (hp : c.desc.p = true)
include hp

theorem gateTarget_of_sameLevel (hsame : SameLevel s c.desc) :
    gateTarget call g c s = transferTo (transferKind call) g.gateWidth c g.gateSelector g.gateOffset s := by
  rw [gateTarget, if_neg (not_not_intro hok), if_neg (by simp [hp]), if_pos hsame]

theorem gateTarget_of_inner (hinner : ¬SameLevel s c.desc) : gateTarget call g c s = callInner g c g.gateSelector s := by
  rw [gateTarget, if_neg (not_not_intro hok), if_neg (by simp [hp]), if_neg hinner]

end

/-- The frame of a CALL, or none for JMP, in the two clauses of the statement. -/
theorem EntersCode.jump_and_call {s : State} {call : Bool} {w : Width} {c : Found} {cs : Word} {t : DWord}
    {go : Host.Outcome State Fault Refusal} (h : EntersCode s call w c cs t go) (hlimit : t.toNat ≤ c.desc.limit.toNat) :
    (¬call = true → ∀ u, setAccessed c s = .ok () u → go = .next (u.withCode c cs s.cpl t)) ∧
    (call = true → CanPushAll w [s.selD .cs, s.eip] s → ∀ u, setAccessed c (pushedAll w [s.selD .cs, s.eip] s) = .ok () u →
      go = .next (u.withCode c cs s.cpl t)) := by
  cases call with
  | false => exact ⟨fun _ => h.inside hlimit trivial, nofun⟩
  | true => exact ⟨fun hno => absurd rfl hno, fun _ => h.inside hlimit⟩

/-- Settles O45: the dispatch leads to the code segment's checks or the gate's, and these to one end of the transfer; a RET checks its
frame, and what it returns to. -/
theorem farTransferProtectedResult : Obligations.FarTransferProtectedResult := by
  unfold Obligations.FarTransferProtectedResult
  intro s hmode frame
  refine ⟨fun i call sel off hform hready => ?_, fun i n hi => ?_⟩
  · intro go fault enter
    have hgo : go = complete (farProt (transferKind call) sel off) s := exec_of_farForm_prot hmode hform hready
    have raises {e : Exc} (h : farProt (transferKind call) sel off s = .error e s) : fault e := hgo.trans (complete_of_error h)
    refine ⟨fun hnull => raises (farProt_of_null _ off hnull), fun hnull hout => raises (farProt_of_outside _ off hnull hout),
      fun a d hnull ha hd => ⟨fun hcode => ?code, fun hgate => ?gate⟩⟩
    case code =>
      intro t ok
      have hrun := (farProt_of_code (transferKind call) off hnull ha hd hcode).trans (farToCode_run ..)
      have henter (hok : ok) (hp : d.p = true) : EntersCode s call s.osz ⟨a, d⟩ sel t go :=
        hgo ▸ entersCode_of_reachable hnull ha hd hcode hok hp
      exact ⟨fun hno => raises (hrun.trans (if_pos hno)),
        fun hok hp => raises (hrun.trans ((if_neg (not_not_intro hok)).trans (if_pos hp))),
        fun hok hp => (henter hok hp).noRoom,
        fun hok hp => (henter hok hp).beyond,
        fun hok hp hlimit => (henter hok hp).jump_and_call hlimit⟩
    case gate =>
      intro cs w t open'
      refine ⟨fun hclosed => raises (farProt_of_closed_gate off hnull ha hd hgate hclosed),
        fun hopen hp => raises (farProt_of_absent_gate off hnull ha hd hgate hopen hp),
        fun hopen hp hno => raises (farProt_of_null_target off hnull ha hd hgate hopen hp hno),
        fun hopen hp hcs hout => raises (farProt_of_target_outside off hnull ha hd hgate hopen hp hcs hout),
        fun b c hopen hp hcs hb hc => ?_⟩
      intro ok same
      have hrun : farProt (transferKind call) sel off s = gateTarget call d ⟨b, c⟩ s :=
        farProt_of_target off hnull ha hd hgate hopen hp hcs hb hc
      have henter (hok : ok) (hpc : c.p = true) (hsame : same) : EntersCode s call w ⟨b, c⟩ cs t go :=
        hgo ▸ entersCode_of_run (hrun.trans (gateTarget_of_sameLevel hok hpc hsame))
      have hinner (hok : ok) (hpc : c.p = true) (hno : ¬same) : EntersInner s d ⟨b, c⟩ cs go :=
        hgo ▸ entersInner_of_run (hrun.trans (gateTarget_of_inner hok hpc hno))
      exact ⟨fun hno => raises (hrun.trans (gateTarget_of_refused hno)),
        fun hok hpc => raises (hrun.trans (gateTarget_of_absent hok hpc)),
        fun hok hpc hc hsame => (henter hok hpc hsame).noRoom hc,
        fun hok hpc hsame => (henter hok hpc hsame).beyond,
        fun hok hpc hsame hlimit => (henter hok hpc hsame).jump_and_call hlimit,
        fun hok hpc hno => (hinner hok hpc hno).outsideTss,
        fun ss sp f x hok hpc hno => (hinner hok hpc hno).onStack ss sp f x⟩
  · intro w slot at' ok whole rs
    rw [exec_of_farReturn hi]
    have hret : returnFar n s = returnProt n s := returnFar_of_prot hmode n
    refine ⟨fun e he => complete_of_error (hret.trans (returnProt_of_refused he n)), fun hframe hsel => ?_⟩
    have hrun := hret.trans (returnProt_of_frame hframe hsel n)
    refine ⟨fun hinner => complete_of_error (hrun.trans (if_pos hinner)), fun a d u hsame hcode htwo hoff hlimit hu => ?_,
      fun a d b f x u => ?_⟩
    · have hlevel : ¬selRpl rs < s.cpl := hsame ▸ BitVec.lt_irrefl _
      exact complete_of_ok ((hrun.trans ((if_neg hlevel).trans (if_pos hsame))).trans
        (returnSame_of_returnCode hcode htwo hoff hlimit hu))
    · intro sp nss houter hfour hcode hsp hss hstack hoff hlimit hx hu
      have hlevel : ¬selRpl rs < s.cpl := BitVec.lt_asymm houter
      have hother : ¬selRpl rs = s.cpl := fun he => BitVec.lt_irrefl _ (he ▸ houter)
      exact complete_of_ok ((hrun.trans ((if_neg hlevel).trans (if_neg hother))).trans
        (returnOuter_of_segments hfour hcode hsp hss hstack hoff hlimit hx hu))

end Sys2Proof.Machine
end

section
/-!
PROOFS. Delivery in real-address mode, the software interrupts, and IRET outside protected mode (45_interrupt_iret.md R430 to R436,
R448; 60_exceptions.md R520, R550).
-/
namespace Sys2Proof.Machine

open Sys2Proof.Claims

/-! ### Several pushes (R300) -/

/-- Pushes leave the flags alone. -/
theorem pushedAll_flags (w : Width) (vs : List DWord) (s : State) : (pushedAll w vs s).flags = s.flags := by
  induction vs generalizing s with
  | nil => rfl
  | cons v rest ih => rw [pushedAll, ih, State.pushed_flags]

/-- A push has no part in EIP and in the single-step trap. -/
theorem pushed_restart (s : State) (b : Bool) (ip : DWord) (w : Width) (v : DWord) :
    State.pushed { s with trapDue := b, eip := ip } w v = { s.pushed w v with trapDue := b, eip := ip } := by
  have hstore (off : DWord) : State.storedAt { s with trapDue := b, eip := ip } .ss off w.bytes v =
      { s.storedAt .ss off w.bytes v with trapDue := b, eip := ip } := by
    have hrange : State.range { s with trapDue := b, eip := ip } .write .ss off w.bytes = s.range .write .ss off w.bytes :=
      range_congr (s := s) (t := { s with trapDue := b, eip := ip }) rfl rfl rfl rfl rfl ..
    simp only [State.storedAt, hrange]
  have hset (t : State) (x : DWord) : State.setSp { t with trapDue := b, eip := ip } x =
      { t.setSp x with trapDue := b, eip := ip } := by
    unfold State.setSp State.setRegW State.ssz
    cases t.seg.ss.db <;> rfl
  exact (congrArg (State.setSp · (s.pushSp w)) (hstore _)).trans (hset _ _)

theorem pushedAll_restart (s : State) (b : Bool) (ip : DWord) (w : Width) (vs : List DWord) :
    pushedAll w vs { s with trapDue := b, eip := ip } = { pushedAll w vs s with trapDue := b, eip := ip } := by
  induction vs generalizing s with
  | nil => rfl
  | cons v rest ih => rw [pushedAll, pushed_restart, ih, pushedAll]

/-- What can be pushed does not depend on them. -/
theorem canPushAll_restart {s : State} {w : Width} {vs : List DWord} (h : CanPushAll w vs s) (b : Bool) (ip : DWord) :
    CanPushAll w vs { s with trapDue := b, eip := ip } := by
  induction vs generalizing s with
  | nil => trivial
  | cons v rest ih =>
    obtain ⟨hfirst, hrest⟩ := h
    refine ⟨(allowed_congr (s := s) (t := { s with trapDue := b, eip := ip }) rfl rfl rfl rfl rfl rfl ..).mpr hfirst, ?_⟩
    rw [pushed_restart]
    exact ih hrest

/-! ### One delivery (R433) -/

/-- A choice between operations runs the one that is chosen. -/
theorem ite_run {α : Type} (p : Prop) [Decidable p] (x y : Op α) (s : State) : (if p then x else y) s = if p then x s else y s :=
  apply_ite (fun z : Op α => z s) p x y

section
variable {s u : State} {n : Nat} {src : Source} {err : Option Word} {ret : DWord} {e : Exc}

/-- With PE set a delivery goes by the gate of its vector (R433, R435). -/
theorem deliverOnce_of_pe (h : s.pe = true) : deliverOnce n src err ret s =
    (deliverProt n src err ret >>= fun _ => update fun s => { s with run := .running }) s := by
  unfold deliverOnce
  rw [query_bind_run, h]
  rfl

/-- With PE clear it goes by the table of real-address mode (R433, R434). -/
theorem deliverOnce_of_real (h : s.pe = false) : deliverOnce n src err ret s =
    (atomically (deliverReal n ret) >>= fun _ => update fun s => { s with run := .running }) s := by
  unfold deliverOnce
  rw [query_bind_run, h]
  rfl

theorem deliverOnce_of_prot_ok (hpe : s.pe = true) (h : deliverProt n src err ret s = .ok () u) :
    deliverOnce n src err ret s = .ok () { u with run := .running } := by
  rw [deliverOnce_of_pe hpe, bind_of_ok h, update_run]

theorem deliverOnce_of_prot_error (hpe : s.pe = true) (h : deliverProt n src err ret s = .error e u) :
    deliverOnce n src err ret s = .error e u := by
  rw [deliverOnce_of_pe hpe, bind_of_error h]

end

/-! ### Delivery in real-address mode (R434) -/

/-- The state at a vector of the real-mode table, once FLAGS, CS and the return offset are pushed (R434). -/
def State.atVector (p : State) (f : Flags) (off sel : DWord) : State :=
  { p.load8086 .cs (sel.setWidth 16) with eip := off, flags := { f with ifl := false, tf := false }, run := .running }

theorem realEntry_eq (s : State) (ret off sel : DWord) :
    realEntry s ret off sel = (pushedAll .w16 [s.flags.image, s.selD .cs, ret] s).atVector s.flags off sel := rfl

/-- EIP is replaced by the entry. -/
theorem realEntry_eip (s : State) (b : Bool) (ip ret off sel : DWord) :
    realEntry { s with trapDue := b, eip := ip } ret off sel = realEntry { s with trapDue := b } ret off sel := by
  have hpushed (x : DWord) := congrArg (State.atVector · s.flags off sel)
    (pushedAll_restart s b x .w16 [s.flags.image, s.selD .cs, ret])
  exact ((realEntry_eq ..).trans (hpushed ip)).trans ((realEntry_eq ..).trans (hpushed s.eip)).symm

section
variable {s : State} {n : Nat} {ret off sel : DWord} (hpe : s.pe = false) (src : Source) (err : Option Word)
include hpe

/-- A vector that can be taken is entered, whatever is delivered and with whatever code (R434). -/
theorem deliverOnce_of_realVector (h : RealVector s n ret off sel) :
    deliverOnce n src err ret s = .ok () (realEntry s ret off sel) := by
  obtain ⟨hlimit, hoff, hsel, hpush⟩ := h
  have hinside : decide (s.idtr.limit.toNat < 4 * n + 3) = false := decide_eq_false (Nat.not_lt.mpr hlimit)
  have hreal : deliverReal n ret s = .ok () { (pushedAll .w16 [s.flags.image, s.selD .cs, ret] s).load8086 .cs (sel.setWidth 16) with
      eip := off
      flags := { s.flags with ifl := false, tf := false } } := by
    unfold deliverReal
    rw [query_id_bind_run, hinside, raiseIf_false_bind_run, bind_of_ok (linRead_of_peek hoff), bind_of_ok (linRead_of_peek hsel),
      bind_of_ok (pushAllOf_of_can hpush), update_run, pushedAll_flags]
  rw [deliverOnce_of_real hpe, bind_of_ok (atomically_of_ok hreal), update_run]
  rfl

/-- A vector beyond the limit of IDTR raises exception 8 (R434). -/
theorem deliverOnce_of_beyond_table (h : s.idtr.limit.toNat < 4 * n + 3) :
    deliverOnce n src err ret s = .error (Exc.plain 8) s := by
  have hreal : deliverReal n ret s = .error (Exc.plain 8) s := by
    unfold deliverReal
    rw [query_id_bind_run, decide_eq_true h, raiseIf_true_bind_run]
  rw [deliverOnce_of_real hpe, bind_of_error (atomically_of_error hreal)]

/-- An exception enters its vector from the first byte of the instruction, with no single-step trap due (R434, R520). -/
theorem raise_of_realVector {e : Exc} (he : e.cr2 = none) (h : RealVector s e.vector s.insnStart off sel) :
    s.raise e = realEntry { s with trapDue := false } s.insnStart off sel := by
  let t : State := { s with trapDue := false, eip := s.insnStart }
  have ht : RealVector t e.vector s.insnStart off sel := by
    obtain ⟨hlimit, hoff, hsel, hpush⟩ := h
    exact ⟨hlimit, (peek_congr (s := s) (t := t) rfl rfl rfl ..).trans hoff, (peek_congr (s := s) (t := t) rfl rfl rfl ..).trans hsel,
      canPushAll_restart hpush false s.insnStart⟩
  have hstart : { s.noteFault e with trapDue := false, eip := s.insnStart } = t := by rw [State.noteFault_of_none he]
  rw [← realEntry_eip s false s.insnStart]
  apply raise_of_delivered
  rw [hstart]
  exact deliverOnce_of_realVector (s := t) hpe _ _ ht

end

/-! ### The software interrupts (R430 to R432) -/

theorem softwareInterrupt_run (n : Nat) (s : State) : softwareInterrupt n s = deliverOnce n .software none s.eip s :=
  query_id_bind_run _ s

/-- A software interrupt: INT n where IOPL lets it through, INT 3, and INTO with OF set, with its vector (R430 to R432, R550). -/
abbrev SoftwareInterrupt (s : State) (i : Instr) (n : Nat) : Prop :=
  (∃ b : Byte, i = .int b ∧ n = b.toNat ∧ (s.mode = .v86 → s.flags.iopl = 3)) ∨ (i = .int3 ∧ n = 3) ∨
    (i = .into ∧ n = 4 ∧ s.flags.ofl = true)

/-- The three forms are one delivery (R430 to R433). -/
theorem exec_of_softwareInterrupt {s : State} {i : Instr} {n : Nat} (h : SoftwareInterrupt s i n) :
    exec i s = complete (deliverOnce n .software none s.eip) s := by
  rcases h with ⟨b, rfl, rfl, hiopl⟩ | ⟨rfl, rfl⟩ | ⟨rfl, rfl, hof⟩
  · have hpass : s.mode ≠ .v86 ∨ s.flags.iopl = 3 := Decidable.not_or_of_imp hiopl
    exact complete_congr ((bind_of_ok (checkV86Iopl_passes hpass)).trans (softwareInterrupt_run b.toNat s))
  · exact complete_congr (softwareInterrupt_run 3 s)
  · refine complete_congr (x := interruptOnOverflow) ?_
    unfold interruptOnOverflow
    rw [query_id_bind_run, hof]
    exact softwareInterrupt_run 4 s

/-- INTO with OF clear does nothing (R432). -/
theorem exec_into_of_no_overflow {s : State} (h : s.flags.ofl = false) : exec .into s = .next s := by
  refine complete_of_ok (x := interruptOnOverflow) ?_
  unfold interruptOnOverflow
  rw [query_id_bind_run, h]
  rfl

/-- With PE clear the machine is in real-address mode (R2). -/
theorem State.mode_of_real {s : State} (h : s.pe = false) : s.mode = .real := by
  simp [State.mode, h]

/-- A software interrupt in real-address mode whose vector can be taken enters it (R434). -/
theorem exec_of_realVector {s : State} {i : Instr} {n : Nat} {off sel : DWord} (hpe : s.pe = false)
    (hi : SoftwareInterrupt s i n) (h : RealVector s n s.eip off sel) : exec i s = .next (realEntry s s.eip off sel) :=
  (exec_of_softwareInterrupt hi).trans (complete_of_ok (deliverOnce_of_realVector hpe _ _ h))

/-! ### IRET outside protected mode (R436, R448) -/

/-- What IRET loads into the flags, with its tests as propositions (R448). -/
theorem Flags.loadIret_eq (f : Flags) (w : Width) (pe : Bool) (cpl : BitVec 2) (v : DWord) :
    f.loadIret w pe cpl v = { Flags.ofImage v with
      iopl := if pe = false ∨ cpl = 0 then (Flags.ofImage v).iopl else f.iopl
      ifl := if pe = false ∨ cpl ≤ f.iopl then (Flags.ofImage v).ifl else f.ifl
      rf := if w = .w32 then (Flags.ofImage v).rf else f.rf
      vm := f.vm } := by
  rw [Flags.loadIret, Flags.load_eq]
  rfl

/-- Pops change the stack pointer alone (R301). -/
theorem poppedAll_eq (w : Width) (n : Nat) (s : State) : poppedAll w n s = { s with gpr := (poppedAll w n s).gpr } := by
  induction n generalizing s with
  | zero => rfl
  | succ n ih =>
    exact (ih _).trans (congrArg (fun t : State => { t with gpr := (poppedAll w n (s.popped w)).gpr }) (popped_eq s w))

/-- A return whose pops are allowed loads EIP, CS and the flags from the three values (R436). -/
theorem iret8086_of_can {s : State} (h : CanPopAll s.osz 3 s) :
    iret8086 s = .ok () { (poppedAll s.osz 3 s).load8086 .cs ((stackValue s.osz s 1).setWidth 16) with
      eip := stackValue s.osz s 0
      flags := s.flags.loadIret s.osz s.pe s.cpl (stackValue s.osz s 2)
      nmiBlocked := false } := by
  obtain ⟨hoff, hsel, himg, _⟩ := id h
  have hkept := poppedAll_eq s.osz 3 s
  have hflags : (poppedAll s.osz 3 s).flags = s.flags := by rw [hkept]
  have hpe : (poppedAll s.osz 3 s).pe = s.pe := by rw [hkept]; rfl
  have hcpl : (poppedAll s.osz 3 s).cpl = s.cpl := by rw [hkept]
  unfold iret8086
  rw [query_id_bind_run, bind_of_ok (checkPops_of_canPopAll h), bind_of_ok (pop_of_can hoff), bind_of_ok (pop_of_can hsel),
    bind_of_ok (pop_of_can himg), update_run, ← hflags, ← hpe, ← hcpl]
  rfl

/-- A return whose items are not all on the stack does nothing (R436). -/
theorem iret8086_of_short {s : State} (h : s.holdsItems s.osz.bytes 3 = false) : iret8086 s = .error (Exc.ss 0) s := by
  have hcheck : checkPops s.osz.bytes 3 s = .error (Exc.ss 0) s := by rw [checkPops_run, h, if_neg Bool.false_ne_true]
  unfold iret8086
  rw [query_id_bind_run, bind_of_error hcheck]

/-- In real-address mode, and in V86 mode with IOPL 3, IRET is the return of an 8086 (R436). -/
theorem interruptReturn_of_8086 {s : State} (h : s.mode = .real ∨ (s.mode = .v86 ∧ s.flags.iopl = 3)) :
    interruptReturn s = atomically iret8086 s := by
  have hpass : s.mode ≠ .v86 ∨ s.flags.iopl = 3 := h.imp (fun hmode => by simp [hmode]) And.right
  unfold interruptReturn
  rw [bind_of_ok (checkV86Iopl_passes hpass), query_bind_run]
  rcases h with hmode | ⟨hmode, _⟩ <;> rw [hmode]

/-- Settles O46: the three software interrupts are one delivery, and in real-address mode a delivery, of an exception as well, is one
entry; IRET is three pops and one load. -/
theorem realModeEntryAndReturn : Obligations.RealModeEntryAndReturn := by
  unfold Obligations.RealModeEntryAndReturn
  refine ⟨fun s hpe => ?real, fun s => exec_into_of_no_overflow, fun s t i n hi => ?delivery,
    fun s b hmode hiopl => complete_of_error (bind_of_error (checkV86Iopl_refuses hmode hiopl)), fun s => ?iret⟩
  case real =>
    have hint (b : Byte) : SoftwareInterrupt s (.int b) b.toNat :=
      .inl ⟨b, rfl, rfl, fun hmode => by simp [State.mode_of_real hpe] at hmode⟩
    refine ⟨fun b off sel => exec_of_realVector hpe (hint b), fun off sel => exec_of_realVector hpe (.inr (.inl ⟨rfl, rfl⟩)),
      fun off sel hof => exec_of_realVector hpe (.inr (.inr ⟨rfl, rfl, hof⟩)),
      fun n off sel h => ⟨raise_of_realVector hpe rfl h, fun c => raise_of_realVector hpe rfl h⟩,
      fun off sel h c => raise_of_realVector hpe rfl h, fun off sel h c => raise_of_realVector hpe rfl h,
      fun b off sel hbeyond h => ?_⟩
    rw [exec_of_softwareInterrupt (hint b), complete_of_error (deliverOnce_of_beyond_table hpe _ _ hbeyond)]
    exact congrArg _ (raise_of_realVector (e := Exc.plain 8) hpe rfl h)
  case delivery =>
    intro delivery
    exact ⟨fun h => (exec_of_softwareInterrupt hi).trans (complete_of_ok h),
      fun e h => (exec_of_softwareInterrupt hi).trans (complete_of_error h)⟩
  case iret =>
    intro w v new
    refine ⟨fun hmode hiopl => complete_of_error (bind_of_error (checkV86Iopl_refuses hmode hiopl)), fun hmode hcan => ?_,
      fun hmode hshort => complete_of_error ((interruptReturn_of_8086 hmode).trans (atomically_of_error (iret8086_of_short hshort)))⟩
    have hrun := (interruptReturn_of_8086 hmode).trans (atomically_of_ok (iret8086_of_can hcan))
    rw [Flags.loadIret_eq] at hrun
    exact complete_of_ok hrun

end Sys2Proof.Machine
end

section
/-!
PROOFS. Delivery through an interrupt or trap gate: the gate of a vector, the handler it leads to, and the entry at the same level
(45_interrupt_iret.md R435, R437, R438, R443).
-/
namespace Sys2Proof.Machine

open Sys2Proof.Claims

/-! ### The gate of a vector (R435) -/

/-- The error code that names the gate of a vector: its offset in the table, with the IDT bit (R435). -/
def gateCode (n : Nat) : Word := BitVec.ofNat 16 (8 * n + 2)

/-- A gate is closed to a software interrupt from an outer level (R435). -/
abbrev GateClosed (s : State) (src : Source) (g : Desc) : Prop := src = .software ∧ g.dpl < s.cpl

section
variable {s : State} {n : Nat} {src : Source} {err : Option Word} {ret : DWord} {g : Desc} {c : Found}

theorem deliverProt_of_beyond_table (h : s.idtr.limit.toNat < 8 * n + 7) :
    deliverProt n src err ret s = .error (Exc.gp (gateCode n)) s := by
  unfold deliverProt
  rw [query_id_bind_run, decide_eq_true h, raiseIf_true_bind_run, gateCode]

/-- The tests on an entry of the table, then the task gate or the other gate that it is (R435). -/
theorem deliverProt_of_entry (hlimit : 8 * n + 7 ≤ s.idtr.limit.toNat)
    (hg : peekDesc s (s.idtr.base + BitVec.ofNat 32 (8 * n)) = some g) :
    deliverProt n src err ret s =
      if (g.isIntOrTrapGate || g.isSystem 5) = false then .error (Exc.gp (gateCode n)) s
      else if GateClosed s src g then .error (Exc.gp (gateCode n)) s
      else if g.p = false then .error (Exc.np (gateCode n)) s
      else if g.isSystem 5 = true then deliverTask g err ret s else deliverGate (gateCode n) g err ret s := by
  have hclosed : (src == .software && decide (g.dpl < s.cpl)) = true ↔ GateClosed s src g := by
    rw [Bool.and_eq_true, beq_iff_eq, decide_eq_true_iff]
  unfold deliverProt
  rw [query_id_bind_run, decide_eq_false (Nat.not_lt.mpr hlimit), raiseIf_false_bind_run, bind_of_ok (readDesc_of_peekDesc hg),
    raiseIf_iff_bind_run (Bool.not_eq_true' _).to_iff, raiseIf_iff_bind_run hclosed,
    raiseIf_iff_bind_run (Bool.not_eq_true' _).to_iff, ite_run]
  rfl

/-- An interrupt or trap gate is no task gate (R113). -/
theorem Desc.isSystem_task_of_isIntOrTrapGate (h : g.isIntOrTrapGate = true) : g.isSystem 5 = false := by
  obtain ⟨_, htype⟩ : g.hi.getLsbD 12 = false ∧ (g.hi.extractLsb' 8 4 = 6 ∨ g.hi.extractLsb' 8 4 = 7 ∨ g.hi.extractLsb' 8 4 = 14 ∨
      g.hi.extractLsb' 8 4 = 15) := by
    simpa [Desc.isIntOrTrapGate, Desc.isSystem_iff, ← and_or_left, or_assoc] using h
  rw [← Bool.not_eq_true, Desc.isSystem_iff]
  rintro ⟨_, htask⟩
  rw [htask] at htype
  exact absurd htype (by decide)

/-- An interrupt or trap gate of a vector that is present and not closed to what is delivered (R435). -/
abbrev OpenGate (s : State) (n : Nat) (src : Source) (g : Desc) : Prop :=
  8 * n + 7 ≤ s.idtr.limit.toNat ∧ peekDesc s (s.idtr.base + BitVec.ofNat 32 (8 * n)) = some g ∧ g.isIntOrTrapGate = true ∧
    ¬GateClosed s src g ∧ g.p = true

theorem deliverProt_of_openGate (h : OpenGate s n src g) :
    deliverProt n src err ret s = deliverGate (gateCode n) g err ret s := by
  obtain ⟨hlimit, hg, hkind, hopen, hp⟩ := h
  have htask := Desc.isSystem_task_of_isIntOrTrapGate hkind
  rw [deliverProt_of_entry hlimit hg, hkind, Bool.true_or, if_neg Bool.noConfusion, if_neg hopen,
    if_neg (ne_false_of_eq_true hp), if_neg (Bool.eq_false_iff.mp htask)]

/-! ### The handler that a gate leads to (R437) -/

theorem deliverGate_of_null (h : selNull g.gateSelector = true) (idt : Word) :
    deliverGate idt g err ret s = .error (Exc.gp 0) s := by
  unfold deliverGate
  rw [query_id_bind_run, h, raiseIf_true_bind_run]

theorem deliverGate_of_outside (h : selNull g.gateSelector = false) (hout : s.descAddr g.gateSelector = none) (idt : Word) :
    deliverGate idt g err ret s = .error (Exc.gp (selCode g.gateSelector)) s := by
  unfold deliverGate
  rw [query_id_bind_run, h, raiseIf_false_bind_run, bind_of_error (lookup_of_outside hout _)]

/-- The choice of path to a handler: from V86 mode to level 0, to an inner level, or at the same one (R437). -/
def enterHandler (idt : Word) (g : Desc) (c : Found) (err : Option Word) (ret : DWord) : Op Unit := fun s =>
  let cs := g.gateSelector
  if s.flags.vm = true then
    if g.is386 = false then .error (Exc.gp idt) s
    else if c.desc.isConforming = true ∨ c.desc.dpl ≠ 0 then .error (Exc.gp (selCode cs)) s
    else deliverV86 g cs c err ret s
  else if c.desc.isConforming = false ∧ c.desc.dpl < s.cpl then deliverInner g cs c err ret s
  else if SameLevel s c.desc then deliverSame g cs c err ret s
  else .error (Exc.gp (selCode cs)) s

/-- The tests on the code segment that a gate names, then the choice of path (R437). -/
theorem deliverGate_of_found (h : selNull g.gateSelector = false) (ha : s.descAddr g.gateSelector = some c.addr)
    (hd : peekDesc s c.addr = some c.desc) (idt : Word) :
    deliverGate idt g err ret s =
      if c.desc.isCode = false then .error (Exc.gp (selCode g.gateSelector)) s
      else if c.desc.p = false then .error (Exc.np (selCode g.gateSelector)) s
      else enterHandler idt g c err ret s := by
  have hrefused : (c.desc.isConforming || c.desc.dpl != 0) = true ↔ c.desc.isConforming = true ∨ c.desc.dpl ≠ 0 := by simp
  have hinner : (!c.desc.isConforming && decide (c.desc.dpl < s.cpl)) = true ↔
      c.desc.isConforming = false ∧ c.desc.dpl < s.cpl := by simp
  have hsame : (c.desc.isConforming || c.desc.dpl == s.cpl) = true ↔ SameLevel s c.desc := by simp [SameLevel]
  unfold deliverGate enterHandler
  rw [query_id_bind_run, h, raiseIf_false_bind_run, bind_of_ok (lookup_of_found ha hd _),
    raiseIf_iff_bind_run (Bool.not_eq_true' _).to_iff, raiseIf_iff_bind_run (Bool.not_eq_true' _).to_iff]
  simp only [hinner, hsame]
  cases s.flags.vm with
  | true =>
    rw [if_pos rfl, if_pos rfl, raiseIf_iff_bind_run (Bool.not_eq_true' _).to_iff, raiseIf_iff_bind_run hrefused]
  | false =>
    rw [if_neg Bool.false_ne_true, if_neg Bool.false_ne_true, ite_run, ite_run]
    rfl

/-- The gate leads to a present code segment (R437). -/
abbrev OpenHandler (s : State) (n : Nat) (src : Source) (g : Desc) (c : Found) : Prop :=
  OpenGate s n src g ∧ selNull g.gateSelector = false ∧ s.descAddr g.gateSelector = some c.addr ∧
    peekDesc s c.addr = some c.desc ∧ c.desc.isCode = true ∧ c.desc.p = true

theorem deliverProt_of_openHandler (h : OpenHandler s n src g c) :
    deliverProt n src err ret s = enterHandler (gateCode n) g c err ret s := by
  obtain ⟨hgate, hnull, ha, hd, hcode, hp⟩ := h
  rw [deliverProt_of_openGate hgate, deliverGate_of_found hnull ha hd, if_neg (ne_false_of_eq_true hcode),
    if_neg (ne_false_of_eq_true hp)]

/-- The gates of the statements are such gates, the offset inside the limit besides. -/
theorem openHandler_of_gateVector (h : GateVector s n g c) (hdpl : src = .software → s.cpl ≤ g.dpl) :
    OpenHandler s n src g c ∧ g.gateOffset.toNat ≤ c.desc.limit.toNat := by
  obtain ⟨hlimit, hg, hkind, hp, hnull, ha, hd, hcode, hpc, hoff⟩ := h
  have hopen : ¬GateClosed s src g := fun ⟨hsrc, hlt⟩ => BitVec.not_lt.mpr (hdpl hsrc) hlt
  exact ⟨⟨⟨hlimit, hg, hkind, hopen, hp⟩, hnull, ha, hd, hcode, hpc⟩, hoff⟩

/-! ### The paths (R437) -/

section
variable (idt : Word)

theorem enterHandler_of_inner (hvm : s.flags.vm = false) (hconf : c.desc.isConforming = false) (hlevel : c.desc.dpl < s.cpl) :
    enterHandler idt g c err ret s = deliverInner g g.gateSelector c err ret s := by
  rw [enterHandler, if_neg (Bool.eq_false_iff.mp hvm), if_pos ⟨hconf, hlevel⟩]

theorem enterHandler_of_same (hvm : s.flags.vm = false) (hsame : SameLevel s c.desc) :
    enterHandler idt g c err ret s = deliverSame g g.gateSelector c err ret s := by
  have hinner : ¬(c.desc.isConforming = false ∧ c.desc.dpl < s.cpl) := by
    rintro ⟨hconf, hlevel⟩
    rcases hsame with h | h
    · simp [h] at hconf
    · exact BitVec.lt_irrefl _ (h ▸ hlevel)
  rw [enterHandler, if_neg (Bool.eq_false_iff.mp hvm), if_neg hinner, if_pos hsame]

theorem enterHandler_of_outer (hvm : s.flags.vm = false) (hconf : c.desc.isConforming = false) (hlevel : s.cpl < c.desc.dpl) :
    enterHandler idt g c err ret s = .error (Exc.gp (selCode g.gateSelector)) s := by
  have hinner : ¬(c.desc.isConforming = false ∧ c.desc.dpl < s.cpl) := fun h => BitVec.lt_asymm hlevel h.2
  have hsame : ¬SameLevel s c.desc := by
    rintro (h | h)
    · simp [h] at hconf
    · exact BitVec.lt_irrefl _ (h ▸ hlevel)
  rw [enterHandler, if_neg (Bool.eq_false_iff.mp hvm), if_neg hinner, if_neg hsame]

theorem enterHandler_of_v86_gate286 (hvm : s.flags.vm = true) (h286 : g.is386 = false) :
    enterHandler idt g c err ret s = .error (Exc.gp idt) s := by
  rw [enterHandler, if_pos hvm, if_pos h286]

theorem enterHandler_of_v86_refused (hvm : s.flags.vm = true) (h386 : g.is386 = true)
    (hno : c.desc.isConforming = true ∨ c.desc.dpl ≠ 0) :
    enterHandler idt g c err ret s = .error (Exc.gp (selCode g.gateSelector)) s := by
  rw [enterHandler, if_pos hvm, if_neg (ne_false_of_eq_true h386), if_pos hno]

theorem enterHandler_of_v86 (hvm : s.flags.vm = true) (h386 : g.is386 = true) (hconf : c.desc.isConforming = false)
    (hdpl : c.desc.dpl = 0) : enterHandler idt g c err ret s = deliverV86 g g.gateSelector c err ret s := by
  rw [enterHandler, if_pos hvm, if_neg (ne_false_of_eq_true h386), if_neg (by simp [hconf, hdpl])]

end

/-! ### The same level (R438, R443) -/

theorem deliverSame_of_no_room (h : s.hasRoom g.gateWidth.bytes (3 + (codeValues err).length) = false) (cs : Word) :
    deliverSame g cs c err ret s = .error (Exc.ss 0) s := by
  have hcheck : checkPushes g.gateWidth.bytes (3 + (codeValues err).length) s = .error (Exc.ss 0) s := by
    rw [checkPushes_run, h, if_neg Bool.false_ne_true]
  unfold deliverSame
  rw [query_id_bind_run]
  exact bind_of_error hcheck

theorem deliverSame_of_beyond (h : s.hasRoom g.gateWidth.bytes (3 + (codeValues err).length) = true)
    (hoff : c.desc.limit.toNat < g.gateOffset.toNat) (cs : Word) :
    deliverSame g cs c err ret s = .error (Exc.gp 0) s := by
  unfold deliverSame
  rw [query_id_bind_run]
  refine (bind_of_ok (checkPushes_of_hasRoom h)).trans ?_
  rw [decide_eq_true hoff, raiseIf_true_bind_run]

end

/-- Pushes that complete leave the flags alone. -/
theorem pushAllOf_flags {w : Width} {vs : List DWord} {s t : State} (h : pushAllOf w vs s = .ok () t) : t.flags = s.flags := by
  induction vs generalizing s with
  | nil => cases h; rfl
  | cons v rest ih =>
    unfold pushAllOf at h
    rcases push_cases w v s with ⟨addrs, hpush⟩ | ⟨e, hpush⟩
    · rw [bind_of_ok hpush] at h
      rw [ih h, State.setSp_flags]
    · rw [bind_of_error hpush] at h
      cases h

theorem setAccessed_flags {f : Found} {s u : State} (h : setAccessed f s = .ok () u) : u.flags = s.flags := by
  rw [(setAccessed_ok h).1]

/-- In protected mode PE is set and VM is clear (R2). -/
theorem State.mode_prot {s : State} (h : s.mode = .prot) : s.pe = true ∧ s.flags.vm = false := by
  unfold State.mode at h
  cases hpe : s.pe <;> cases hvm : s.flags.vm <;> simp [hpe, hvm] at h
  exact ⟨rfl, rfl⟩

/-- Settles O47: past the gate's checks the entry is three pushes, the load of CS:EIP and the push of the code, none of which touches
the flags that are then changed. -/
theorem protectedEntrySameLevel : Obligations.ProtectedEntrySameLevel := by
  unfold Obligations.ProtectedEntrySameLevel
  intro s u n src err ret g c hmode hgate hdpl hlevel w frame code hroom hpush hu entered inHandler
  obtain ⟨hpe, hvm⟩ := State.mode_prot hmode
  obtain ⟨hhandler, hoff⟩ := openHandler_of_gateVector hgate hdpl
  have hsame : SameLevel s c.desc := by
    by_cases hconf : c.desc.isConforming = true
    · exact .inl hconf
    · exact .inr ((if_neg hconf).mp hlevel)
  have hrun : deliverProt n src err ret s = match pushAllOf w code entered with
      | .ok _ t => .ok () { t with flags := t.flags.enter g.isInterruptGate }
      | .error e _ => .error e (s.markAccessed c) :=
    (deliverProt_of_openHandler hhandler).trans ((enterHandler_of_same _ hvm hsame).trans
      (deliverSame_of_entered hroom hoff (pushAllOf_of_can hpush) hu))
  have hentered : entered.flags = s.flags := (setAccessed_flags hu).trans (pushedAll_flags ..)
  have henter {t : State} (ht : pushAllOf w code entered = .ok () t) : deliverOnce n src err ret s = .ok () (inHandler t) := by
    rw [ht] at hrun
    rw [deliverOnce_of_prot_ok hpe hrun, (pushAllOf_flags ht).trans hentered]
    rfl
  refine ⟨fun hcode => henter (pushAllOf_of_can hcode), fun x hx => ?_⟩
  cases hcode : pushAllOf w code entered with
  | ok _ t => exact henter hcode
  | error e t =>
    rw [hcode, markAccessed_of_ok hx] at hrun
    exact deliverOnce_of_prot_error hpe hrun

end Sys2Proof.Machine
end

section
/-!
PROOFS. Delivery to an inner level and from V86 mode (45_interrupt_iret.md R439, R441, R443; 44_control_transfer.md R412).
-/
namespace Sys2Proof.Machine

open Sys2Proof.Claims

/-! ### The stack of the new level (R412, R439) -/

/-- What a delivery to another level does before it leaves the old stack: it takes the stack that the TSS gives, tests its
segment, its room and the offset, sets the accessed bit, and goes on with `enter` (R439, R441). -/
def onStackOf (level : BitVec 2) (w count : Nat) (beyond : Bool) (enter : Found → Word → DWord → Op Unit) : Op Unit := do
  let (ss, sp) ← innerStack level
  let f ← checkInnerStack ss level (Exc.gp 0)
  raiseIf (!stackRoom .prot (f.desc.toSeg ss) w count (spFor (f.desc.toSeg ss) sp)) (Exc.ss 0)
  raiseIf beyond (Exc.gp 0)
  setAccessed f
  atomically (enter f ss sp)

/-- A descriptor fits as the stack segment of a level, whether present or not (R411). -/
abbrev FitsStack (level : BitVec 2) (ss : Word) (d : Desc) : Prop := selRpl ss = level ∧ d.dpl = level ∧ d.isWritableData = true

theorem checkInnerStack_of_found {s : State} {level : BitVec 2} {ss : Word} {b : DWord} {d : Desc} (hnull : selNull ss = false)
    (hb : s.descAddr ss = some b) (hd : peekDesc s b = some d) (e : Exc) :
    checkInnerStack ss level e s =
      if ¬FitsStack level ss d then .error (Exc.ts (selCode ss)) s
      else if d.p = false then .error (Exc.ss (selCode ss)) s
      else .ok ⟨b, d⟩ s := by
  have htest : ((selRpl ss != level) || (d.dpl != level) || (!d.isWritableData)) = true ↔ ¬FitsStack level ss d := by
    rw [Bool.or_eq_true, Bool.or_eq_true, bne_iff_ne, bne_iff_ne, Bool.not_eq_true', or_assoc,
      Decidable.not_and_iff_not_or_not, Decidable.not_and_iff_not_or_not,
      Bool.not_eq_true]
  unfold checkInnerStack
  rw [hnull, raiseIf_false_bind_run, bind_of_ok (lookup_of_found hb hd _), raiseIf_twice_bind_run, raiseIf_twice_bind_run,
    raiseIf_iff_bind_run htest]
  dsimp only
  rw [raiseIf_iff_bind_run (Bool.not_eq_true' _).to_iff, pure_run]

section
variable {s : State} {level : BitVec 2} {w count : Nat} {beyond : Bool} {enter : Found → Word → DWord → Op Unit}

theorem onStackOf_of_outside (h : ¬InnerStackInTss s level) :
    onStackOf level w count beyond enter s = .error (Exc.ts (selCode s.tr.sel)) s :=
  bind_of_error (innerStack_of_outside h)

variable {ss : Word} {sp : DWord} (hpointer : InnerPointer s level ss sp)
include hpointer

theorem onStackOf_of_unchecked {e : Exc} (h : checkInnerStack ss level (Exc.gp 0) s = .error e s) :
    onStackOf level w count beyond enter s = .error e s :=
  (bind_of_ok (innerStack_of_pointer hpointer)).trans (bind_of_error h)

theorem onStackOf_of_null (hnull : selNull ss = true) : onStackOf level w count beyond enter s = .error (Exc.gp 0) s := by
  apply onStackOf_of_unchecked hpointer
  unfold checkInnerStack
  rw [hnull, raiseIf_true_bind_run]

variable (hnull : selNull ss = false)
include hnull

theorem onStackOf_of_unlisted (hout : s.descAddr ss = none) :
    onStackOf level w count beyond enter s = .error (Exc.ts (selCode ss)) s := by
  apply onStackOf_of_unchecked hpointer
  unfold checkInnerStack
  rw [hnull, raiseIf_false_bind_run, bind_of_error (lookup_of_outside hout _)]

variable {b : DWord} {d : Desc} (hb : s.descAddr ss = some b) (hd : peekDesc s b = some d)
include hb hd

theorem onStackOf_of_unfit (hno : ¬FitsStack level ss d) :
    onStackOf level w count beyond enter s = .error (Exc.ts (selCode ss)) s :=
  onStackOf_of_unchecked hpointer ((checkInnerStack_of_found hnull hb hd _).trans (if_pos hno))

variable (hfits : FitsStack level ss d)
include hfits

theorem onStackOf_of_absent (hp : d.p = false) :
    onStackOf level w count beyond enter s = .error (Exc.ss (selCode ss)) s :=
  onStackOf_of_unchecked hpointer
    ((checkInnerStack_of_found hnull hb hd _).trans ((if_neg (not_not_intro hfits)).trans (if_pos hp)))

variable (hp : d.p = true)
include hp

/-- Past the checks on the stack segment come its room and the offset, then the new stack (R439). -/
theorem onStackOf_of_present :
    onStackOf level w count beyond enter s =
      if stackRoom .prot (d.toSeg ss) w count (spFor (d.toSeg ss) sp) = false then .error (Exc.ss 0) s
      else if beyond = true then .error (Exc.gp 0) s
      else (setAccessed ⟨b, d⟩ >>= fun _ => atomically (enter ⟨b, d⟩ ss sp)) s := by
  have hcheck : checkInnerStack ss level (Exc.gp 0) s = .ok ⟨b, d⟩ s := by
    rw [checkInnerStack_of_found hnull hb hd, if_neg (not_not_intro hfits), if_neg (ne_false_of_eq_true hp)]
  refine (bind_of_ok (innerStack_of_pointer hpointer)).trans ((bind_of_ok hcheck).trans ?_)
  rw [raiseIf_iff_bind_run (Bool.not_eq_true' _).to_iff, raiseIf_bind_run]

theorem onStackOf_of_no_room (hroom : stackRoom .prot (d.toSeg ss) w count (spFor (d.toSeg ss) sp) = false) :
    onStackOf level w count beyond enter s = .error (Exc.ss 0) s := by
  rw [onStackOf_of_present hpointer hnull hb hd hfits hp, if_pos hroom]

variable (hroom : stackRoom .prot (d.toSeg ss) w count (spFor (d.toSeg ss) sp) = true)
include hroom

theorem onStackOf_of_beyond : onStackOf level w count true enter s = .error (Exc.gp 0) s := by
  rw [onStackOf_of_present hpointer hnull hb hd hfits hp, if_neg (ne_false_of_eq_true hroom), if_pos rfl]

end

/-- A stack that passes every test is entered once its accessed bit is set (R439). -/
theorem onStackOf_of_innerStack {s a : State} {level : BitVec 2} {w count : Nat} {enter : Found → Word → DWord → Op Unit} {ss : Word}
    {sp : DWord} {f : Found} (h : InnerStack s level ss sp f)
    (hroom : stackRoom .prot (f.desc.toSeg ss) w count (spFor (f.desc.toSeg ss) sp) = true) (ha : setAccessed f s = .ok () a) :
    onStackOf level w count false enter s = atomically (enter f ss sp) a := by
  obtain ⟨hpointer, hnull, hb, hd, hrpl, hdpl, hdata, hp⟩ := h
  rw [onStackOf_of_present hpointer hnull hb hd ⟨hrpl, hdpl, hdata⟩ hp, if_neg (ne_false_of_eq_true hroom),
    if_neg Bool.false_ne_true, bind_of_ok ha]

/-! ### The frame on the new stack (R439, R441, R443) -/

/-- What a delivery to another level does from its new stack on: the frame is pushed, CS:EIP is loaded, and the flags are changed
(R439, R441, R443). -/
def enterOnStack (g : Desc) (c : Found) (cs : Word) (level : BitVec 2) (w : Width) (frame : List DWord) : Op Unit := do
  pushAllOf w frame
  installCode c cs level g.gateOffset
  updateFlags fun f => f.enter g.isInterruptGate

theorem enterOnStack_of_can {g : Desc} {c : Found} {cs : Word} {level : BitVec 2} {w : Width} {frame : List DWord} {p u : State}
    (hpush : CanPushAll w frame p) (hu : setAccessed c (pushedAll w frame p) = .ok () u) :
    enterOnStack g c cs level w frame p =
      .ok () { u.withCode c cs level g.gateOffset with flags := p.flags.enter g.isInterruptGate } := by
  have hflags : (u.withCode c cs level g.gateOffset).flags = p.flags := (setAccessed_flags hu).trans (pushedAll_flags ..)
  unfold enterOnStack
  rw [bind_of_ok (pushAllOf_of_can hpush), bind_of_ok (installCode_of_accessed hu cs level _), updateFlags_run, hflags]

/-- The frame of a delivery to an inner level, the old stack first (R439). -/
def innerFrame (s : State) (err : Option Word) (ret : DWord) : List DWord :=
  [s.selD .ss, s.gpr.esp, s.flags.image, s.selD .cs, ret] ++ codeValues err

/-- The frame of a delivery from V86 mode, the data-segment registers before the rest (R441). -/
def v86Frame (s : State) (err : Option Word) (ret : DWord) : List DWord :=
  [s.selD .gs, s.selD .fs, s.selD .ds, s.selD .es] ++ innerFrame s err ret

/-- The state on the stack of level 0 that a delivery from V86 mode goes to, the data-segment registers made null (R441). -/
def State.leaveV86 (s : State) (f : Found) (ss : Word) (sp : DWord) : State :=
  { s with
    flags := { s.flags with vm := false }
    cpl := 0
    gpr := { s.gpr with esp := sp }
    seg := { cs := s.seg.cs, ss := f.desc.toSeg ss, es := s.seg.es.nulled, ds := s.seg.ds.nulled, fs := s.seg.fs.nulled,
             gs := s.seg.gs.nulled } }

/-- The stack pointer that the B-bit of the new stack would cut is replaced whole (R441). -/
theorem withStack_leaveV86 (s : State) (f : Found) (ss : Word) (sp : DWord) :
    { s.withStack f ss sp 0 with
      gpr := { s.gpr with esp := sp }
      flags := { s.flags with vm := false }
      seg := { (s.seg.set .ss (f.desc.toSeg ss)) with
               es := s.seg.es.nulled, ds := s.seg.ds.nulled, fs := s.seg.fs.nulled, gs := s.seg.gs.nulled } } =
      s.leaveV86 f ss sp := by
  unfold State.withStack State.setSp State.setRegW
  cases (s.setSreg .ss (f.desc.toSeg ss)).ssz <;> rfl

section
variable {s : State} {g : Desc} {c : Found} {err : Option Word} {ret : DWord} (cs : Word)

theorem deliverInner_run : deliverInner g cs c err ret s =
    onStackOf c.desc.dpl g.gateWidth.bytes (innerFrame s err ret).length (decide (c.desc.limit.toNat < g.gateOffset.toNat))
      (fun f ss sp => update (fun x => x.withStack f ss sp c.desc.dpl) >>= fun _ =>
        enterOnStack g c cs c.desc.dpl g.gateWidth (innerFrame s err ret)) s :=
  query_id_bind_run _ s

theorem deliverV86_run : deliverV86 g cs c err ret s =
    onStackOf 0 4 (v86Frame s err ret).length (decide (c.desc.limit.toNat < g.gateOffset.toNat))
      (fun f ss sp => update (fun x => x.leaveV86 f ss sp) >>= fun _ =>
        enterOnStack g c cs 0 .w32 (v86Frame s err ret)) s := by
  unfold deliverV86
  rw [query_id_bind_run]
  simp only [withStack_leaveV86]
  rfl

/-- A delivery to an inner level whose stack, offset and frame pass ends in the handler (R439). -/
theorem deliverInner_of_innerStack {ss : Word} {sp : DWord} {f : Found} {a u : State} (hstack : InnerStack s c.desc.dpl ss sp f)
    (hroom : stackRoom .prot (f.desc.toSeg ss) g.gateWidth.bytes (innerFrame s err ret).length (spFor (f.desc.toSeg ss) sp) = true)
    (hoff : g.gateOffset.toNat ≤ c.desc.limit.toNat) (ha : setAccessed f s = .ok () a)
    (hpush : CanPushAll g.gateWidth (innerFrame s err ret) (a.withStack f ss sp c.desc.dpl))
    (hu : setAccessed c (pushedAll g.gateWidth (innerFrame s err ret) (a.withStack f ss sp c.desc.dpl)) = .ok () u) :
    deliverInner g cs c err ret s =
      .ok () { u.withCode c cs c.desc.dpl g.gateOffset with flags := s.flags.enter g.isInterruptGate } := by
  have hflags : (a.withStack f ss sp c.desc.dpl).flags = s.flags := by
    rw [← setAccessed_flags ha]
    exact State.setSp_flags ..
  rw [deliverInner_run, decide_eq_false (Nat.not_lt.mpr hoff), onStackOf_of_innerStack hstack hroom ha, ← hflags]
  exact atomically_of_ok ((update_bind_run ..).trans (enterOnStack_of_can hpush hu))

/-- A delivery from V86 mode whose stack, offset and frame pass ends in the handler (R441). -/
theorem deliverV86_of_innerStack {ss : Word} {sp : DWord} {f : Found} {a u : State} (hstack : InnerStack s 0 ss sp f)
    (hroom : stackRoom .prot (f.desc.toSeg ss) 4 (v86Frame s err ret).length (spFor (f.desc.toSeg ss) sp) = true)
    (hoff : g.gateOffset.toNat ≤ c.desc.limit.toNat) (ha : setAccessed f s = .ok () a)
    (hpush : CanPushAll .w32 (v86Frame s err ret) (a.leaveV86 f ss sp))
    (hu : setAccessed c (pushedAll .w32 (v86Frame s err ret) (a.leaveV86 f ss sp)) = .ok () u) :
    deliverV86 g cs c err ret s =
      .ok () { u.withCode c cs 0 g.gateOffset with flags := { s.flags with vm := false }.enter g.isInterruptGate } := by
  rw [deliverV86_run, decide_eq_false (Nat.not_lt.mpr hoff), onStackOf_of_innerStack hstack hroom ha, ← setAccessed_flags ha]
  exact atomically_of_ok ((update_bind_run ..).trans (enterOnStack_of_can hpush hu))

/-- A handler at another level: nonconforming code, from V86 mode through an 80386 gate to level 0, else to an inner level (R437). -/
abbrev OtherLevel (s : State) (g c : Desc) : Prop :=
  c.isConforming = false ∧ ((s.flags.vm = true ∧ g.is386 = true ∧ c.dpl = 0) ∨ (¬s.flags.vm = true ∧ c.dpl < s.cpl))

/-- Both deliveries to another level begin with the tests on its stack (R439, R441). -/
theorem enterHandler_of_otherLevel (h : OtherLevel s g c.desc) (idt : Word) :
    ∃ enter, enterHandler idt g c err ret s =
      onStackOf c.desc.dpl g.gateWidth.bytes ((if s.flags.vm = true then 9 else 5) + (codeValues err).length)
        (decide (c.desc.limit.toNat < g.gateOffset.toNat)) enter s := by
  obtain ⟨hconf, ⟨hvm, h386, hdpl⟩ | ⟨hvm, hlevel⟩⟩ := h
  · have hwidth : g.gateWidth = .w32 := if_pos h386
    have hcount : (v86Frame s err ret).length = 9 + (codeValues err).length := by
      simp only [v86Frame, innerFrame, List.length_append, List.length_cons, List.length_nil]
      omega
    rw [enterHandler_of_v86 idt hvm h386 hconf hdpl, deliverV86_run, hcount, hwidth, hdpl, if_pos hvm]
    exact ⟨_, rfl⟩
  · have hcount : (innerFrame s err ret).length = 5 + (codeValues err).length := List.length_append
    rw [enterHandler_of_inner idt (Bool.eq_false_iff.mpr hvm) hconf hlevel, deliverInner_run, hcount, if_neg hvm]
    exact ⟨_, rfl⟩

end

/-- The state that a delivery from V86 mode goes to, once an accessed bit is set: the registers are still those before (R441). -/
theorem leaveV86_of_accessed {s a : State} {f : Found} (ha : setAccessed f s = .ok () a) (ss : Word) (sp : DWord) :
    a.leaveV86 f ss sp = { a with
      flags := { s.flags with vm := false }
      cpl := 0
      gpr := { s.gpr with esp := sp }
      seg := { cs := s.seg.cs, ss := f.desc.toSeg ss, es := s.seg.es.nulled, ds := s.seg.ds.nulled, fs := s.seg.fs.nulled,
               gs := s.seg.gs.nulled } } := by
  obtain ⟨hmem, _⟩ := setAccessed_ok ha
  have hgpr : a.gpr = s.gpr := by rw [hmem]
  have hseg : a.seg = s.seg := by rw [hmem]
  rw [State.leaveV86, setAccessed_flags ha, hgpr, hseg]

/-- In V86 mode PE and VM are set (R2). -/
theorem State.mode_v86 {s : State} (h : s.mode = .v86) : s.pe = true ∧ s.flags.vm = true := by
  unfold State.mode at h
  cases hpe : s.pe <;> cases hvm : s.flags.vm <;> simp [hpe, hvm] at h
  exact ⟨rfl, rfl⟩

/-- Settles O48: the stack of the TSS passes its tests, and the frame is pushed and CS:EIP loaded on it. -/
theorem protectedEntryInnerLevel : Obligations.ProtectedEntryInnerLevel := by
  unfold Obligations.ProtectedEntryInnerLevel
  intro s n src err ret g c hgate hdpl hconf dpl w old room enter
  obtain ⟨hhandler, hoff⟩ := openHandler_of_gateVector hgate hdpl
  have hrun : deliverProt n src err ret s = enterHandler (gateCode n) g c err ret s := deliverProt_of_openHandler hhandler
  refine ⟨fun hlevel hout => ?_, fun ss sp f a u hmode hlevel hstack hroom ha hpush hu => ?_,
    fun ss sp f a u hmode h386 hzero hstack => ?_⟩
  · have hother : s.pe = true ∧ OtherLevel s g c.desc := by
      rcases hlevel with ⟨hmode, hlevel⟩ | ⟨hmode, h386, hzero⟩
      · obtain ⟨hpe, hvm⟩ := State.mode_prot hmode
        exact ⟨hpe, hconf, .inr ⟨Bool.eq_false_iff.mp hvm, hlevel⟩⟩
      · obtain ⟨hpe, hvm⟩ := State.mode_v86 hmode
        exact ⟨hpe, hconf, .inl ⟨hvm, h386, hzero⟩⟩
    obtain ⟨hpe, hother⟩ := hother
    obtain ⟨enter', henter⟩ := enterHandler_of_otherLevel (err := err) (ret := ret) hother (gateCode n)
    exact deliverOnce_of_prot_error hpe (hrun.trans (henter.trans (onStackOf_of_outside hout)))
  · obtain ⟨hpe, hvm⟩ := State.mode_prot hmode
    have hflags : { s.flags with vm := false } = s.flags := by rw [← hvm]
    have hprot := hrun.trans ((enterHandler_of_inner _ hvm hconf hlevel).trans
      (deliverInner_of_innerStack g.gateSelector hstack hroom hoff ha hpush hu))
    rw [← hflags] at hprot
    exact deliverOnce_of_prot_ok hpe hprot
  · intro frame null in0 hroom ha hpush hu
    obtain ⟨hpe, hvm⟩ := State.mode_v86 hmode
    have hwidth : w = .w32 := if_pos h386
    have hin0 : a.leaveV86 f ss sp = in0 := leaveV86_of_accessed ha ss sp
    simp only [room, hwidth] at hroom
    rw [← hin0] at hpush hu
    have hprot := hrun.trans ((enterHandler_of_v86 _ hvm h386 hconf hzero).trans
      (deliverV86_of_innerStack g.gateSelector hstack hroom hoff ha hpush hu))
    have hcs : selWithRpl g.gateSelector dpl = selWithRpl g.gateSelector 0 := congrArg _ hzero
    simp only [enter, hcs]
    exact deliverOnce_of_prot_ok hpe hprot

end Sys2Proof.Machine
end

section
/-!
PROOFS. Delivery through a task gate, and what each failing check of a delivery raises (45_interrupt_iret.md R435 to R442).
-/
namespace Sys2Proof.Machine

open Sys2Proof.Claims

/-! ### A switch to the task that a selector names (R442, R447) -/

/-- What a delivery through a task gate and a return to the task of the back link have in common: the selector must name a present TSS
of a kind in the GDT, the tasks are switched, and what follows belongs to the new task (R442, R447). -/
def toTask (sel : Word) (fits : Desc → Bool) (kind : SwitchKind) (ret : DWord) (finish : Found → Op Unit) : Op Unit := do
  let f ← lookupGdt sel (Exc.ts (selCode sel))
  raiseIf (!fits f.desc) (Exc.ts (selCode sel))
  raiseIf (!f.desc.p) (Exc.np (selCode sel))
  switchTasks f sel kind ret
  inNewTask (finish f)

section
variable {s : State} {sel : Word} {fits : Desc → Bool} {kind : SwitchKind} {ret : DWord} {finish : Found → Op Unit}

theorem toTask_of_unlisted (h : selTi sel = true ∨ s.descAddr sel = none) :
    toTask sel fits kind ret finish s = .error (Exc.ts (selCode sel)) s := by
  refine bind_of_error (x := lookupGdt sel (Exc.ts (selCode sel))) ?_
  unfold lookupGdt
  rw [raiseIf_bind_run]
  by_cases hti : selTi sel = true
  · rw [if_pos hti]
  · rw [if_neg hti, lookup_of_outside (h.resolve_left hti)]

variable {a : DWord} {d : Desc} (hti : selTi sel = false) (ha : s.descAddr sel = some a) (hd : peekDesc s a = some d)
include hti ha hd

/-- The tests on the descriptor of the new task, then the switch (R442, R447). -/
theorem toTask_of_found :
    toTask sel fits kind ret finish s =
      if fits d = false then .error (Exc.ts (selCode sel)) s
      else if d.p = false then .error (Exc.np (selCode sel)) s
      else (switchTasks ⟨a, d⟩ sel kind ret >>= fun _ => inNewTask (finish ⟨a, d⟩)) s := by
  have hlookup : lookupGdt sel (Exc.ts (selCode sel)) s = .ok ⟨a, d⟩ s := by
    unfold lookupGdt
    rw [hti, raiseIf_false_bind_run, lookup_of_found ha hd]
  refine (bind_of_ok hlookup).trans ?_
  rw [raiseIf_iff_bind_run (Bool.not_eq_true' _).to_iff, raiseIf_iff_bind_run (Bool.not_eq_true' _).to_iff]

theorem toTask_of_unfit (hno : fits d = false) : toTask sel fits kind ret finish s = .error (Exc.ts (selCode sel)) s := by
  rw [toTask_of_found hti ha hd, if_pos hno]

variable (hfits : fits d = true)
include hfits

theorem toTask_of_absent (hp : d.p = false) : toTask sel fits kind ret finish s = .error (Exc.np (selCode sel)) s := by
  rw [toTask_of_found hti ha hd, if_neg (ne_false_of_eq_true hfits), if_pos hp]

theorem toTask_of_present (hp : d.p = true) :
    toTask sel fits kind ret finish s = (switchTasks ⟨a, d⟩ sel kind ret >>= fun _ => inNewTask (finish ⟨a, d⟩)) s := by
  rw [toTask_of_found hti ha hd, if_neg (ne_false_of_eq_true hfits), if_neg (ne_false_of_eq_true hp)]

end

theorem inNewTask_of_ok {x : Op Unit} {s t : State} (h : x s = .ok () t) : inNewTask x s = .ok () t := by
  simp only [inNewTask, h]

/-- What is raised in the new task is marked as its own (R545). -/
theorem inNewTask_of_error {x : Op Unit} {s t : State} {e : Exc} (h : x s = .error e t) :
    inNewTask x s = .error { e with inNewTask := true } t := by
  simp only [inNewTask, h]

/-! ### The task gate (R442) -/

theorem deliverTask_eq (g : Desc) (err : Option Word) (ret : DWord) : deliverTask g err ret =
    toTask g.gateSelector Desc.isAvailableTss .nest ret fun f => finishTaskGate f.desc.is386 err := rfl

section
variable {s : State} {n : Nat} {src : Source} {err : Option Word} {ret : DWord} {g : Desc}

theorem deliverProt_of_taskGate (hlimit : 8 * n + 7 ≤ s.idtr.limit.toNat)
    (hg : peekDesc s (s.idtr.base + BitVec.ofNat 32 (8 * n)) = some g) (htask : g.isSystem 5 = true) (hopen : ¬GateClosed s src g)
    (hp : g.p = true) : deliverProt n src err ret s =
      toTask g.gateSelector Desc.isAvailableTss .nest ret (fun f => finishTaskGate f.desc.is386 err) s := by
  rw [deliverProt_of_entry hlimit hg, htask, Bool.or_true, if_neg Bool.noConfusion, if_neg hopen,
    if_neg (ne_false_of_eq_true hp), if_pos rfl, deliverTask_eq]

/-- An error code without room on the new task's stack (R442). -/
theorem finishTaskGate_of_no_room {d : Desc} (h : s.hasRoom d.gateWidth.bytes (codeValues err).length = false) :
    finishTaskGate d.is386 err s = .error (Exc.ss 0) s := by
  have hcheck : checkPushes d.gateWidth.bytes (codeValues err).length s = .error (Exc.ss 0) s := by
    rw [checkPushes_run, h, if_neg Bool.false_ne_true]
  unfold finishTaskGate
  rw [query_id_bind_run]
  exact bind_of_error hcheck

/-- An error code that can be pushed stays pushed whatever the test of EIP says (R442). -/
theorem finishTaskGate_of_can {d : Desc} (hroom : s.hasRoom d.gateWidth.bytes (codeValues err).length = true)
    (hpush : CanPushAll d.gateWidth (codeValues err) s) :
    finishTaskGate d.is386 err s =
      if s.seg.cs.limit.toNat < s.eip.toNat then .error (Exc.gp 0) (pushedAll d.gateWidth (codeValues err) s)
      else .ok () (pushedAll d.gateWidth (codeValues err) s) := by
  unfold finishTaskGate
  rw [query_id_bind_run]
  refine (bind_of_ok (checkPushes_of_hasRoom hroom)).trans ((bind_of_ok (atomically_of_ok (pushAllOf_of_can hpush))).trans ?_)
  rw [raiseIf_run]
  simp only [decide_eq_true_iff]

end

/-- What a delivery comes to that switches to a task: the exceptions of the switch, and those of the error code and of EIP in the new
task (R442). -/
theorem delivery_of_task {s : State} {n : Nat} {src : Source} {err : Option Word} {ret : DWord} {new : Found} {sel : Word}
    (hpe : s.pe = true) (hrun : deliverProt n src err ret s =
      (switchTasks new sel .nest ret >>= fun _ => inNewTask (finishTaskGate new.desc.is386 err)) s) :
    let go := deliverOnce n src err ret s
    (∀ e u, switchTasks new sel .nest ret s = .error e u → go = .error e u) ∧
    (∀ t, switchTasks new sel .nest ret s = .ok () t →
      let w := new.desc.gateWidth
      let u := pushedAll w (codeValues err) t
      (t.hasRoom w.bytes (codeValues err).length = false → go = .error { Exc.ss 0 with inNewTask := true } t) ∧
      (t.hasRoom w.bytes (codeValues err).length = true → CanPushAll w (codeValues err) t →
        go = if t.seg.cs.limit.toNat < t.eip.toNat then .error { Exc.gp 0 with inNewTask := true } u
          else .ok () { u with run := .running })) := by
  intro go
  refine ⟨fun e u hswitch => deliverOnce_of_prot_error hpe (hrun.trans (bind_of_error hswitch)), fun t hswitch => ?_⟩
  intro w u
  have hnew := hrun.trans (bind_of_ok hswitch)
  refine ⟨fun hroom => deliverOnce_of_prot_error hpe (hnew.trans (inNewTask_of_error (finishTaskGate_of_no_room hroom))),
    fun hroom hpush => ?_⟩
  have hfinish := finishTaskGate_of_can hroom hpush
  by_cases hbeyond : t.seg.cs.limit.toNat < t.eip.toNat
  · rw [if_pos hbeyond]
    exact deliverOnce_of_prot_error hpe (hnew.trans (inNewTask_of_error (hfinish.trans (if_pos hbeyond))))
  · rw [if_neg hbeyond]
    exact deliverOnce_of_prot_ok hpe (hnew.trans (inNewTask_of_ok (hfinish.trans (if_neg hbeyond))))

/-! ### The checks, one after another (R435 to R442) -/

/-- What the checks on the stack of another level raise (R439, R441). -/
theorem refusals_of_onStackOf {s : State} {level : BitVec 2} {w count : Nat} {beyond : Prop} [Decidable beyond]
    {enter : Found → Word → DWord → Op Unit} {x : Op Unit} (hx : x s = onStackOf level w count (decide beyond) enter s) {ss : Word}
    {sp : DWord} (hpointer : InnerPointer s level ss sp) :
    (selNull ss = true → x s = .error (Exc.gp 0) s) ∧
    (selNull ss = false → s.descAddr ss = none → x s = .error (Exc.ts (selCode ss)) s) ∧
    (∀ b f, selNull ss = false → s.descAddr ss = some b → peekDesc s b = some f →
      (¬FitsStack level ss f → x s = .error (Exc.ts (selCode ss)) s) ∧
      (FitsStack level ss f → f.p = false → x s = .error (Exc.ss (selCode ss)) s) ∧
      (FitsStack level ss f → f.p = true → stackRoom .prot (f.toSeg ss) w count (spFor (f.toSeg ss) sp) = false →
        x s = .error (Exc.ss 0) s) ∧
      (FitsStack level ss f → f.p = true → stackRoom .prot (f.toSeg ss) w count (spFor (f.toSeg ss) sp) = true → beyond →
        x s = .error (Exc.gp 0) s)) := by
  rw [hx]
  refine ⟨onStackOf_of_null hpointer, onStackOf_of_unlisted hpointer, fun b f hnull hb hf => ⟨onStackOf_of_unfit hpointer hnull hb hf,
    onStackOf_of_absent hpointer hnull hb hf, onStackOf_of_no_room hpointer hnull hb hf, fun hfits hp hroom hbeyond => ?_⟩⟩
  rw [decide_eq_true hbeyond]
  exact onStackOf_of_beyond hpointer hnull hb hf hfits hp hroom

/-- Settles O49: a delivery runs through its checks in order, and a failing one leaves the state alone; past those of a task gate it is
a task switch. -/
theorem gateChecksOfDelivery : Obligations.GateChecksOfDelivery := by
  unfold Obligations.GateChecksOfDelivery
  intro s n src err ret g hpe idt go cs found gate task
  have raises {e : Exc} (h : deliverProt n src err ret s = .error e s) : go = .error e s := deliverOnce_of_prot_error hpe h
  refine ⟨fun hbeyond => raises (deliverProt_of_beyond_table hbeyond), fun hlimit hfound => ?_⟩
  have hentry := deliverProt_of_entry (src := src) (err := err) (ret := ret) hlimit hfound
  have hopen (h : gate) : OpenGate s n src g := ⟨hlimit, hfound, h⟩
  have hgate (h : gate) : deliverProt n src err ret s = deliverGate idt g err ret s := deliverProt_of_openGate (hopen h)
  have htask (h : task) : deliverProt n src err ret s =
      toTask cs Desc.isAvailableTss .nest ret (fun f => finishTaskGate f.desc.is386 err) s := by
    obtain ⟨hkind, hopen, hp⟩ := h
    exact deliverProt_of_taskGate hlimit hfound hkind hopen hp
  refine ⟨fun hkind => raises (hentry.trans (if_pos hkind)), fun hkind hsrc hdpl => ?_, fun hkind hopen hp => ?_,
    fun h hnull => raises ((hgate h).trans (deliverGate_of_null hnull idt)),
    fun h hnull hout => raises ((hgate h).trans (deliverGate_of_outside hnull hout idt)), fun a d h hnull ha hd => ?handler,
    fun h hunlisted => raises ((htask h).trans (toTask_of_unlisted hunlisted)), fun a d h hti ha hd => ?switch⟩
  · exact raises (hentry.trans ((if_neg (ne_false_of_eq_true hkind)).trans (if_pos ⟨hsrc, hdpl⟩)))
  · exact raises (hentry.trans ((if_neg (ne_false_of_eq_true hkind)).trans ((if_neg hopen).trans (if_pos hp))))
  case handler =>
    have hcode := (hgate h).trans (deliverGate_of_found (c := ⟨a, d⟩) hnull ha hd idt)
    refine ⟨fun hno => raises (hcode.trans (if_pos hno)),
      fun hyes hp => raises (hcode.trans ((if_neg (ne_false_of_eq_true hyes)).trans (if_pos hp))), fun hyes hp => ?_⟩
    intro vm w beyond codes same inner
    have hrun : deliverProt n src err ret s = enterHandler idt g ⟨a, d⟩ err ret s :=
      deliverProt_of_openHandler ⟨hopen h, hnull, ha, hd, hyes, hp⟩
    have hsame (hs : same) : deliverProt n src err ret s = deliverSame g cs ⟨a, d⟩ err ret s :=
      hrun.trans (enterHandler_of_same idt (Bool.eq_false_iff.mpr hs.1) hs.2)
    refine ⟨fun hvm h286 => raises (hrun.trans (enterHandler_of_v86_gate286 idt hvm h286)),
      fun hvm h386 hno => raises (hrun.trans (enterHandler_of_v86_refused idt hvm h386 hno)),
      fun hvm hconf hlevel => raises (hrun.trans (enterHandler_of_outer idt (Bool.eq_false_iff.mpr hvm) hconf hlevel)),
      fun hs hroom => raises ((hsame hs).trans (deliverSame_of_no_room hroom cs)),
      fun hs hroom hbeyond => raises ((hsame hs).trans (deliverSame_of_beyond (c := ⟨a, d⟩) hroom hbeyond cs)),
      fun hinner hout => ?_, fun ss sp hinner hpointer => ?_⟩
    · obtain ⟨enter, henter⟩ := enterHandler_of_otherLevel (c := ⟨a, d⟩) hinner idt
      exact raises (hrun.trans (henter.trans (onStackOf_of_outside hout)))
    · obtain ⟨enter, henter⟩ := enterHandler_of_otherLevel (c := ⟨a, d⟩) hinner idt
      obtain ⟨hnone, hunlisted, hfound⟩ := refusals_of_onStackOf (hrun.trans henter) hpointer
      refine ⟨fun h => raises (hnone h), fun h hout => raises (hunlisted h hout), fun b f h hb hf => ?_⟩
      obtain ⟨hunfit, habsent, hshort, hbeyond⟩ := hfound b f h hb hf
      exact ⟨fun hno => raises (hunfit hno), fun hfits hpf => raises (habsent hfits hpf),
        fun hfits hpf hroom => raises (hshort hfits hpf hroom), fun hfits hpf hroom hoff => raises (hbeyond hfits hpf hroom hoff)⟩
  case switch =>
    exact ⟨fun hno => raises ((htask h).trans (toTask_of_unfit hti ha hd hno)),
      fun hfits hp => raises ((htask h).trans (toTask_of_absent hti ha hd hfits hp)),
      fun hfits hp => delivery_of_task hpe ((htask h).trans (toTask_of_present hti ha hd hfits hp))⟩

end Sys2Proof.Machine
end

section
/-!
PROOFS. IRET in protected mode (45_interrupt_iret.md R440, R444 to R448; 44_control_transfer.md R418).
-/
namespace Sys2Proof.Machine

open Sys2Proof.Claims

theorem interruptReturn_of_prot {s : State} (h : s.mode = .prot) : interruptReturn s = iretProt s := by
  have hpass : s.mode ≠ .v86 ∨ s.flags.iopl = 3 := .inl (by rw [h]; decide)
  unfold interruptReturn
  rw [bind_of_ok (checkV86Iopl_passes hpass), query_bind_run, h]

/-! ### The frame (R444) -/

theorem iretProt_of_refused {s : State} (hnt : s.flags.nt = false) {e : Exc}
    (h : segFault s.mode .ss s.seg.ss s.sp (s.osz.bytes + 2) .read = some e) : iretProt s = .error e s := by
  unfold iretProt
  rw [query_id_bind_run, hnt, if_neg Bool.false_ne_true]
  exact bind_of_error (checkStackRead_of_refused h)

/-- A frame that leads to V86 mode: of 32-bit operand size, at CPL 0, with VM set in its image (R444, R446). -/
abbrev FrameOfV86 (s : State) : Prop :=
  s.osz = .w32 ∧ s.cpl = 0 ∧ (s.loaded .ss (s.stackOff 8) 4).getLsbD 17 = true

/-- What IRET does once it has read the selector of the frame and knows whether it leads to V86 mode (R444). -/
def returnTo (s : State) (rs : Word) (v86 : Bool) : Op Unit :=
  if v86 then iretV86
  else do
    raiseIf (decide (selRpl rs < s.cpl)) (Exc.gp (selCode rs))
    if selRpl rs = s.cpl then iretSame s.osz rs else iretOuter s.osz rs

/-- The frame is read as far as its image, where that can lead to V86 mode (R444). -/
theorem iretProt_of_frame {s : State} (hnt : s.flags.nt = false)
    (hframe : segFault s.mode .ss s.seg.ss s.sp (s.osz.bytes + 2) .read = none)
    (hsel : Allowed s .read .ss (s.stackOff s.osz.bytes) 2)
    (himg : s.osz = .w32 → s.cpl = 0 → Allowed s .read .ss (s.stackOff 8) 4) :
    iretProt s = returnTo s (returnSelector s) (decide (FrameOfV86 s)) s := by
  unfold iretProt
  rw [query_id_bind_run, hnt, if_neg Bool.false_ne_true]
  refine (bind_of_ok (checkStackRead_of_inside hframe)).trans ((bind_of_ok (stackRead_of_allowed hsel)).trans ?_)
  by_cases h : s.osz = .w32 ∧ s.cpl = 0
  · obtain ⟨hsize, hcpl⟩ := h
    have hread : (s.osz = .w32 && s.cpl == 0) = true := by simp [hsize, hcpl]
    have hv86 : decide (FrameOfV86 s) = (s.loaded .ss (s.stackOff 8) 4).getLsbD 17 := by simp [FrameOfV86, hsize, hcpl]
    rw [if_pos hread, bind_of_ok (stackRead_of_allowed (himg hsize hcpl)), hv86]
    rfl
  · have hread : ¬(s.osz = .w32 && s.cpl == 0) = true := by simpa using h
    have hv86 : decide (FrameOfV86 s) = false := decide_eq_false fun ⟨hsize, hcpl, _⟩ => h ⟨hsize, hcpl⟩
    rw [if_neg hread, pure_bind_run, hv86]
    rfl

/-- Outside V86 mode the RPL of the selector decides: no inner level, the same one, or an outer one (R444). -/
theorem iretProt_of_level {s : State} (hnt : s.flags.nt = false)
    (hframe : segFault s.mode .ss s.seg.ss s.sp (s.osz.bytes + 2) .read = none)
    (hsel : Allowed s .read .ss (s.stackOff s.osz.bytes) 2)
    (himg : s.osz = .w32 → s.cpl = 0 → Allowed s .read .ss (s.stackOff 8) 4) (hno : ¬FrameOfV86 s) :
    iretProt s =
      if selRpl (returnSelector s) < s.cpl then .error (Exc.gp (selCode (returnSelector s))) s
      else if selRpl (returnSelector s) = s.cpl then iretSame s.osz (returnSelector s) s
      else iretOuter s.osz (returnSelector s) s := by
  rw [iretProt_of_frame hnt hframe hsel himg, decide_eq_false hno, returnTo, if_neg Bool.false_ne_true,
    raiseIf_iff_bind_run decide_eq_true_iff, ite_run]

/-! ### To the same level and to an outer one (R440, R445, R448) -/

/-- The flags that IRET loads in protected mode, with its tests as propositions (R448). -/
theorem Flags.loadIret_prot (f : Flags) (w : Width) (cpl : BitVec 2) (v : DWord) :
    f.loadIret w true cpl v = { Flags.ofImage v with
      iopl := if cpl = 0 then (Flags.ofImage v).iopl else f.iopl
      ifl := if cpl ≤ f.iopl then (Flags.ofImage v).ifl else f.ifl
      rf := if w = .w32 then (Flags.ofImage v).rf else f.rf
      vm := f.vm } := by
  rw [Flags.loadIret_eq]
  simp only [Bool.true_eq_false, false_or]

theorem setAccessed_cpl {f : Found} {s u : State} (h : setAccessed f s = .ok () u) : u.cpl = s.cpl := by
  rw [(setAccessed_ok h).1]

/-- A return to the same level loads CS:EIP and the flags and drops the frame (R445). -/
theorem iretSame_of_returnCode {s u : State} {w : Width} {rs : Word} {a : DWord} {d : Desc}
    (hframe : segFault s.mode .ss s.seg.ss s.sp (3 * w.bytes) .read = none) (hcode : ReturnCode s rs s.cpl a d)
    (hoff : Allowed s .read .ss (s.stackOff 0) w.bytes)
    (hlimit : (s.loaded .ss (s.stackOff 0) w.bytes).toNat ≤ d.limit.toNat)
    (himg : Allowed s .read .ss (s.stackOff (2 * w.bytes)) w.bytes) (hu : setAccessed ⟨a, d⟩ s = .ok () u) :
    iretSame w rs s = .ok () { ({ u.setSreg .cs (d.toSeg rs) with eip := s.loaded .ss (s.stackOff 0) w.bytes } : State).setSp
        (s.sp + BitVec.ofNat 32 (3 * w.bytes)) with
      nmiBlocked := false
      flags := s.flags.loadIret w true s.cpl (s.loaded .ss (s.stackOff (2 * w.bytes)) w.bytes) } := by
  have hinside := decide_eq_false (Nat.not_lt.mpr hlimit)
  unfold iretSame
  rw [query_id_bind_run, bind_of_ok (checkStackRead_of_inside hframe), bind_of_ok (checkReturnCode_of_returnCode hcode),
    bind_of_ok (stackRead_of_allowed hoff), hinside, raiseIf_false_bind_run, bind_of_ok (stackRead_of_allowed himg),
    bind_of_ok hu, update_run, setAccessed_sp hu, setAccessed_flags hu, setAccessed_cpl hu, State.withCode, selWithRpl_selRpl]

/-- A return to an outer level loads CS:EIP, the stack and the flags (R418, R440). -/
theorem iretOuter_of_segments {s x u : State} {w : Width} {rs nss : Word} {a b : DWord} {d f : Desc}
    (hnss : (s.loaded .ss (s.stackOff (4 * w.bytes)) 2).setWidth 16 = nss)
    (hframe : segFault s.mode .ss s.seg.ss s.sp (5 * w.bytes) .read = none) (hcode : ReturnCode s rs (selRpl rs) a d)
    (hsp : Allowed s .read .ss (s.stackOff (3 * w.bytes)) w.bytes) (hss : Allowed s .read .ss (s.stackOff (4 * w.bytes)) 2)
    (hstack : ReturnStack s nss (selRpl rs) b f) (hoff : Allowed s .read .ss (s.stackOff 0) w.bytes)
    (hlimit : (s.loaded .ss (s.stackOff 0) w.bytes).toNat ≤ d.limit.toNat)
    (himg : Allowed s .read .ss (s.stackOff (2 * w.bytes)) w.bytes) (hx : setAccessed ⟨a, d⟩ s = .ok () x)
    (hu : setAccessed ⟨b, f⟩ x = .ok () u) :
    iretOuter w rs s = .ok () { returnedOut u (selRpl rs) (d.toSeg rs) (s.loaded .ss (s.stackOff 0) w.bytes) (f.toSeg nss)
        (s.loaded .ss (s.stackOff (3 * w.bytes)) w.bytes) with
      nmiBlocked := false
      flags := s.flags.loadIret w true s.cpl (s.loaded .ss (s.stackOff (2 * w.bytes)) w.bytes) } := by
  have hinside := decide_eq_false (Nat.not_lt.mpr hlimit)
  have hflags : u.flags = s.flags := (setAccessed_flags hu).trans (setAccessed_flags hx)
  have hcpl : u.cpl = s.cpl := (setAccessed_cpl hu).trans (setAccessed_cpl hx)
  subst hnss
  unfold iretOuter
  rw [bind_of_ok (checkStackRead_of_inside hframe), bind_of_ok (checkReturnCode_of_returnCode hcode),
    bind_of_ok (stackRead_of_allowed hsp), bind_of_ok (stackRead_of_allowed hss),
    bind_of_ok (checkReturnStack_of_returnStack hstack), bind_of_ok (stackRead_of_allowed hoff), hinside, raiseIf_false_bind_run,
    bind_of_ok (stackRead_of_allowed himg), bind_of_ok hx, bind_of_ok hu, update_run, hflags, hcpl,
    ← dropSegments_withStack_withCode u ⟨a, d⟩ ⟨b, f⟩]
  rfl

/-! ### To V86 mode (R446) -/

/-- A read of the stack that answers reads what lies there (R100). -/
theorem loaded_of_stackRead {s : State} {k n : Nat} {v : DWord} (h : stackRead k n s = .ok v s) :
    v = s.loaded .ss (s.stackOff k) n := by
  unfold stackRead memRead at h
  rw [query_id_bind_run] at h
  rcases (silent_checkSeg .ss (s.stackOff k) n .read).cases s with ⟨_, hcheck⟩ | ⟨e, hcheck⟩
  · rw [bind_of_ok hcheck, query_id_bind_run, linReadAs] at h
    rcases (silent_translateRange .read s.user n (s.linear .ss (s.stackOff k))).cases s with ⟨addrs, haddrs⟩ | ⟨e, haddrs⟩
    · rw [bind_of_ok haddrs] at h
      cases h
      rw [State.loaded, State.range, haddrs]
      rfl
    · rw [bind_of_error haddrs] at h
      cases h
  · rw [bind_of_error hcheck] at h
    cases h

/-- What comes of reading items of the stack one after another: the exception of the first that is refused, or a state that is loaded
from them all (R446). -/
def readsOr (s : State) (reads : List (Nat × Nat)) (t : State) : EStateM.Result Exc State Unit :=
  match firstRefused s reads with
  | some e => .error e s
  | none => .ok () t

/-- One item more to read. -/
theorem stackRead_bind_readsOr {s t : State} {k n : Nat} {rest : List (Nat × Nat)} {f : DWord → Op Unit}
    (h : f (s.loaded .ss (s.stackOff k) n) s = readsOr s rest t) : (stackRead k n >>= f) s = readsOr s ((k, n) :: rest) t := by
  rcases (silent_stackRead k n).cases s with ⟨v, hv⟩ | ⟨e, he⟩
  · rw [bind_of_ok hv, loaded_of_stackRead hv, h, readsOr, readsOr, firstRefused, hv]
  · rw [bind_of_error he, readsOr, firstRefused, he]

theorem firstRefused_of_allowed {s : State} {k n : Nat} (h : Allowed s .read .ss (s.stackOff k) n) (rest : List (Nat × Nat)) :
    firstRefused s ((k, n) :: rest) = firstRefused s rest := by
  rw [firstRefused, stackRead_of_allowed h]

/-- The state in V86 mode that the frame on the stack describes (R446). -/
def State.inV86 (s : State) : State :=
  let item := fun k n => s.loaded .ss (s.stackOff k) n
  let seg86 := fun k => v86Segment ((item k 2).setWidth 16)
  { s with
    flags := Flags.ofImage (item 8 4)
    eip := item 0 4 &&& 0xFFFF#32
    gpr := { s.gpr with esp := item 12 4 }
    cpl := 3
    nmiBlocked := false
    seg := { cs := seg86 4, ss := seg86 16, es := seg86 20, ds := seg86 24, fs := seg86 28, gs := seg86 32 } }

/-- The items of a V86 frame after EFLAGS and CS, in the order in which they are read (R446). -/
def v86Items : List (Nat × Nat) := [(0, 4), (20, 2), (24, 2), (28, 2), (32, 2), (16, 2), (12, 4)]

/-- The whole frame is read before anything is loaded (R446). -/
theorem iretV86_of_frame {s : State} (hframe : segFault s.mode .ss s.seg.ss s.sp 36 .read = none)
    (himg : Allowed s .read .ss (s.stackOff 8) 4) (hcs : Allowed s .read .ss (s.stackOff 4) 2) :
    iretV86 s = readsOr s v86Items s.inV86 := by
  unfold iretV86
  rw [bind_of_ok (checkStackRead_of_inside hframe), bind_of_ok (stackRead_of_allowed himg)]
  refine stackRead_bind_readsOr ?_
  rw [bind_of_ok (stackRead_of_allowed hcs)]
  exact stackRead_bind_readsOr <| stackRead_bind_readsOr <| stackRead_bind_readsOr <| stackRead_bind_readsOr <|
    stackRead_bind_readsOr <| stackRead_bind_readsOr rfl

theorem iretProt_of_v86 {s : State} (hnt : s.flags.nt = false) (hyes : FrameOfV86 s)
    (hframe : segFault s.mode .ss s.seg.ss s.sp 6 .read = none) (hwhole : segFault s.mode .ss s.seg.ss s.sp 36 .read = none)
    (hcs : Allowed s .read .ss (s.stackOff 4) 2) (himg : Allowed s .read .ss (s.stackOff 8) 4) :
    iretProt s = readsOr s v86Items s.inV86 := by
  have hbytes : s.osz.bytes = 4 := congrArg Width.bytes hyes.1
  rw [iretProt_of_frame hnt (hbytes ▸ hframe) (hbytes ▸ hcs) fun _ _ => himg, decide_eq_true hyes]
  exact iretV86_of_frame hwhole himg hcs

theorem complete_readsOr {x : Op Unit} {s t : State} {reads : List (Nat × Nat)} (h : x s = readsOr s reads t) :
    complete x s = .next (match firstRefused s reads with
      | some e => s.raise e
      | none => t) := by
  unfold readsOr at h
  cases hfirst : firstRefused s reads with
  | some e =>
    rw [hfirst] at h
    exact complete_of_error h
  | none =>
    rw [hfirst] at h
    exact complete_of_ok h

/-! ### To the task of the back link (R447) -/

/-- The last test of a return to another task, in the new one (R447). -/
def checkNewEip : Op Unit := do
  let s ← query id
  raiseIf (decide (s.seg.cs.limit.toNat < s.eip.toNat)) (Exc.gp 0)

theorem iretTask_of_backLink {s : State} {v : DWord} (h : peek s s.tr.base 2 = some v) :
    iretTask s = toTask (v.setWidth 16) Desc.isBusyTss .iret s.eip (fun _ => checkNewEip) s := by
  unfold iretTask
  rw [query_id_bind_run, bind_of_ok (linRead_of_peek h)]
  rfl

theorem iretProt_of_nested {s : State} (h : s.flags.nt = true) : iretProt s = iretTask s := by
  unfold iretProt
  rw [query_id_bind_run, h, if_pos rfl]

/-- Which task an exception belongs to has no part in what raising it does. -/
theorem raise_inNewTask (s : State) (e : Exc) (b : Bool) : s.raise { e with inNewTask := b } = s.raise e := rfl

/-- A switch with the test of EIP after it comes to what the statements say of a switch of tasks (R447, R545). -/
theorem switchOutcome_of_run {x : Op Unit} {s : State} {new : Found} {sel : Word} {kind : SwitchKind}
    (hx : x s = (switchTasks new sel kind s.eip >>= fun _ => inNewTask checkNewEip) s) :
    SwitchOutcome s new sel kind (Exc.gp 0) (complete x s) := by
  refine ⟨fun e u hswitch => complete_of_error (hx.trans (bind_of_error hswitch)), fun t hswitch => ?_⟩
  have hnew := hx.trans (bind_of_ok hswitch)
  have hcheck : checkNewEip t = if t.seg.cs.limit.toNat < t.eip.toNat then .error (Exc.gp 0) t else .ok () t := by
    unfold checkNewEip
    rw [query_id_bind_run, raiseIf_run]
    simp only [decide_eq_true_iff]
  by_cases hbeyond : t.seg.cs.limit.toNat < t.eip.toNat
  · rw [if_pos hbeyond, complete_of_error (hnew.trans (inNewTask_of_error (hcheck.trans (if_pos hbeyond)))), raise_inNewTask]
  · rw [if_neg hbeyond]
    exact complete_of_ok (hnew.trans (inNewTask_of_ok (hcheck.trans (if_neg hbeyond))))

/-- Settles O51: NT, then the image and the RPL of the selector decide between four returns, each of which reads its frame and loads
what it says. -/
theorem protectedInterruptReturn : Obligations.ProtectedInterruptReturn := by
  unfold Obligations.ProtectedInterruptReturn
  refine ⟨fun s hmode hnt => ?frame, fun s v hmode hnt hlink => ?task⟩
  case frame =>
    intro w slot at' ok frame whole rs v86 new loaded seg86 in86
    have hprot : interruptReturn s = iretProt s := interruptReturn_of_prot hmode
    have hlevel (hno : ¬v86) (hframe : whole (w.bytes + 2)) (hsel : ok w.bytes 2) (himg : w = .w32 → s.cpl = 0 → ok 8 4) :=
      hprot.trans (iretProt_of_level hnt hframe hsel himg hno)
    have hto86 (hyes : v86) (hframe : whole 6) (hwhole : whole 36) (hcs : ok 4 2) (himg : ok 8 4) :=
      hprot.trans (iretProt_of_v86 hnt hyes hframe hwhole hcs himg)
    refine ⟨fun e he => complete_of_error (hprot.trans (iretProt_of_refused hnt he)), fun hno hframe hsel himg hinner => ?_,
      fun a d u hno hframe hwhole hsel hoff hflags himg hsame hcode hlimit hu => ?_, fun a d b f x u => ?_,
      fun hyes hframe hwhole heip hcs himg hesp hss hes hds hfs hgs => ?_, fun hyes hframe hwhole hcs himg => ?_⟩
    · exact complete_of_error ((hlevel hno hframe hsel himg).trans (if_pos hinner))
    · have hnot : ¬selRpl rs < s.cpl := hsame ▸ BitVec.lt_irrefl _
      have hrun := iretSame_of_returnCode hwhole hcode hoff hlimit hflags hu
      rw [Flags.loadIret_prot] at hrun
      exact complete_of_ok ((hlevel hno hframe hsel himg).trans ((if_neg hnot).trans ((if_pos hsame).trans hrun)))
    · intro nss hno hframe hsel himg houter hwhole hcode hsp hss hstack hoff hlimit hflags hx hu
      have hnot : ¬selRpl rs < s.cpl := BitVec.lt_asymm houter
      have hother : ¬selRpl rs = s.cpl := fun he => BitVec.lt_irrefl _ (he ▸ houter)
      have hrun := iretOuter_of_segments rfl hwhole hcode hsp hss hstack hoff hlimit hflags hx hu
      rw [Flags.loadIret_prot] at hrun
      exact complete_of_ok ((hlevel hno hframe hsel himg).trans ((if_neg hnot).trans ((if_neg hother).trans hrun)))
    · have hnone : firstRefused s v86Items = none := by
        rw [v86Items, firstRefused_of_allowed heip, firstRefused_of_allowed hes, firstRefused_of_allowed hds,
          firstRefused_of_allowed hfs, firstRefused_of_allowed hgs, firstRefused_of_allowed hss, firstRefused_of_allowed hesp,
          firstRefused]
      have hrun := complete_readsOr (hto86 hyes hframe hwhole hcs himg)
      rw [hnone] at hrun
      exact hrun
    · exact complete_readsOr (hto86 hyes hframe hwhole hcs himg)
  case task =>
    intro bl go
    have hrun : interruptReturn s = toTask bl Desc.isBusyTss .iret s.eip (fun _ => checkNewEip) s :=
      (interruptReturn_of_prot hmode).trans ((iretProt_of_nested hnt).trans (iretTask_of_backLink hlink))
    refine ⟨fun hunlisted => complete_of_error (hrun.trans (toTask_of_unlisted hunlisted)), fun a d hti ha hd => ?_⟩
    exact ⟨fun hno => complete_of_error (hrun.trans (toTask_of_unfit hti ha hd hno)),
      fun hfits hp => complete_of_error (hrun.trans (toTask_of_absent hti ha hd hfits hp)),
      fun hfits hp => switchOutcome_of_run (hrun.trans (toTask_of_present hti ha hd hfits hp))⟩

end Sys2Proof.Machine
end

section
/-!
PROOFS. The tests in front of the system instructions and their operands (46_system.md R450, 30_encoding.md R174, R538).
-/
namespace Sys2Proof.Machine

open Sys2Proof.Claims

/-! ### The tests of mode and privilege (R174, R450) -/

section
variable {s : State}

/-- Level 0 and real-address mode pass the test of the privileged instructions (R450). -/
theorem checkPrivileged_of_allowed (h : s.pe = false ∨ s.cpl = 0) : checkPrivileged s = .ok () s :=
  (checkPrivileged_run s).trans (if_pos h)

theorem checkPrivileged_of_denied (hpe : s.pe = true) (hcpl : s.cpl ≠ 0) : checkPrivileged s = .error (Exc.gp 0) s :=
  (checkPrivileged_run s).trans (if_neg (not_or.mpr ⟨ne_false_of_eq_true hpe, hcpl⟩))

theorem checkRecognized_of_prot (h : s.mode = .prot) : checkRecognized s = .ok () s := by
  unfold checkRecognized
  rw [query_id_bind_run, h]
  rfl

/-- Outside protected mode the instructions of class A are not recognized (R174). -/
theorem checkRecognized_of_not_prot (h : s.mode ≠ .prot) : checkRecognized s = .error Exc.ud s := by
  have htest : (s.mode != .prot) = true := bne_iff_ne.mpr h
  unfold checkRecognized
  rw [query_id_bind_run, htest, raiseIf_true_run]

end

/-! ### Word operands -/

section
variable {s : State} {rm : RM Reg}

/-- The word that a system instruction reads is the low half of the operand's value. -/
theorem readRm16_of_readable (h : Readable s .word (locV s rm)) :
    readRm16 rm s = .ok ((s.value .word (locV s rm)).extractLsb' 0 16) s := by
  unfold readRm16
  rw [query_id_bind_run, bind_of_ok (readLoc_of_readable h), BitVec.setWidth_eq_extractLsb' (by decide)]
  rfl

theorem writeRm16_of_writable (h : Writable s .word (locV s rm)) (v : Word) :
    writeRm16 rm v s = .ok () (s.stored .word (locV s rm) (v.setWidth 32)) := by
  unfold writeRm16
  rw [query_id_bind_run]
  exact writeLoc_of_writable _ h

end

/-! ### What the tests raise -/

/-- Whatever the test of privilege raises, a privileged instruction takes: nothing comes before that test (R450). -/
theorem exec_of_isPrivileged {i : Instr} (hi : isPrivileged i = true) {s : State} {e : Exc}
    (h : checkPrivileged s = .error e s) : exec i s = .next (s.raise e) := by
  have table (m : EA) : readTable m s = .error e s := bind_of_error h
  unfold isPrivileged at hi
  split at hi
  · exact instr_of_error (bind_of_error (table _))
  · exact instr_of_error (bind_of_error (table _))
  on_goal -1 => cases hi
  all_goals exact instr_of_error (bind_of_error h)

/-- Whatever the test of the mode raises, an instruction of class A takes (R174). -/
theorem exec_of_isProtectedOnly {i : Instr} (hi : isProtectedOnly i = true) {s : State} {e : Exc}
    (h : checkRecognized s = .error e s) : exec i s = .next (s.raise e) := by
  unfold isProtectedOnly at hi
  split at hi
  on_goal -1 => cases hi
  all_goals exact instr_of_error (bind_of_error h)

/-- LLDT and LTR test the mode and then the privilege (R458, R462). -/
theorem exec_lldt_ltr_of_denied {i : Instr} {rm : RM Reg} (hi : i = .lldt rm ∨ i = .ltr rm) {s : State} {e : Exc}
    (hmode : s.mode = .prot) (h : checkPrivileged s = .error e s) : exec i s = .next (s.raise e) := by
  have hrec := checkRecognized_of_prot hmode
  rcases hi with rfl | rfl
  · exact instr_of_error ((bind_of_ok hrec).trans (bind_of_error h))
  · exact instr_of_error ((bind_of_ok hrec).trans (bind_of_error h))

/-- Settles O57: the tests of mode and of privilege come before everything else. -/
theorem privilegeAndModeFaults : Obligations.PrivilegeAndModeFaults := by
  unfold Obligations.PrivilegeAndModeFaults
  intro i s
  refine ⟨fun hi hpe hcpl => ?_, fun rm hi hmode hcpl => ?_, fun hi hmode => ?_⟩
  · exact exec_of_isPrivileged hi (checkPrivileged_of_denied hpe hcpl)
  · exact exec_lldt_ltr_of_denied hi hmode (checkPrivileged_of_denied (State.mode_prot hmode).1 hcpl)
  · exact exec_of_isProtectedOnly hi (checkRecognized_of_not_prot hmode)

end Sys2Proof.Machine
end

section
/-!
PROOFS. The checks of a selector: LAR, LSL, VERR, VERW and ARPL (46_system.md R451 to R454, R460, R461).
-/
namespace Sys2Proof.Machine

open Sys2Proof.Claims

/-! ### The probe of a selector (R451) -/

section
variable {s : State} {sel : Word}

/-- A null selector or one outside its table has no descriptor, and probing it is no fault (R451). -/
theorem probe_of_unlisted (h : selNull sel = true ∨ s.descAddr sel = none) : probe sel s = .ok none s := by
  unfold probe
  by_cases hnull : selNull sel = true
  · rw [if_pos hnull, pure_run]
  · rw [if_neg hnull, query_bind_run, h.resolve_left hnull]
    rfl

theorem probe_of_found {a : DWord} {d : Desc} (hnull : selNull sel = false) (ha : s.descAddr sel = some a)
    (hd : peekDesc s a = some d) : probe sel s = .ok (some d) s := by
  unfold probe
  rw [if_neg (ne_true_of_eq_false hnull), query_bind_run, ha]
  exact bind_of_ok (readDesc_of_peekDesc hd)

end

theorem setZf_run (b : Bool) (s : State) : setZf b s = .ok () { s with flags := { s.flags with zf := b } } := rfl

/-- The selector operand of LAR and LSL is the low word of an operand of operand size (R453). -/
theorem readSelector_of_readable {s : State} {rm : RM Reg} (h : Readable s s.osz.size (locV s rm)) :
    readSelector rm s = .ok ((s.value s.osz.size (locV s rm)).extractLsb' 0 16) s := by
  unfold readSelector
  rw [query_id_bind_run, bind_of_ok (readLoc_of_readable h), BitVec.setWidth_eq_extractLsb' (by decide)]
  rfl

/-! ### LAR, LSL, VERR and VERW (R453, R454, R460, R461) -/

/-- In protected mode the four instructions read a selector and probe it, and nothing up to there changes the state. -/
theorem probing_run {s : State} {read : Op Word} {sel : Word} {o : Option Desc} {rest : Word → State → Option Desc → Op Unit}
    (hmode : s.mode = .prot) (hread : read s = .ok sel s) (hprobe : probe sel s = .ok o s) :
    (do checkRecognized
        let sel ← read
        let now ← query id
        let o ← probe sel
        rest sel now o : Op Unit) s = rest sel s o s := by
  rw [bind_of_ok (checkRecognized_of_prot hmode), bind_of_ok hread, query_id_bind_run, bind_of_ok hprobe]

/-- A draw of a free value and the write of a register of operand size do not meet. -/
theorem State.setRegS_osz_of_drawn (s : State) (n : Nat) (r : Reg) (v : DWord) :
    ({ s with draws := n } : State).setRegS ({ s with draws := n } : State).osz.size r v =
      { s.setRegS s.osz.size r v with draws := n } := by
  change State.setRegS _ s.osz.size r v = _
  cases s.osz.size <;> rfl

/-- What follows the probe: ZF is cleared where there is no descriptor, and otherwise the descriptor decides. -/
theorem exec_of_probeForm {i : Instr} {s : State} {sz : Size} {rm : RM Reg} {f : Desc → Word → State}
    (hi : probeForm s i = some (sz, rm, f)) (hmode : s.mode = .prot) (hread : Readable s sz (locV s rm)) {sel : Word}
    (hsel : (s.value sz (locV s rm)).extractLsb' 0 16 = sel) {o : Option Desc} (hprobe : probe sel s = .ok o s) :
    exec i s = .next (o.elim { s with flags := { s.flags with zf := false } } (f · sel)) := by
  subst hsel
  unfold probeForm at hi
  split at hi <;> cases hi
  case h_1 r =>
    refine instr_of_ok ((probing_run hmode (readSelector_of_readable hread) hprobe).trans ?_)
    cases o with
    | none => rfl
    | some d =>
      simp only [ite_run, drawUndef_bind_run, update_bind_run, setZf_run, Option.elim_some,
        State.setRegS_osz_of_drawn, State.setRegS_flags]
      split <;> rfl
  case h_2 r =>
    refine instr_of_ok ((probing_run hmode (readSelector_of_readable hread) hprobe).trans ?_)
    cases o with
    | none => rfl
    | some d =>
      simp only [ite_run, update_bind_run, setZf_run, Option.elim_some, State.setRegS_flags]
      split <;> rfl
  case h_3 | h_4 =>
    refine instr_of_ok ((probing_run hmode (readRm16_of_readable hread) hprobe).trans ?_)
    cases o <;> rfl

/-! ### Visible segments and valid types (R113, R453, R454) -/

theorem visible_iff (d : Desc) (sel : Word) (cpl : BitVec 2) :
    visible d sel cpl = true ↔
      (d.s = true ∧ d.type.getLsbD 3 = true ∧ d.type.getLsbD 2 = true) ∨ (cpl ≤ d.dpl ∧ selRpl sel ≤ d.dpl) := by
  simp [visible, Desc.isConforming, Desc.isCode, and_assoc]

/-- LAR refuses the system types 0, 8, A and D, which leaves twelve. -/
theorem validForLar_iff (d : Desc) :
    validForLar d = true ↔ d.s = true ∨ d.type ∈ ([1, 2, 3, 4, 5, 6, 7, 9, 11, 12, 14, 15] : List (BitVec 4)) := by
  have types : ∀ t : BitVec 4, (!(t == 0 || t == 8 || t == 10 || t == 13)) = true ↔
      t ∈ ([1, 2, 3, 4, 5, 6, 7, 9, 11, 12, 14, 15] : List (BitVec 4)) := by decide
  rw [validForLar, Bool.or_eq_true, types]

theorem validForLsl_iff (d : Desc) :
    validForLsl d = true ↔ d.s = true ∨ d.type ∈ ([1, 2, 3, 9, 11] : List (BitVec 4)) := by
  simp [validForLsl, or_assoc]

/-! ### ARPL (R452) -/

/-- A selector with its RPL replaced keeps its table and index (R452). -/
theorem selWithRpl_eq (sel : Word) (rpl : BitVec 2) : selWithRpl sel rpl = sel.extractLsb' 2 14 ++ rpl := by
  apply BitVec.eq_of_getLsbD_eq
  intro i hi
  rw [BitVec.getLsbD_append, selWithRpl, ← selCode, selCode_eq, BitVec.getLsbD_or, BitVec.getLsbD_append, BitVec.getLsbD_setWidth]
  by_cases h2 : i < 2
  · simp [h2, hi]
  · simp [h2, BitVec.getLsbD_of_ge rpl i (by omega)]

section
variable {s : State} {rm : RM Reg} {r : Reg} (hmode : s.mode = .prot) (hread : Readable s .word (locV s rm))
  (hwrite : Writable s .word (locV s rm))
include hmode hread hwrite

/-- ARPL compares the two RPLs once the operand has passed both its checks (R452). -/
theorem adjustRpl_run {d : Word} {rpl : BitVec 2} (hd : (s.value .word (locV s rm)).extractLsb' 0 16 = d)
    (hrpl : (s.reg r).extractLsb' 0 2 = rpl) :
    adjustRpl rm r s = if d.extractLsb' 0 2 < rpl then (writeRm16 rm (selWithRpl d rpl) >>= fun _ => setZf true) s
      else setZf false s := by
  have hsrc : selRpl ((s.reg r).setWidth 16) = rpl := by
    rw [← hrpl, selRpl, BitVec.extractLsb'_setWidth_of_le (by decide)]
  subst hd
  unfold adjustRpl
  rw [bind_of_ok (checkRecognized_of_prot hmode), query_id_bind_run, bind_of_ok (readRm16_of_readable hread),
    bind_of_ok (checkWriteLoc_of_writable hwrite)]
  simp only [hsrc]
  exact ite_run _ _ _ s

theorem exec_arpl_of_lower {d : Word} {rpl : BitVec 2} (hd : (s.value .word (locV s rm)).extractLsb' 0 16 = d)
    (hrpl : (s.reg r).extractLsb' 0 2 = rpl) (hlower : d.extractLsb' 0 2 < rpl) :
    exec (.arpl rm r) s = .next { s.stored .word (locV s rm) ((d.extractLsb' 2 14 ++ rpl : Word).setWidth 32) with
      flags := { s.flags with zf := true } } := by
  refine instr_of_ok ((adjustRpl_run hmode hread hwrite hd hrpl).trans ?_)
  rw [if_pos hlower, bind_of_ok (writeRm16_of_writable hwrite _), selWithRpl_eq, setZf_run, State.stored_flags]

theorem exec_arpl_of_not_lower {d : Word} {rpl : BitVec 2} (hd : (s.value .word (locV s rm)).extractLsb' 0 16 = d)
    (hrpl : (s.reg r).extractLsb' 0 2 = rpl) (hnot : ¬d.extractLsb' 0 2 < rpl) :
    exec (.arpl rm r) s = .next { s with flags := { s.flags with zf := false } } :=
  instr_of_ok ((adjustRpl_run hmode hread hwrite hd hrpl).trans (if_neg hnot))

end

/-- Settles O53: the four probing instructions go by what the probe of their selector finds, and ARPL by the two RPLs. -/
theorem selectorChecksResult : Obligations.SelectorChecksResult := by
  unfold Obligations.SelectorChecksResult
  refine ⟨⟨fun i s sz rm f hi hmode hread => ?_, fun d sel cpl => ?_⟩, fun s rm r hmode hread hwrite => ?_⟩
  · intro sel
    have probed {o : Option Desc} (h : probe sel s = .ok o s) := exec_of_probeForm hi hmode hread rfl h
    exact ⟨fun hout => probed (probe_of_unlisted hout), fun a d hnull ha hd => probed (probe_of_found hnull ha hd)⟩
  · exact ⟨visible_iff d sel cpl, validForLar_iff d, validForLsl_iff d⟩
  · exact ⟨exec_arpl_of_lower hmode hread hwrite rfl rfl, exec_arpl_of_not_lower hmode hread hwrite rfl rfl,
      stored_onlyBytes s .word (locV s rm) _⟩

end Sys2Proof.Machine
end

section
/-!
PROOFS. The descriptor-table registers, LDTR and TR (46_system.md R456 to R459, R462, R463).
-/
namespace Sys2Proof.Machine

open Sys2Proof.Claims

/-! ### GDTR and IDTR (R456, R457) -/

section
variable {s : State} {m : EA} {seg : SReg} {ea : DWord}

/-- The check of the six bytes as one range completes where it finds no fault. -/
theorem checkSeg_of_inside {n : Nat} {k : AccessKind} (h : segFault s.mode seg (s.sreg seg) ea n k = none) :
    checkSeg seg ea n k s = .ok () s := by
  simp only [checkSeg, h]

/-- The six-byte operand: the limit, and the base cut to 24 bits under a 16-bit operand size (R456). -/
theorem readTable_of_allowed (hseg : s.segOr (defaultSegment m) = seg) (hea : effectiveOffset s m = ea)
    (hlevel : s.pe = false ∨ s.cpl = 0) (hwhole : segFault s.mode seg (s.sreg seg) ea 6 .read = none)
    (hlimit : Allowed s .read seg ea 2) (hbase : Allowed s .read seg (ea + 2) 4) :
    readTable m s = .ok { limit := (s.loaded seg ea 2).setWidth 16
                          base := if s.osz = .w16 then s.loaded seg (ea + 2) 4 &&& 0x00FFFFFF#32 else s.loaded seg (ea + 2) 4 } s := by
  subst hseg hea
  unfold readTable
  rw [bind_of_ok (checkPrivileged_of_allowed hlevel), query_id_bind_run]
  refine (bind_of_ok (checkSeg_of_inside hwhole)).trans ?_
  rw [bind_of_ok (memRead_of_allowed hlimit), bind_of_ok (memRead_of_allowed hbase)]
  rfl

/-- The limit is stored first and the base, from the state before, in the bytes after it (R457). -/
theorem storeTable_of_allowed (table : State → TableReg) (hseg : s.segOr (defaultSegment m) = seg) (hea : effectiveOffset s m = ea)
    (hwhole : segFault s.mode seg (s.sreg seg) ea 6 .write = none) (hlimit : Allowed s .write seg ea 2)
    (hbase : Allowed (s.storedAt seg ea 2 ((table s).limit.setWidth 32)) .write seg (ea + 2) 4) :
    storeTable table m s = .ok () ((s.storedAt seg ea 2 ((table s).limit.setWidth 32)).storedAt seg (ea + 2) 4
      (if s.osz = .w16 then (table s).base &&& 0x00FFFFFF#32 else (table s).base)) := by
  subst hseg hea
  unfold storeTable
  rw [query_id_bind_run]
  refine (bind_of_ok (checkSeg_of_inside hwhole)).trans ?_
  rw [bind_of_ok (memWrite_of_allowed _ hlimit)]
  exact memWrite_of_allowed _ hbase

end

/-- Settles O54: the operand is read or stored in two parts after one check of the whole of it. -/
theorem descriptorTableRegisters : Obligations.DescriptorTableRegisters := by
  unfold Obligations.DescriptorTableRegisters
  intro s m seg ea cut new
  refine ⟨fun hwhole hlimit hbase hlevel => ?load, fun hwhole hlimit => ?store⟩
  case load =>
    have hread : readTable m s = .ok new s := readTable_of_allowed rfl rfl hlevel hwhole hlimit hbase
    exact ⟨instr_of_ok (bind_of_ok hread), instr_of_ok (bind_of_ok hread)⟩
  case store =>
    intro t u hbase
    refine ⟨fun ht => ?_, fun ht => ?_⟩
    · subst ht
      exact instr_of_ok (storeTable_of_allowed State.gdtr rfl rfl hwhole hlimit hbase)
    · subst ht
      exact instr_of_ok (storeTable_of_allowed State.idtr rfl rfl hwhole hlimit hbase)

/-! ### A selector that must name the GDT (R458, R462) -/

section
variable {s : State} {sel : Word}

/-- A selector of the LDT, or one outside the GDT, raises the exception. -/
theorem lookupGdt_of_unlisted (h : selTi sel = true ∨ s.descAddr sel = none) (e : Exc) : lookupGdt sel e s = .error e s := by
  unfold lookupGdt
  rw [raiseIf_bind_run]
  by_cases hti : selTi sel = true
  · rw [if_pos hti]
  · rw [if_neg hti, lookup_of_outside (h.resolve_left hti)]

theorem lookupGdt_of_found {a : DWord} {d : Desc} (hti : selTi sel = false) (ha : s.descAddr sel = some a)
    (hd : peekDesc s a = some d) (e : Exc) : lookupGdt sel e s = .ok ⟨a, d⟩ s := by
  unfold lookupGdt
  rw [hti, raiseIf_false_bind_run, lookup_of_found ha hd]

end

/-! ### LLDT and LTR (R458, R462) -/

section
variable {s : State} {rm : RM Reg} {sel : Word} (hmode : s.mode = .prot) (hcpl : s.cpl = 0)
  (hread : Readable s .word (locV s rm)) (hsel : (s.value .word (locV s rm)).extractLsb' 0 16 = sel)
include hmode hcpl hread hsel

/-- At level 0 of protected mode LLDT and LTR begin with the read of their selector, which changes nothing. -/
theorem selectorRead_run (rest : Word → Op Unit) :
    (do checkRecognized
        checkPrivileged
        let sel ← readRm16 rm
        rest sel : Op Unit) s = rest sel s := by
  rw [bind_of_ok (checkRecognized_of_prot hmode), bind_of_ok (checkPrivileged_of_allowed (.inr hcpl)),
    bind_of_ok (readRm16_of_readable hread), hsel]

/-- A null selector makes the LDT unusable (R458). -/
theorem loadLdt_of_null (hnull : selNull sel = true) :
    loadLdt rm s = .ok () { s with ldtr := { s.ldtr with sel := sel, valid := false } } := by
  refine (selectorRead_run hmode hcpl hread hsel _).trans ?_
  rw [if_pos hnull, update_run]

theorem loadTaskRegister_of_null (hnull : selNull sel = true) : loadTaskRegister rm s = .error (Exc.gp 0) s := by
  refine (selectorRead_run hmode hcpl hread hsel _).trans ?_
  rw [hnull, raiseIf_true_bind_run]

variable (hnull : selNull sel = false)
include hnull

theorem loadLdt_of_unlisted (hout : selTi sel = true ∨ s.descAddr sel = none) :
    loadLdt rm s = .error (Exc.gp (selCode sel)) s := by
  refine (selectorRead_run hmode hcpl hread hsel _).trans ?_
  rw [if_neg (ne_true_of_eq_false hnull), bind_of_error (lookupGdt_of_unlisted hout _)]

theorem loadTaskRegister_of_unlisted (hout : selTi sel = true ∨ s.descAddr sel = none) :
    loadTaskRegister rm s = .error (Exc.gp (selCode sel)) s := by
  refine (selectorRead_run hmode hcpl hread hsel _).trans ?_
  rw [hnull, raiseIf_false_bind_run, bind_of_error (lookupGdt_of_unlisted hout _)]

variable {a : DWord} {d : Desc} (hti : selTi sel = false) (ha : s.descAddr sel = some a) (hd : peekDesc s a = some d)
include hti ha hd

/-- The descriptor must be that of a present LDT (R458). -/
theorem loadLdt_of_found :
    loadLdt rm s =
      if d.isSystem 2 = false then .error (Exc.gp (selCode sel)) s
      else if d.p = false then .error (Exc.np (selCode sel)) s
      else .ok () { s with ldtr := { sel := sel, base := d.base, limit := d.limit, valid := true } } := by
  refine (selectorRead_run hmode hcpl hread hsel _).trans ?_
  rw [if_neg (ne_true_of_eq_false hnull), bind_of_ok (lookupGdt_of_found hti ha hd _),
    raiseIf_iff_bind_run (Bool.not_eq_true' _).to_iff, raiseIf_iff_bind_run (Bool.not_eq_true' _).to_iff, update_run]

/-- The descriptor must be that of a present available TSS, which is marked busy (R462). -/
theorem loadTaskRegister_of_found :
    loadTaskRegister rm s =
      if d.isAvailableTss = false then .error (Exc.gp (selCode sel)) s
      else if d.p = false then .error (Exc.np (selCode sel)) s
      else (changeAccessRights a (fun b => b ||| 2#8) >>= fun _ =>
        update fun s => { s with tr := { sel := sel, base := d.base, limit := d.limit, is386 := d.is386 } }) s := by
  refine (selectorRead_run hmode hcpl hread hsel _).trans ?_
  rw [hnull, raiseIf_false_bind_run, bind_of_ok (lookupGdt_of_found hti ha hd _),
    raiseIf_iff_bind_run (Bool.not_eq_true' _).to_iff, raiseIf_iff_bind_run (Bool.not_eq_true' _).to_iff]

end

/-! ### SLDT and STR (R459, R463) -/

section
variable {s : State} {rm : RM Reg} (hmode : s.mode = .prot) (hwrite : Writable s .word (locV s rm))
include hmode hwrite

theorem storeLdt_of_writable : storeLdt rm s = .ok () (s.stored .word (locV s rm) (s.ldtr.sel.setWidth 32)) := by
  unfold storeLdt
  rw [bind_of_ok (checkRecognized_of_prot hmode), query_id_bind_run, writeRm16_of_writable hwrite]

theorem storeTaskRegister_of_writable :
    storeTaskRegister rm s = .ok () (s.stored .word (locV s rm) (s.tr.sel.setWidth 32)) := by
  unfold storeTaskRegister
  rw [bind_of_ok (checkRecognized_of_prot hmode), query_id_bind_run, writeRm16_of_writable hwrite]

end

/-- Settles O55: a selector is null, names no descriptor of the GDT, or names one whose type and presence decide. -/
theorem localTableAndTaskRegisters : Obligations.LocalTableAndTaskRegisters := by
  unfold Obligations.LocalTableAndTaskRegisters
  intro s rm hmode l
  refine ⟨fun hwrite => ?store, fun hcpl hread => ?load⟩
  case store =>
    exact ⟨instr_of_ok (storeLdt_of_writable hmode hwrite), instr_of_ok (storeTaskRegister_of_writable hmode hwrite),
      stored_onlyBytes s .word l⟩
  case load =>
    intro sel gp
    refine ⟨fun hnull => ⟨?_, ?_⟩, fun hnull hout => ⟨?_, ?_⟩, fun a d hnull hti ha hd => ?found⟩
    · exact instr_of_ok (loadLdt_of_null hmode hcpl hread rfl hnull)
    · exact instr_of_error (loadTaskRegister_of_null hmode hcpl hread rfl hnull)
    · exact instr_of_error (loadLdt_of_unlisted hmode hcpl hread rfl hnull hout)
    · exact instr_of_error (loadTaskRegister_of_unlisted hmode hcpl hread rfl hnull hout)
    case found =>
      have hldt := loadLdt_of_found hmode hcpl hread rfl hnull hti ha hd
      have htask := loadTaskRegister_of_found hmode hcpl hread rfl hnull hti ha hd
      refine ⟨fun hno => ?_, fun hyes => ?_, fun hno => ?_, fun hyes hp => ?_, fun hyes hp u hu => ?_, ?_⟩
      · exact instr_of_error (hldt.trans (if_pos hno))
      · rw [if_neg (ne_false_of_eq_true hyes)] at hldt
        by_cases hp : d.p = true
        · rw [if_pos hp]
          exact instr_of_ok (hldt.trans (if_neg (ne_false_of_eq_true hp)))
        · rw [if_neg hp]
          exact instr_of_error (hldt.trans (if_pos (eq_false_of_ne_true hp)))
      · exact instr_of_error (htask.trans (if_pos hno))
      · exact instr_of_error (htask.trans ((if_neg (ne_false_of_eq_true hyes)).trans (if_pos hp)))
      · rw [if_neg (ne_false_of_eq_true hyes), if_neg (ne_false_of_eq_true hp), bind_of_ok hu] at htask
        exact instr_of_ok htask
      · exact rightsChanged_changeAccessRights s a _

end Sys2Proof.Machine
end

section
/-!
PROOFS. The machine status word and the moves to and from the special registers (46_system.md R455, R464 to R468).
-/
namespace Sys2Proof.Machine

open Sys2Proof.Claims

/-! ### LMSW, SMSW and CLTS (R455, R464, R465) -/

/-- CR0 after LMSW: bits 3:1 are the operand's, PE is set if it was or the operand's bit 0 is, and the other bits stay (R464). -/
theorem getLsbD_loadedMsw (cr0 : DWord) (v : Word) {i : Nat} (hi : i < 32) :
    ((cr0 &&& 0xFFFFFFF1#32) ||| (v.setWidth 32 &&& 0x0000000F#32)).getLsbD i =
      if i = 0 then cr0.getLsbD 0 || v.getLsbD 0 else if i < 4 then v.getLsbD i else cr0.getLsbD i := by
  have kept : ∀ i < 32, (0xFFFFFFF1#32).getLsbD i = (decide (i = 0) || decide (4 ≤ i)) := by decide
  have taken : ∀ i < 32, (0x0000000F#32).getLsbD i = decide (i < 4) := by decide
  rw [BitVec.getLsbD_or, BitVec.getLsbD_and, BitVec.getLsbD_and, BitVec.getLsbD_setWidth, kept i hi, taken i hi]
  by_cases h0 : i = 0
  · simp [h0]
  · by_cases h4 : i < 4
    · have : ¬4 ≤ i := by omega
      simp [h0, h4, hi, this]
    · have : 4 ≤ i := by omega
      simp [h0, h4, this]

/-- A word stored from CR0 is its low half. -/
theorem setWidth_setWidth_word (v : DWord) : (v.setWidth 16).setWidth 32 = v &&& 0xFFFF#32 := by
  have low16 : ∀ i < 32, (0xFFFF#32).getLsbD i = decide (i < 16) := by decide
  apply BitVec.eq_of_getLsbD_eq
  intro i hi
  rw [BitVec.getLsbD_setWidth, BitVec.getLsbD_setWidth, BitVec.getLsbD_and, low16 i hi]
  simp [hi, Bool.and_comm]

section
variable {s : State} {rm : RM Reg}

theorem loadMsw_of_readable (hlevel : s.pe = false ∨ s.cpl = 0) (hread : Readable s .word (locV s rm)) :
    loadMsw rm s = .ok () { s with cr0 := (s.cr0 &&& 0xFFFFFFF1#32) |||
      (((s.value .word (locV s rm)).extractLsb' 0 16).setWidth 32 &&& 0x0000000F#32) } := by
  unfold loadMsw
  rw [bind_of_ok (checkPrivileged_of_allowed hlevel), bind_of_ok (readRm16_of_readable hread), update_run]

theorem storeMsw_of_writable (hwrite : Writable s .word (locV s rm)) :
    storeMsw rm s = .ok () (s.stored .word (locV s rm) (s.cr0 &&& 0xFFFF#32)) := by
  unfold storeMsw
  rw [query_id_bind_run, writeRm16_of_writable hwrite, setWidth_setWidth_word]

end

/-! ### The special registers (R466 to R468) -/

/-- The six moves are one meaning with a change of the registers. -/
theorem exec_of_specialForm {i : Instr} {f : State → State} (h : specialForm i = some f) (s : State) :
    exec i s = instr (moveSpecial f) s := by
  unfold specialForm at h
  split at h <;> cases h <;> rfl

theorem moveSpecial_of_allowed {s : State} (hlevel : s.pe = false ∨ s.cpl = 0) (f : State → State) :
    moveSpecial f s = .ok () ((f s).undefined StatusMask.all) := by
  unfold moveSpecial
  rw [bind_of_ok (checkPrivileged_of_allowed hlevel), update_bind_run, undefFlags_run]
  rfl

theorem State.creg_setCreg (s : State) (c c' : CReg) (v : DWord) : (s.setCreg c v).creg c' = if c' = c then v else s.creg c' := by
  cases c <;> cases c' <;> rfl

theorem State.dreg_setDreg (s : State) (d d' : DReg) (v : DWord) : (s.setDreg d v).dreg d' = if d' = d then v else s.dreg d' := by
  cases d <;> cases d' <;> rfl

theorem State.treg_setTreg (s : State) (t t' : TReg) (v : DWord) : (s.setTreg t v).treg t' = if t' = t then v else s.treg t' := by
  cases t <;> cases t' <;> rfl

/-- Settles O56: each is a test of privilege, which SMSW has not, and one move. -/
theorem specialRegisterMoves : Obligations.SpecialRegisterMoves := by
  unfold Obligations.SpecialRegisterMoves
  refine ⟨fun s rm hlevel hread => ?lmsw, fun s rm hwrite => ?smsw, fun s hlevel => ⟨?clts, fun i f hi => ?move⟩,
    fun s c c' d d' t t' v => ⟨s.creg_setCreg c c' v, s.dreg_setDreg d d' v, s.treg_setTreg t t' v⟩⟩
  case lmsw =>
    refine ⟨_, instr_of_ok (loadMsw_of_readable hlevel hread), ?_, ?_, ?_⟩
    · apply BitVec.eq_of_getLsbD_eq
      intro i hi
      have : ¬4 + i < 4 := by omega
      simp only [BitVec.getLsbD_extractLsb', hi, decide_true, Bool.true_and]
      rw [getLsbD_loadedMsw _ _ (by omega), if_neg (by omega), if_neg this]
    · apply BitVec.eq_of_getLsbD_eq
      intro i hi
      have : 1 + i < 4 ∧ 1 + i < 16 := by omega
      rw [BitVec.getLsbD_extractLsb', getLsbD_loadedMsw _ _ (by omega), if_neg (by omega), if_pos this.1]
      simp [this]
    · rw [getLsbD_loadedMsw _ _ (by omega), if_pos rfl]
      simp
  case smsw =>
    exact ⟨instr_of_ok (storeMsw_of_writable hwrite), stored_onlyBytes s .word (locV s rm) _⟩
  case clts =>
    exact instr_of_ok ((bind_of_ok (checkPrivileged_of_allowed hlevel)).trans rfl)
  case move =>
    rw [exec_of_specialForm hi]
    exact instr_of_ok (moveSpecial_of_allowed hlevel f)

end Sys2Proof.Machine
end

section
/-!
PROOFS. The registers that user code leaves alone (46_system.md R450, 60_exceptions.md R538): GDTR, IDTR, CR2, the debug and the test
registers, and PE. Which updates of the state leave them, and how that composes.
-/
namespace Sys2Proof.Machine

variable {α β : Type}

/-- The registers that neither an operation of user code nor a delivery changes; CR2 alone is loaded when a page fault is raised. -/
structure SystemRegs where
  gdtr : TableReg
  idtr : TableReg
  cr2 : DWord
  dr : DebugRegs
  tr6 : DWord
  tr7 : DWord
  pe : Bool

/-- Those registers of a state. -/
def State.system (s : State) : SystemRegs :=
  { gdtr := s.gdtr, idtr := s.idtr, cr2 := s.cr2, dr := s.dr, tr6 := s.tr6, tr7 := s.tr7, pe := s.pe }

/-- An operation that leaves the system registers at `r` if they are `r` before it, whether it completes or raises an exception. -/
abbrev KeepsSystem (r : SystemRegs) (x : Op α) : Prop := Keeps (fun s => s.system = r) x

/-! ### Updates of the state -/

theorem State.system_setRegW (s : State) (w : Width) (q : Reg) (v : DWord) : (s.setRegW w q v).system = s.system := by
  cases w <;> rfl

theorem State.system_setRegS (s : State) (sz : Size) (q : Reg) (v : DWord) : (s.setRegS sz q v).system = s.system := by
  cases sz <;> rfl

theorem State.system_setReg8 (s : State) (q : Reg8) (v : Byte) : (s.setReg8 q v).system = s.system := by
  unfold State.setReg8
  split <;> rfl

theorem State.system_setSp (s : State) (v : DWord) : (s.setSp v).system = s.system := s.system_setRegW _ _ v

theorem State.system_setWide (s : State) (sz : Size) (lo hi : DWord) : (s.setWide sz lo hi).system = s.system := by
  cases sz <;> rfl

theorem State.system_withStack (s : State) (f : Found) (sel : Word) (sp : DWord) (cpl : BitVec 2) :
    (s.withStack f sel sp cpl).system = s.system := (s.setSreg .ss (f.desc.toSeg sel)).system_setSp sp

/-- TS is all that a task switch sets in CR0, so that PE stays (R546 step 8). -/
theorem State.system_enterTask (s : State) (kind : SwitchKind) (t : TaskImage) : (s.enterTask kind t).system = s.system := by
  have hpe : (s.cr0 ||| 0x8#32).getLsbD 0 = s.cr0.getLsbD 0 := by simp
  simp only [State.system, State.enterTask, State.pe, hpe]

theorem State.system_markAccessed (s : State) (f : Found) : (s.markAccessed f).system = s.system := by
  rw [(markAccessed_spec f s).1]
  rfl

/-! ### How keeping composes -/

section
variable {P : State → Prop}

/-- A silent operation and then one that keeps a property. -/
theorem Silent.keeps_bind {x : Op α} {f : α → Op β} (hx : Silent x) (hf : ∀ a, Keeps P (f a)) : Keeps P (x >>= f) :=
  Machine.keeps_bind (hx.keeps P) hf

/-- After the state is asked for, it is known to have the property. -/
theorem keeps_query_id_bind {f : State → Op β} (hf : ∀ s, P s → Keeps P (f s)) : Keeps P (query id >>= f) := by
  intro s hs
  rw [query_id_bind_run]
  exact hf s hs s hs

theorem keeps_undoneTo {t : State} (ht : P t) {x : Op α} (hx : Keeps P x) : Keeps P (undoneTo t x) := by
  intro s hs
  have h := hx s hs
  unfold undoneTo
  revert h
  cases x s
  · exact id
  · exact fun _ => ht

end

section
variable {r : SystemRegs}

theorem keepsSystem_update {f : State → State} (h : ∀ s, (f s).system = s.system) : KeepsSystem r (update f) :=
  keeps_update fun s hs => (h s).trans hs

theorem keepsSystem_setEip (v : DWord) : KeepsSystem r (setEip v) := keepsSystem_update fun _ => rfl

theorem keepsSystem_updateFlags (f : Flags → Flags) : KeepsSystem r (updateFlags f) := keepsSystem_update fun _ => rfl

theorem keepsSystem_drawUndef : KeepsSystem r drawUndef := fun _ h => h

theorem keepsSystem_undefFlags (m : StatusMask) : KeepsSystem r (undefFlags m) := fun _ h => h

end

end Sys2Proof.Machine
end

section
/-!
PROOFS. The operations that a delivery is made of (45_interrupt_iret.md R433 to R443, 60_exceptions.md R530, R546): each leaves the
system registers alone, and raises no exception but 8, 10, 11, 12, 13 and 14.
-/
namespace Sys2Proof.Machine

variable {α β : Type}

/-- The exceptions that the checks and accesses of a delivery raise: #TS, #NP, #SS, #GP and #PF, and 8 where the real-mode table has
no entry (R434, R530). -/
def Exc.OfDelivery (e : Exc) : Prop := e.vector ∈ [8, 10, 11, 12, 13, 14]

theorem Exc.ofDelivery_ts (c : Word) : (Exc.ts c).OfDelivery := by simp [Exc.OfDelivery, Exc.ts, Exc.coded]

theorem Exc.ofDelivery_np (c : Word) : (Exc.np c).OfDelivery := by simp [Exc.OfDelivery, Exc.np, Exc.coded]

theorem Exc.ofDelivery_ss (c : Word) : (Exc.ss c).OfDelivery := by simp [Exc.OfDelivery, Exc.ss, Exc.coded]

theorem Exc.ofDelivery_gp (c : Word) : (Exc.gp c).OfDelivery := by simp [Exc.OfDelivery, Exc.gp, Exc.coded]

theorem Exc.ofDelivery_pf (c : Word) (lin : DWord) : (Exc.pf c lin).OfDelivery := by simp [Exc.OfDelivery, Exc.pf]

/-- An operation that a delivery is made of: from system registers `r` it leaves them alone and raises only exceptions of a
delivery. -/
structure DeliveryStep (r : SystemRegs) (x : Op α) : Prop where
  keeps : KeepsSystem r x
  raises : ∀ {s t e}, s.system = r → x s = .error e t → e.OfDelivery

/-! ### How such steps compose -/

section
variable {r : SystemRegs}

/-- An operation that always completes raises nothing. -/
theorem deliveryStep_of_ok {x : Op α} (hx : KeepsSystem r x) (h : ∀ s, ∃ a t, x s = .ok a t) : DeliveryStep r x := by
  refine ⟨hx, fun {s _ _} _ he => ?_⟩
  obtain ⟨a, t, hok⟩ := h s
  rw [hok] at he
  cases he

theorem deliveryStep_pure (a : α) : DeliveryStep r (pure a : Op α) := deliveryStep_of_ok (keeps_pure _ a) fun s => ⟨a, s, rfl⟩

theorem deliveryStep_query (f : State → α) : DeliveryStep r (query f) :=
  deliveryStep_of_ok (keeps_query _ f) fun s => ⟨f s, s, rfl⟩

theorem deliveryStep_update {f : State → State} (h : ∀ s, (f s).system = s.system) : DeliveryStep r (update f) :=
  deliveryStep_of_ok (keepsSystem_update h) fun s => ⟨(), f s, rfl⟩

theorem deliveryStep_raiseExc {e : Exc} (h : e.OfDelivery) : DeliveryStep r (raiseExc e : Op α) :=
  ⟨keeps_raiseExc _ e, fun _ he => by cases he; exact h⟩

theorem deliveryStep_ite (c : Prop) [Decidable c] {x y : Op α} (hx : DeliveryStep r x) (hy : DeliveryStep r y) :
    DeliveryStep r (if c then x else y) := by
  split <;> assumption

theorem deliveryStep_raiseIf (c : Bool) {e : Exc} (h : e.OfDelivery) : DeliveryStep r (raiseIf c e) :=
  deliveryStep_ite _ (deliveryStep_raiseExc h) (deliveryStep_pure _)

theorem DeliveryStep.bind {x : Op α} {f : α → Op β} (hx : DeliveryStep r x) (hf : ∀ a, DeliveryStep r (f a)) :
    DeliveryStep r (x >>= f) := by
  refine ⟨keeps_bind hx.keeps fun a => (hf a).keeps, fun {s t e} hs h => ?_⟩
  cases hxs : x s with
  | ok a u =>
    have hu := hx.keeps s hs
    rw [hxs] at hu
    rw [bind_of_ok hxs] at h
    exact (hf a).raises hu h
  | error e' u =>
    rw [bind_of_error hxs] at h
    cases h
    exact hx.raises hs hxs

/-- After the state is asked for, its system registers are known. -/
theorem deliveryStep_query_id_bind {f : State → Op β} (hf : ∀ s, s.system = r → DeliveryStep r (f s)) :
    DeliveryStep r (query id >>= f) := by
  refine ⟨keeps_query_id_bind fun s hs => (hf s hs).keeps, fun {s t e} hs h => ?_⟩
  rw [query_id_bind_run] at h
  exact (hf s hs).raises hs h

theorem deliveryStep_atomically {x : Op α} (hx : DeliveryStep r x) : DeliveryStep r (atomically x) := by
  refine ⟨keeps_atomically hx.keeps, fun {s t e} hs h => ?_⟩
  cases hxs : x s with
  | ok a u => rw [atomically_of_ok hxs] at h; cases h
  | error e' u => rw [atomically_of_error hxs] at h; cases h; exact hx.raises hs hxs

theorem deliveryStep_undoneTo {u : State} (hu : u.system = r) {x : Op α} (hx : DeliveryStep r x) : DeliveryStep r (undoneTo u x) := by
  refine ⟨keeps_undoneTo hu hx.keeps, fun {s t e} hs h => ?_⟩
  cases hxs : x s with
  | ok a v => rw [undoneTo_of_ok hxs] at h; cases h
  | error e' v => rw [undoneTo_of_error hxs] at h; cases h; exact hx.raises hs hxs

/-- Whose task an exception belongs to is no part of its vector (R545). -/
theorem deliveryStep_inNewTask {x : Op Unit} (hx : DeliveryStep r x) : DeliveryStep r (inNewTask x) := by
  refine ⟨keeps_inNewTask hx.keeps, fun {s t e} hs h => ?_⟩
  cases hxs : x s with
  | ok a u => rw [inNewTask_of_ok hxs] at h; cases h
  | error e' u =>
    rw [inNewTask_of_error hxs] at h
    cases h
    have he : e'.OfDelivery := hx.raises hs hxs
    exact he

/-! ### Memory and the stack -/

/-- Every exception of a segment check is #SS(0) or #GP(0) (R101, R104). -/
theorem segFault_cases {m : Mode} {sr : SReg} {g : SegReg} {off : DWord} {n : Nat} {k : AccessKind} {e : Exc}
    (h : segFault m sr g off n k = some e) : e = Exc.ss 0 ∨ e = Exc.gp 0 := by
  have hviolation : segViolation sr = Exc.ss 0 ∨ segViolation sr = Exc.gp 0 := by cases sr <;> decide
  cases m with
  | v86 =>
    rw [segFault_v86] at h
    split at h <;> cases h
    exact hviolation
  | real =>
    by_cases hin : g.inLimit off n = true
    · rw [segFault_real_of_inside sr k hin] at h
      split at h <;> cases h
      exact hviolation
    · rw [segFault_real_of_outside sr k hin] at h
      cases h
      exact hviolation
  | prot =>
    by_cases hv : g.valid = true
    · by_cases hin : g.inLimit off n = true
      · rw [segFault_prot_of_inside sr k hv hin] at h
        split at h <;> cases h
        exact .inr rfl
      · rw [segFault_prot_of_outside sr k hin] at h
        cases h
        exact hviolation
    · rw [segFault_prot_of_null sr k (eq_false_of_ne_true hv)] at h
      cases h
      exact hviolation

theorem deliveryStep_checkSeg (sr : SReg) (off : DWord) (n : Nat) (k : AccessKind) : DeliveryStep r (checkSeg sr off n k) := by
  refine ⟨(silent_checkSeg _ _ _ _).keeps _, fun {s t e} _ h => ?_⟩
  unfold checkSeg at h
  split at h
  · next hf =>
    cases h
    rcases segFault_cases hf with rfl | rfl
    · exact Exc.ofDelivery_ss 0
    · exact Exc.ofDelivery_gp 0
  · cases h

theorem deliveryStep_translate (k : AccessKind) (u : Bool) (lin : DWord) : DeliveryStep r (translate k u lin) := by
  refine ⟨(silent_translate _ _ _).keeps _, fun {s t e} _ h => ?_⟩
  by_cases hpaged : (s.pe && s.pg) = true
  · rw [translate_of_paged hpaged] at h
    split at h <;> cases h
    exact Exc.ofDelivery_pf _ _
  · rw [translate_of_unpaged (eq_false_of_ne_true hpaged)] at h
    cases h

theorem deliveryStep_translateRange (k : AccessKind) (u : Bool) (n : Nat) (lin : DWord) :
    DeliveryStep r (translateRange k u n lin) := by
  induction n generalizing lin with
  | zero => exact deliveryStep_pure _
  | succ n ih => exact (deliveryStep_translate k u lin).bind fun _ => (ih _).bind fun _ => deliveryStep_pure _

theorem deliveryStep_linReadAs (u : Bool) (lin : DWord) (n : Nat) : DeliveryStep r (linReadAs u lin n) :=
  (deliveryStep_translateRange _ _ _ _).bind fun _ => deliveryStep_query _

theorem deliveryStep_linRead (lin : DWord) (n : Nat) : DeliveryStep r (linRead lin n) := deliveryStep_linReadAs _ _ _

theorem deliveryStep_linWriteAs (u : Bool) (lin : DWord) (n : Nat) (v : DWord) : DeliveryStep r (linWriteAs u lin n v) :=
  (deliveryStep_translateRange _ _ _ _).bind fun _ => deliveryStep_update fun _ => rfl

theorem deliveryStep_linWrite (lin : DWord) (n : Nat) (v : DWord) : DeliveryStep r (linWrite lin n v) :=
  deliveryStep_linWriteAs _ _ _ _

theorem deliveryStep_memWrite (sr : SReg) (off : DWord) (n : Nat) (v : DWord) : DeliveryStep r (memWrite sr off n v) :=
  (deliveryStep_checkSeg _ _ _ _).bind fun _ => (deliveryStep_query _).bind fun _ => deliveryStep_linWriteAs _ _ _ _

theorem deliveryStep_push (w : Width) (v : DWord) : DeliveryStep r (push w v) :=
  (deliveryStep_query _).bind fun _ => (deliveryStep_memWrite _ _ _ _).bind fun _ => deliveryStep_update fun s => s.system_setSp _

theorem deliveryStep_pushAllOf (w : Width) (vs : List DWord) : DeliveryStep r (pushAllOf w vs) := by
  induction vs with
  | nil => exact deliveryStep_pure _
  | cons v rest ih => exact (deliveryStep_push w v).bind fun _ => ih

theorem deliveryStep_checkPushes (w count : Nat) : DeliveryStep r (checkPushes w count) :=
  (deliveryStep_query _).bind fun _ => deliveryStep_raiseIf _ (Exc.ofDelivery_ss 0)

/-! ### Descriptors -/

theorem deliveryStep_readDesc (addr : DWord) : DeliveryStep r (readDesc addr) :=
  (deliveryStep_linRead _ _).bind fun _ => (deliveryStep_linRead _ _).bind fun _ => deliveryStep_pure _

theorem deliveryStep_lookup (sel : Word) {e : Exc} (h : e.OfDelivery) : DeliveryStep r (lookup sel e) := by
  refine (deliveryStep_query _).bind fun a => ?_
  cases a with
  | none => exact deliveryStep_raiseExc h
  | some a => exact (deliveryStep_readDesc a).bind fun _ => deliveryStep_pure _

theorem deliveryStep_lookupGdt (sel : Word) {e : Exc} (h : e.OfDelivery) : DeliveryStep r (lookupGdt sel e) :=
  (deliveryStep_raiseIf _ h).bind fun _ => deliveryStep_lookup sel h

theorem deliveryStep_changeAccessRights (addr : DWord) (change : Byte → Byte) :
    DeliveryStep r (changeAccessRights addr change) :=
  (deliveryStep_linRead _ _).bind fun _ => deliveryStep_linWrite _ _ _

theorem deliveryStep_setAccessed (f : Found) : DeliveryStep r (setAccessed f) :=
  deliveryStep_ite _ (deliveryStep_pure _) (deliveryStep_changeAccessRights _ _)

theorem deliveryStep_installCode (f : Found) (sel : Word) (rpl : BitVec 2) (off : DWord) :
    DeliveryStep r (installCode f sel rpl off) :=
  (deliveryStep_setAccessed f).bind fun _ => deliveryStep_update fun _ => rfl

theorem deliveryStep_innerStack (dpl : BitVec 2) : DeliveryStep r (innerStack dpl) :=
  (deliveryStep_query _).bind fun _ => (deliveryStep_raiseIf _ (Exc.ofDelivery_ts _)).bind fun _ =>
    (deliveryStep_linRead _ _).bind fun _ => (deliveryStep_linRead _ _).bind fun _ => deliveryStep_pure _

theorem deliveryStep_checkInnerStack (ss : Word) (dpl : BitVec 2) {e : Exc} (h : e.OfDelivery) :
    DeliveryStep r (checkInnerStack ss dpl e) :=
  have hts := Exc.ofDelivery_ts (selCode ss)
  (deliveryStep_raiseIf _ h).bind fun _ => (deliveryStep_lookup _ hts).bind fun _ => (deliveryStep_raiseIf _ hts).bind fun _ =>
    (deliveryStep_raiseIf _ hts).bind fun _ => (deliveryStep_raiseIf _ hts).bind fun _ =>
      (deliveryStep_raiseIf _ (Exc.ofDelivery_ss _)).bind fun _ => deliveryStep_pure _

/-! ### The task switch (R546) -/

theorem deliveryStep_writeFields (base : DWord) (fields : List (Nat × Nat × DWord)) : DeliveryStep r (writeFields base fields) := by
  induction fields with
  | nil => exact deliveryStep_pure _
  | cons f rest ih => exact (deliveryStep_linWrite _ _ _).bind fun _ => ih

theorem deliveryStep_saveTask (kind : SwitchKind) (ret : DWord) : DeliveryStep r (saveTask kind ret) :=
  (deliveryStep_query _).bind fun _ => deliveryStep_ite _ (deliveryStep_writeFields _ _) (deliveryStep_writeFields _ _)

/-- A field of the TSS is read, and then the others (R116). -/
theorem deliveryStep_readField_bind (base : DWord) (off n : Nat) {f : DWord → Op β} (hf : ∀ v, DeliveryStep r (f v)) :
    DeliveryStep r (readField base off n >>= f) := (deliveryStep_linRead _ _).bind hf

theorem deliveryStep_readTask386 (base : DWord) : DeliveryStep r (readTask386 base) := by
  have setCr3 (v : DWord) : DeliveryStep r (update fun s => { s with cr3 := v }) := deliveryStep_update fun _ => rfl
  refine (deliveryStep_query _).bind fun paged => ?_
  dsimp only
  split
  case isTrue =>
    refine deliveryStep_readField_bind _ _ _ fun v => (setCr3 v).bind fun _ => ?_
    iterate 17 refine deliveryStep_readField_bind _ _ _ fun _ => ?_
    exact deliveryStep_pure _
  case isFalse =>
    iterate 17 refine deliveryStep_readField_bind _ _ _ fun _ => ?_
    exact deliveryStep_pure _

theorem deliveryStep_readHalf (base : DWord) (off : Nat) : DeliveryStep r (readHalf base off) :=
  deliveryStep_readField_bind _ _ _ fun _ => (deliveryStep_of_ok keepsSystem_drawUndef fun _ => ⟨_, _, rfl⟩).bind fun _ =>
    deliveryStep_pure _

theorem deliveryStep_readTask286 (base : DWord) : DeliveryStep r (readTask286 base) := by
  iterate 2 refine deliveryStep_readField_bind _ _ _ fun _ => ?_
  iterate 8 refine (deliveryStep_readHalf _ _).bind fun _ => ?_
  iterate 5 refine deliveryStep_readField_bind _ _ _ fun _ => ?_
  exact deliveryStep_pure _

theorem deliveryStep_switchCommit (new : Found) (sel : Word) (kind : SwitchKind) (ret : DWord) :
    DeliveryStep r (switchCommit new sel kind ret) := by
  have enter (t : TaskImage) : DeliveryStep r (update (fun s => s.enterTask kind t) >>= fun _ => (pure t : Op TaskImage)) :=
    (deliveryStep_update fun s => s.system_enterTask kind t).bind fun _ => deliveryStep_pure t
  have load := deliveryStep_ite (new.desc.is386 = true) ((deliveryStep_readTask386 new.desc.base).bind enter)
    ((deliveryStep_readTask286 new.desc.base).bind enter)
  have link (sel : Word) := deliveryStep_ite (kind = .nest)
    ((deliveryStep_linWrite new.desc.base 2 (sel.setWidth 32)).bind fun _ => load) load
  have tr (sel' : Word) := (deliveryStep_update (r := r) (f := fun s => { s with tr :=
    { sel := sel, base := new.desc.base, limit := new.desc.limit, is386 := new.desc.is386 } }) fun _ => rfl).bind fun _ => link sel'
  have busy (sel' : Word) := deliveryStep_ite (kind = .iret) (tr sel')
    ((deliveryStep_changeAccessRights new.addr fun b => b ||| 2#8).bind fun _ => tr sel')
  exact (deliveryStep_query _).bind fun s => (deliveryStep_saveTask kind ret).bind fun _ => deliveryStep_ite _ (busy s.tr.sel)
    ((deliveryStep_changeAccessRights _ _).bind fun _ => busy s.tr.sel)

/-- A segment register of the new task is loaded from its descriptor, the accessed bit set. -/
theorem deliveryStep_setAccessed_bind (f : Found) {g : State → State} (h : ∀ s, (g s).system = s.system) :
    DeliveryStep r (setAccessed f >>= fun _ => update g) :=
  (deliveryStep_setAccessed f).bind fun _ => deliveryStep_update h

theorem deliveryStep_loadTaskLdt (sel : Word) : DeliveryStep r (loadTaskLdt sel) :=
  have hts := Exc.ofDelivery_ts (selCode sel)
  deliveryStep_ite _ (deliveryStep_pure _) ((deliveryStep_lookupGdt _ hts).bind fun _ => (deliveryStep_raiseIf _ hts).bind fun _ =>
    (deliveryStep_raiseIf _ hts).bind fun _ => deliveryStep_update fun _ => rfl)

theorem deliveryStep_loadTaskCs (sel : Word) : DeliveryStep r (loadTaskCs sel) :=
  have hts := Exc.ofDelivery_ts (selCode sel)
  (deliveryStep_raiseIf _ hts).bind fun _ => (deliveryStep_lookup _ hts).bind fun f => (deliveryStep_raiseIf _ hts).bind fun _ =>
    (deliveryStep_raiseIf _ hts).bind fun _ => (deliveryStep_raiseIf _ (Exc.ofDelivery_np _)).bind fun _ =>
      deliveryStep_setAccessed_bind f fun _ => rfl

theorem deliveryStep_loadTaskSs (sel : Word) : DeliveryStep r (loadTaskSs sel) :=
  have hts := Exc.ofDelivery_ts (selCode sel)
  (deliveryStep_query _).bind fun _ => (deliveryStep_raiseIf _ hts).bind fun _ => (deliveryStep_lookup _ hts).bind fun f =>
    (deliveryStep_raiseIf _ hts).bind fun _ => (deliveryStep_raiseIf _ (Exc.ofDelivery_ss _)).bind fun _ =>
      deliveryStep_setAccessed_bind f fun _ => rfl

theorem deliveryStep_loadTaskData (sr : SReg) (sel : Word) : DeliveryStep r (loadTaskData sr sel) :=
  have hts := Exc.ofDelivery_ts (selCode sel)
  deliveryStep_ite _ (deliveryStep_pure _) ((deliveryStep_query _).bind fun _ => (deliveryStep_lookup _ hts).bind fun f =>
    (deliveryStep_raiseIf _ hts).bind fun _ => (deliveryStep_raiseIf _ hts).bind fun _ =>
      (deliveryStep_raiseIf _ (Exc.ofDelivery_np _)).bind fun _ => deliveryStep_setAccessed_bind f fun _ => rfl)

theorem deliveryStep_loadTask (t : TaskImage) : DeliveryStep r (loadTask t) :=
  (deliveryStep_loadTaskLdt _).bind fun _ => deliveryStep_ite _ (deliveryStep_update fun _ => rfl)
    ((deliveryStep_loadTaskCs _).bind fun _ => (deliveryStep_loadTaskSs _).bind fun _ => (deliveryStep_loadTaskData _ _).bind fun _ =>
      (deliveryStep_loadTaskData _ _).bind fun _ => (deliveryStep_loadTaskData _ _).bind fun _ => deliveryStep_loadTaskData _ _)

theorem deliveryStep_switchTasks (new : Found) (sel : Word) (kind : SwitchKind) (ret : DWord) :
    DeliveryStep r (switchTasks new sel kind ret) :=
  (deliveryStep_raiseIf _ (Exc.ofDelivery_ts _)).bind fun _ => (deliveryStep_atomically (deliveryStep_switchCommit new sel kind ret)).bind
    fun t => deliveryStep_inNewTask (deliveryStep_loadTask t)

/-! ### Delivery (R433 to R443) -/

theorem deliveryStep_deliverReal (n : Nat) (ret : DWord) : DeliveryStep r (deliverReal n ret) :=
  have hdouble : (Exc.plain 8).OfDelivery := List.mem_cons_self
  (deliveryStep_query _).bind fun _ => (deliveryStep_raiseIf _ hdouble).bind fun _ => (deliveryStep_linRead _ _).bind fun _ =>
    (deliveryStep_linRead _ _).bind fun _ => (deliveryStep_pushAllOf _ _).bind fun _ => deliveryStep_update fun _ => rfl

theorem deliveryStep_deliverSame (g : Desc) (cs : Word) (c : Found) (err : Option Word) (ret : DWord) :
    DeliveryStep r (deliverSame g cs c err ret) :=
  deliveryStep_query_id_bind fun s hs => (deliveryStep_checkPushes _ _).bind fun _ =>
    (deliveryStep_raiseIf _ (Exc.ofDelivery_gp 0)).bind fun _ =>
      (deliveryStep_atomically ((deliveryStep_pushAllOf _ _).bind fun _ => deliveryStep_installCode _ _ _ _)).bind fun _ =>
        (deliveryStep_undoneTo ((s.system_markAccessed c).trans hs) (deliveryStep_pushAllOf _ _)).bind fun _ =>
          deliveryStep_update fun _ => rfl

/-- What is done on the stack of another level: the frame is pushed and the handler's CS:EIP loaded (R439, R441). -/
theorem deliveryStep_enterOnStack {enter : State → State} (h : ∀ s, (enter s).system = s.system) (w : Width) (frame : List DWord)
    (c : Found) (cs : Word) (dpl : BitVec 2) (off : DWord) (f : Flags → Flags) :
    DeliveryStep r (atomically do
      update enter
      pushAllOf w frame
      installCode c cs dpl off
      updateFlags f) :=
  deliveryStep_atomically ((deliveryStep_update h).bind fun _ => (deliveryStep_pushAllOf _ _).bind fun _ =>
    (deliveryStep_installCode _ _ _ _).bind fun _ => deliveryStep_update fun _ => rfl)

theorem deliveryStep_deliverInner (g : Desc) (cs : Word) (c : Found) (err : Option Word) (ret : DWord) :
    DeliveryStep r (deliverInner g cs c err ret) :=
  (deliveryStep_query _).bind fun _ => (deliveryStep_innerStack _).bind fun _ =>
    (deliveryStep_checkInnerStack _ _ (Exc.ofDelivery_gp 0)).bind fun _ => (deliveryStep_raiseIf _ (Exc.ofDelivery_ss 0)).bind fun _ =>
      (deliveryStep_raiseIf _ (Exc.ofDelivery_gp 0)).bind fun _ => (deliveryStep_setAccessed _).bind fun _ =>
        deliveryStep_enterOnStack (fun s => s.system_withStack _ _ _ _) _ _ _ _ _ _ _

theorem deliveryStep_deliverV86 (g : Desc) (cs : Word) (c : Found) (err : Option Word) (ret : DWord) :
    DeliveryStep r (deliverV86 g cs c err ret) :=
  (deliveryStep_query _).bind fun _ => (deliveryStep_innerStack _).bind fun (ss, sp) =>
    (deliveryStep_checkInnerStack _ _ (Exc.ofDelivery_gp 0)).bind fun f => (deliveryStep_raiseIf _ (Exc.ofDelivery_ss 0)).bind fun _ =>
      (deliveryStep_raiseIf _ (Exc.ofDelivery_gp 0)).bind fun _ => (deliveryStep_setAccessed _).bind fun _ =>
        deliveryStep_enterOnStack (by exact fun s => s.system_withStack f ss sp 0) _ _ _ _ _ _ _

theorem deliveryStep_deliverGate (idt : Word) (g : Desc) (err : Option Word) (ret : DWord) :
    DeliveryStep r (deliverGate idt g err ret) :=
  have hgp := Exc.ofDelivery_gp
  (deliveryStep_query _).bind fun _ => (deliveryStep_raiseIf _ (hgp 0)).bind fun _ => (deliveryStep_lookup _ (hgp _)).bind fun _ =>
    (deliveryStep_raiseIf _ (hgp _)).bind fun _ => (deliveryStep_raiseIf _ (Exc.ofDelivery_np _)).bind fun _ =>
      deliveryStep_ite _
        ((deliveryStep_raiseIf _ (hgp _)).bind fun _ => (deliveryStep_raiseIf _ (hgp _)).bind fun _ => deliveryStep_deliverV86 _ _ _ _ _)
        (deliveryStep_ite _ (deliveryStep_deliverInner _ _ _ _ _)
          (deliveryStep_ite _ (deliveryStep_deliverSame _ _ _ _ _) (deliveryStep_raiseExc (hgp _))))

theorem deliveryStep_finishTaskGate (is386 : Bool) (err : Option Word) : DeliveryStep r (finishTaskGate is386 err) :=
  (deliveryStep_query _).bind fun _ => (deliveryStep_checkPushes _ _).bind fun _ =>
    (deliveryStep_atomically (deliveryStep_pushAllOf _ _)).bind fun _ => deliveryStep_raiseIf _ (Exc.ofDelivery_gp 0)

/-- A switch to the task that a selector names (R442, R447). -/
theorem deliveryStep_toTask (sel : Word) (fits : Desc → Bool) (kind : SwitchKind) (ret : DWord) {finish : Found → Op Unit}
    (h : ∀ f, DeliveryStep r (finish f)) : DeliveryStep r (toTask sel fits kind ret finish) :=
  have hts := Exc.ofDelivery_ts (selCode sel)
  (deliveryStep_lookupGdt _ hts).bind fun f => (deliveryStep_raiseIf _ hts).bind fun _ =>
    (deliveryStep_raiseIf _ (Exc.ofDelivery_np _)).bind fun _ => (deliveryStep_switchTasks _ _ _ _).bind fun _ =>
      deliveryStep_inNewTask (h f)

theorem deliveryStep_deliverProt (n : Nat) (src : Source) (err : Option Word) (ret : DWord) :
    DeliveryStep r (deliverProt n src err ret) :=
  have hgp := Exc.ofDelivery_gp (BitVec.ofNat 16 (8 * n + 2))
  (deliveryStep_query _).bind fun _ => (deliveryStep_raiseIf _ hgp).bind fun _ => (deliveryStep_readDesc _).bind fun _ =>
    (deliveryStep_raiseIf _ hgp).bind fun _ => (deliveryStep_raiseIf _ hgp).bind fun _ =>
      (deliveryStep_raiseIf _ (Exc.ofDelivery_np _)).bind fun _ => deliveryStep_ite _
        (deliveryStep_toTask _ _ _ _ fun f => deliveryStep_finishTaskGate f.desc.is386 err) (deliveryStep_deliverGate _ _ _ _)

/-- Delivery leaves the system registers alone, and what it raises has one of the six vectors (R433, R530). -/
theorem deliveryStep_deliverOnce (n : Nat) (src : Source) (err : Option Word) (ret : DWord) :
    DeliveryStep r (deliverOnce n src err ret) :=
  (deliveryStep_query _).bind fun _ =>
    have run := deliveryStep_update (f := fun s : State => { s with run := .running }) fun _ => rfl
    deliveryStep_ite _ ((deliveryStep_deliverProt n src err ret).bind fun _ => run)
      ((deliveryStep_atomically (deliveryStep_deliverReal n ret)).bind fun _ => run)

end

end Sys2Proof.Machine
end

section
/-!
PROOFS. The instructions that user code may execute leave the system registers alone (40_arith_logic.md to 46_system.md): each of the
operations they are made of does.
-/
namespace Sys2Proof.Machine

variable {α β : Type}

section
variable {r : SystemRegs}

/-! ### Operands and ports -/

theorem keepsSystem_memWrite (sr : SReg) (off : DWord) (n : Nat) (v : DWord) : KeepsSystem r (memWrite sr off n v) :=
  (deliveryStep_memWrite _ _ _ _).keeps

theorem keepsSystem_writeLoc (sz : Size) (v : DWord) (l : Loc) : KeepsSystem r (writeLoc sz v l) := by
  cases l with
  | reg8 q => exact keepsSystem_update fun s => s.system_setReg8 q _
  | reg q => exact keepsSystem_update fun s => s.system_setRegS sz q v
  | mem seg off => exact keepsSystem_memWrite _ _ _ _

theorem keepsSystem_push (w : Width) (v : DWord) : KeepsSystem r (push w v) := (deliveryStep_push w v).keeps

theorem keepsSystem_pushAllOf (w : Width) (vs : List DWord) : KeepsSystem r (pushAllOf w vs) := (deliveryStep_pushAllOf w vs).keeps

theorem keepsSystem_pop (w : Width) : KeepsSystem r (pop w) :=
  (silent_query _).keeps_bind fun _ => (silent_memRead _ _ _).keeps_bind fun _ =>
    keeps_bind (keepsSystem_update fun s => s.system_setSp _) fun _ => keeps_pure _ _

theorem keepsSystem_popInto (w : Width) (q : Reg) : KeepsSystem r (popInto w q) :=
  keeps_bind (keepsSystem_pop w) fun _ => keepsSystem_update fun s => s.system_setRegW w q _

theorem silent_checkPops (w count : Nat) : Silent (checkPops w count) :=
  silent_bind (silent_query _) fun _ => silent_raiseIf _ _

theorem silent_checkPushes (w count : Nat) : Silent (checkPushes w count) :=
  silent_bind (silent_query _) fun _ => silent_raiseIf _ _

theorem keepsSystem_ioRead (port : Word) (sz : Size) : KeepsSystem r (ioRead port sz) := fun _ h => h

theorem keepsSystem_ioWrite (port : Word) (sz : Size) (v : DWord) : KeepsSystem r (ioWrite port sz v) :=
  keepsSystem_update fun _ => rfl

/-! ### Arithmetic and logic (R200 to R222) -/

theorem keepsSystem_aluLoc (op : AluOp) (sz : Size) (dst : Loc) (b : DWord) : KeepsSystem r (aluLoc op sz dst b) :=
  have flags (a : DWord) : KeepsSystem r (updateFlags (fun f => op.flags sz a b f) >>= fun _ =>
      if op.isLogical then undefFlags { StatusMask.none with af := true } else pure ()) :=
    keeps_bind (keepsSystem_updateFlags _) fun _ => keeps_ite _ (keepsSystem_undefFlags _) (keeps_pure _ _)
  (silent_readLoc _ _).keeps_bind fun a => (silent_query _).keeps_bind fun _ =>
    keeps_ite _ (keeps_bind (keepsSystem_writeLoc _ _ _) fun _ => flags a) (flags a)

/-- An operand is written and the flags are changed. -/
theorem keepsSystem_writeLoc_flags (sz : Size) (v : DWord) (l : Loc) (f : Flags → Flags) :
    KeepsSystem r (writeLoc sz v l >>= fun _ => updateFlags f) :=
  keeps_bind (keepsSystem_writeLoc _ _ _) fun _ => keepsSystem_updateFlags _

theorem keepsSystem_incDecLoc (op : IncDec) (sz : Size) (dst : Loc) : KeepsSystem r (incDecLoc op sz dst) :=
  (silent_readLoc _ _).keeps_bind fun _ => by
    cases op <;> exact keepsSystem_writeLoc_flags _ _ _ _

theorem keepsSystem_negLoc (sz : Size) (dst : Loc) : KeepsSystem r (negLoc sz dst) :=
  (silent_readLoc _ _).keeps_bind fun _ => keepsSystem_writeLoc_flags _ _ _ _

theorem keepsSystem_notLoc (sz : Size) (dst : Loc) : KeepsSystem r (notLoc sz dst) :=
  (silent_readLoc _ _).keeps_bind fun _ => keepsSystem_writeLoc _ _ _

theorem keepsSystem_convertAcc : KeepsSystem r convertAcc :=
  keepsSystem_update fun s => by split <;> exact s.system_setRegS _ _ _

theorem keepsSystem_convertDouble : KeepsSystem r convertDouble := keepsSystem_update fun s => s.system_setRegS _ _ _

theorem State.system_setReg8_twice (s : State) (p q : Reg8) (v w : Byte) : ((s.setReg8 p v).setReg8 q w).system = s.system :=
  ((s.setReg8 p v).system_setReg8 q w).trans (s.system_setReg8 p v)

theorem keepsSystem_asciiAdjust (digit carry : Byte → Byte) : KeepsSystem r (asciiAdjust digit carry) := by
  refine keeps_bind (keepsSystem_update fun s => ?_) fun _ => keepsSystem_undefFlags _
  dsimp only
  split
  · exact s.system_setReg8_twice .al .ah (digit (s.reg8 .al) &&& 0x0F#8) (carry (s.reg8 .ah))
  · exact s.system_setReg8 .al (s.reg8 .al &&& 0x0F#8)

/-- AAD and AAM write AL and AH, and then the flags (R219, R220). -/
theorem keepsSystem_writeAx (p q : Reg8) (v w : State → Byte) :
    KeepsSystem r (update (fun s => (s.setReg8 p (v s)).setReg8 q (w s)) >>= fun _ => adjustFlags) :=
  keeps_bind (keepsSystem_update fun s => s.system_setReg8_twice p q _ _) fun _ =>
    keeps_bind (keepsSystem_update fun _ => rfl) fun _ => keepsSystem_undefFlags _

theorem keepsSystem_aad : KeepsSystem r aad := keepsSystem_writeAx .al .ah _ _

theorem keepsSystem_aam : KeepsSystem r aam := keepsSystem_writeAx .ah .al _ _

theorem keepsSystem_decimalAdjust (change : Byte → Byte → Byte) : KeepsSystem r (decimalAdjust change) :=
  keepsSystem_update fun _ => rfl

/-! ### Moves and the stack (R302 to R332) -/

theorem keepsSystem_movFromSeg (rm : RM Reg) (sr : SReg) : KeepsSystem r (movFromSeg rm sr) := by
  refine (silent_query _).keeps_bind fun s => ?_
  split
  · exact keeps_bind keepsSystem_drawUndef fun _ => keepsSystem_update fun _ => rfl
  · exact keepsSystem_writeLoc _ _ _

/-- A segment register is loaded from its descriptor, the accessed bit set (R117). -/
theorem keepsSystem_setAccessed_bind (f : Found) {g : State → State} (h : ∀ s, (g s).system = s.system) :
    KeepsSystem r (setAccessed f >>= fun _ => update g) := (deliveryStep_setAccessed_bind f h).keeps

theorem keepsSystem_loadSegProt (sr : SReg) (sel : Word) : KeepsSystem r (loadSegProt sr sel) :=
  (silent_query _).keeps_bind fun _ => keeps_ite _
    ((silent_raiseIf _ _).keeps_bind fun _ => (silent_lookup _ _).keeps_bind fun f => (silent_raiseIf _ _).keeps_bind fun _ =>
      (silent_raiseIf _ _).keeps_bind fun _ => (silent_raiseIf _ _).keeps_bind fun _ => (silent_raiseIf _ _).keeps_bind fun _ =>
        keepsSystem_setAccessed_bind f fun _ => rfl)
    (keeps_ite _ (keepsSystem_update fun _ => rfl)
      ((silent_lookup _ _).keeps_bind fun f => (silent_raiseIf _ _).keeps_bind fun _ => (silent_raiseIf _ _).keeps_bind fun _ =>
        (silent_raiseIf _ _).keeps_bind fun _ => keepsSystem_setAccessed_bind f fun _ => rfl))

theorem keepsSystem_loadSeg (sr : SReg) (sel : Word) : KeepsSystem r (loadSeg sr sel) :=
  (silent_query _).keeps_bind fun m => by
    cases m with
    | prot => exact keepsSystem_loadSegProt sr sel
    | real | v86 => exact keepsSystem_update fun _ => rfl

/-- The interrupt shadow is no system register (R52). -/
theorem keepsSystem_shadowAfter (sr : SReg) : KeepsSystem r (shadowAfter sr) :=
  keeps_ite _ (keepsSystem_update fun _ => rfl) (keeps_pure _ _)

theorem keepsSystem_movToSeg (sr : SReg) (rm : RM Reg) : KeepsSystem r (movToSeg sr rm) :=
  (silent_query _).keeps_bind fun _ => (silent_readLoc _ _).keeps_bind fun _ => keeps_bind (keepsSystem_loadSeg _ _) fun _ =>
    keepsSystem_shadowAfter sr

theorem keepsSystem_moveExtended (signed : Bool) (src : Size) (q : Reg) (loc : Loc) :
    KeepsSystem r (moveExtended signed src q loc) :=
  (silent_readLoc _ _).keeps_bind fun _ => (silent_query _).keeps_bind fun _ => keepsSystem_update fun s => s.system_setRegS _ q _

theorem keepsSystem_xchg8 (rm : RM Reg8) (q : Reg8) : KeepsSystem r (xchg8 rm q) :=
  (silent_query _).keeps_bind fun _ => (silent_readLoc _ _).keeps_bind fun _ => keeps_bind (keepsSystem_writeLoc _ _ _) fun _ =>
    keepsSystem_update fun s => s.system_setReg8 q _

theorem keepsSystem_xchgV (rm : RM Reg) (q : Reg) : KeepsSystem r (xchgV rm q) :=
  (silent_query _).keeps_bind fun _ => (silent_readLoc _ _).keeps_bind fun _ => keeps_bind (keepsSystem_writeLoc _ _ _) fun _ =>
    keepsSystem_update fun s => s.system_setRegS _ q _

theorem keepsSystem_tableLookup : KeepsSystem r tableLookup :=
  (silent_query _).keeps_bind fun _ => (silent_memRead _ _ _).keeps_bind fun _ => keepsSystem_update fun s => s.system_setReg8 .al _

theorem keepsSystem_loadAddress (q : Reg) (m : EA) : KeepsSystem r (loadAddress q m) :=
  keepsSystem_update fun s => s.system_setRegS _ q _

theorem silent_readFarPointer (m : EA) : Silent (readFarPointer m) :=
  silent_bind (silent_query _) fun _ => silent_bind (silent_checkSeg _ _ _ _) fun _ => silent_bind (silent_memRead _ _ _) fun _ =>
    silent_bind (silent_memRead _ _ _) fun _ => silent_pure _

theorem keepsSystem_loadPointer (sr : SReg) (q : Reg) (m : EA) : KeepsSystem r (loadPointer sr q m) :=
  (silent_query _).keeps_bind fun _ => (silent_readFarPointer m).keeps_bind fun _ => keeps_bind (keepsSystem_loadSeg _ _) fun _ =>
    keepsSystem_update fun s => s.system_setRegS _ q _

theorem keepsSystem_pushReg (q : Reg) : KeepsSystem r (pushReg q) := (silent_query _).keeps_bind fun _ => keepsSystem_push _ _

theorem keepsSystem_pushImm (imm : DWord) : KeepsSystem r (pushImm imm) := (silent_query _).keeps_bind fun _ => keepsSystem_push _ _

theorem keepsSystem_pushRm (rm : RM Reg) : KeepsSystem r (pushRm rm) :=
  (silent_query _).keeps_bind fun _ => (silent_readLoc _ _).keeps_bind fun _ => keepsSystem_push _ _

theorem keepsSystem_pushSeg (sr : SReg) : KeepsSystem r (pushSeg sr) := by
  refine (silent_query _).keeps_bind fun s => ?_
  split
  · exact keepsSystem_push _ _
  · exact keeps_bind keepsSystem_drawUndef fun _ => keepsSystem_push _ _

theorem keepsSystem_popRm (rm : RM Reg) : KeepsSystem r (popRm rm) :=
  (silent_query _).keeps_bind fun _ => keeps_bind (keepsSystem_pop _) fun _ => (silent_query _).keeps_bind fun _ =>
    keepsSystem_writeLoc _ _ _

theorem keepsSystem_popSeg (sr : SReg) : KeepsSystem r (popSeg sr) :=
  (silent_query _).keeps_bind fun _ => keeps_bind (keepsSystem_pop _) fun _ => keeps_bind (keepsSystem_loadSeg _ _) fun _ =>
    keepsSystem_shadowAfter sr

theorem keepsSystem_pushAll : KeepsSystem r pushAll :=
  (silent_query _).keeps_bind fun _ => (silent_raiseIf _ _).keeps_bind fun _ => keepsSystem_pushAllOf _ _

theorem keepsSystem_popAll : KeepsSystem r popAll :=
  (silent_query _).keeps_bind fun _ => (silent_checkPops _ _).keeps_bind fun _ => keeps_bind (keepsSystem_popInto _ _) fun _ =>
    keeps_bind (keepsSystem_popInto _ _) fun _ => keeps_bind (keepsSystem_popInto _ _) fun _ => keeps_bind (keepsSystem_pop _) fun _ =>
      keeps_bind (keepsSystem_popInto _ _) fun _ => keeps_bind (keepsSystem_popInto _ _) fun _ =>
        keeps_bind (keepsSystem_popInto _ _) fun _ => keepsSystem_popInto _ _

theorem silent_checkV86Iopl : Silent checkV86Iopl := silent_bind (silent_query _) fun _ => silent_raiseIf _ _

theorem keepsSystem_pushFlags : KeepsSystem r pushFlags :=
  silent_checkV86Iopl.keeps_bind fun _ => (silent_query _).keeps_bind fun _ => keepsSystem_push _ _

theorem keepsSystem_popFlags : KeepsSystem r popFlags :=
  silent_checkV86Iopl.keeps_bind fun _ => (silent_query _).keeps_bind fun _ => keeps_bind (keepsSystem_pop _) fun _ =>
    keepsSystem_updateFlags _

theorem keepsSystem_copyFrames (w : Width) (n : Nat) : KeepsSystem r (copyFrames w n) := by
  induction n with
  | zero => exact keeps_pure _ _
  | succ n ih =>
    exact keeps_bind (keepsSystem_update fun s => s.system_setRegW w .ebp _) fun _ => (silent_query _).keeps_bind fun _ =>
      (silent_memRead _ _ _).keeps_bind fun _ => keeps_bind (keepsSystem_push _ _) fun _ => ih

theorem keepsSystem_enterFrame (n : Word) (level : Byte) : KeepsSystem r (enterFrame n level) :=
  have reserve (w : Width) (frame : DWord) : KeepsSystem r (update (fun s => s.setRegW w .ebp frame) >>= fun _ =>
      update fun s => s.setSp (s.sp - n.setWidth 32)) :=
    keeps_bind (keepsSystem_update fun s => s.system_setRegW w .ebp frame) fun _ => keepsSystem_update fun s => s.system_setSp _
  (silent_query _).keeps_bind fun s => keeps_bind (keepsSystem_push _ _) fun _ => (silent_query _).keeps_bind fun frame =>
    keeps_ite _ (reserve s.osz frame) (keeps_bind (keepsSystem_copyFrames _ _) fun _ => keeps_bind (keepsSystem_push _ _) fun _ =>
      reserve s.osz frame)

theorem keepsSystem_leaveFrame : KeepsSystem r leaveFrame :=
  (silent_query _).keeps_bind fun _ => keeps_bind (keepsSystem_update fun s => s.system_setSp _) fun _ => keepsSystem_popInto _ _

theorem silent_boundCheck (q : Reg) (m : EA) : Silent (boundCheck q m) :=
  silent_bind (silent_query _) fun _ => silent_bind (silent_checkSeg _ _ _ _) fun _ => silent_bind (silent_memRead _ _ _) fun _ =>
    silent_bind (silent_memRead _ _ _) fun _ => silent_raiseIf _ _

/-! ### Ports, flag control, HLT and WAIT (R340 to R364) -/

theorem keepsSystem_inPort (port : Word) (sz : Size) : KeepsSystem r (inPort port sz) :=
  (silent_checkIo _ _).keeps_bind fun _ => keeps_bind (keepsSystem_ioRead _ _) fun _ =>
    keepsSystem_update fun s => s.system_setRegS sz .eax _

theorem keepsSystem_outPort (port : Word) (sz : Size) : KeepsSystem r (outPort port sz) :=
  (silent_checkIo _ _).keeps_bind fun _ => (silent_query _).keeps_bind fun _ => keepsSystem_ioWrite _ _ _

theorem silent_checkIopl : Silent checkIopl := silent_bind (silent_query _) fun _ => silent_raiseIf _ _

theorem keepsSystem_clearInterrupt : KeepsSystem r clearInterrupt := silent_checkIopl.keeps_bind fun _ => keepsSystem_updateFlags _

theorem keepsSystem_setInterrupt : KeepsSystem r setInterrupt := silent_checkIopl.keeps_bind fun _ => keepsSystem_update fun _ => rfl

theorem keepsSystem_waitCoprocessor : KeepsSystem r waitCoprocessor :=
  (silent_query _).keeps_bind fun _ => (silent_raiseIf _ _).keeps_bind fun _ => (silent_raiseIf _ _).keeps_bind fun _ =>
    keeps_ite _ (keepsSystem_update fun _ => rfl) (keeps_pure _ _)

/-! ### Multiplication, division, shifts and bits (R251 to R273) -/

/-- The flags are changed, and some of them left undefined. -/
theorem keepsSystem_flags_undef (f : Flags → Flags) (m : StatusMask) : KeepsSystem r (updateFlags f >>= fun _ => undefFlags m) :=
  keeps_bind (keepsSystem_updateFlags _) fun _ => keepsSystem_undefFlags _

theorem keepsSystem_mulLoc (sz : Size) (src : Loc) : KeepsSystem r (mulLoc sz src) :=
  (silent_readLoc _ _).keeps_bind fun _ => (silent_query _).keeps_bind fun _ =>
    keeps_bind (keepsSystem_update fun s => s.system_setWide sz _ _) fun _ => keepsSystem_flags_undef _ _

theorem keepsSystem_imulLoc (sz : Size) (src : Loc) : KeepsSystem r (imulLoc sz src) :=
  (silent_readLoc _ _).keeps_bind fun _ => (silent_query _).keeps_bind fun _ =>
    keeps_bind (keepsSystem_update fun s => s.system_setWide sz _ _) fun _ => keepsSystem_flags_undef _ _

theorem keepsSystem_imulInto (sz : Size) (dst : Reg) (a b : DWord) : KeepsSystem r (imulInto sz dst a b) :=
  keeps_bind (keepsSystem_update fun s => s.system_setRegS sz dst _) fun _ => keepsSystem_flags_undef _ _

theorem keepsSystem_divLoc (sz : Size) (src : Loc) : KeepsSystem r (divLoc sz src) :=
  (silent_readLoc _ _).keeps_bind fun _ => (silent_query _).keeps_bind fun _ => (silent_raiseIf _ _).keeps_bind fun _ =>
    (silent_raiseIf _ _).keeps_bind fun _ => keeps_bind (keepsSystem_update fun s => s.system_setWide sz _ _) fun _ =>
      keepsSystem_undefFlags _

theorem keepsSystem_idivLoc (sz : Size) (src : Loc) : KeepsSystem r (idivLoc sz src) :=
  (silent_readLoc _ _).keeps_bind fun _ => (silent_query _).keeps_bind fun _ => (silent_raiseIf _ _).keeps_bind fun _ =>
    (silent_raiseIf _ _).keeps_bind fun _ => keeps_bind (keepsSystem_update fun s => s.system_setWide sz _ _) fun _ =>
      keepsSystem_undefFlags _

theorem keepsSystem_imul2 (q : Reg) (rm : RM Reg) : KeepsSystem r (imul2 q rm) :=
  (silent_query _).keeps_bind fun _ => (silent_readLoc _ _).keeps_bind fun _ => keepsSystem_imulInto _ _ _ _

theorem keepsSystem_imul3 (q : Reg) (rm : RM Reg) (imm : DWord) : KeepsSystem r (imul3 q rm imm) :=
  (silent_query _).keeps_bind fun _ => (silent_readLoc _ _).keeps_bind fun _ => keepsSystem_imulInto _ _ _ _

theorem keepsSystem_shiftLoc (op : ShiftOp) (n : Nat) (sz : Size) (dst : Loc) : KeepsSystem r (shiftLoc op n sz dst) :=
  (silent_readLoc _ _).keeps_bind fun _ => (silent_query _).keeps_bind fun _ => keeps_bind (keepsSystem_writeLoc _ _ _) fun _ =>
    keepsSystem_flags_undef _ _

theorem keepsSystem_shiftDouble (d : DoubleShift) (rm : RM Reg) (q : Reg) (count : Count) :
    KeepsSystem r (shiftDouble d rm q count) :=
  (silent_query _).keeps_bind fun _ => (silent_readLoc _ _).keeps_bind fun _ => keeps_ite _ ((silent_checkWriteLoc _ _).keeps _)
    (keeps_ite _
      (keeps_bind keepsSystem_drawUndef fun _ => keeps_bind (keepsSystem_writeLoc _ _ _) fun _ => keepsSystem_undefFlags _)
      (keeps_bind (keepsSystem_writeLoc _ _ _) fun _ => keepsSystem_flags_undef _ _))

theorem keepsSystem_bitLoc (op : BitOp) (sz : Size) (dst : Loc) (i : Nat) : KeepsSystem r (bitLoc op sz dst i) :=
  (silent_readLoc _ _).keeps_bind fun _ => keeps_ite _ (keepsSystem_updateFlags _)
    (keeps_bind (keepsSystem_writeLoc _ _ _) fun _ => keepsSystem_updateFlags _)

theorem keepsSystem_bitScan (d : Scan) (q : Reg) (rm : RM Reg) : KeepsSystem r (bitScan d q rm) := by
  refine (silent_query _).keeps_bind fun s => (silent_readLoc _ _).keeps_bind fun v => ?_
  have write (v : DWord) (f : Flags → Flags) : KeepsSystem r (update (fun s' => s'.setRegS s.osz.size q v) >>= fun _ => updateFlags f) :=
    keeps_bind (keepsSystem_update fun s' => s'.system_setRegS _ q v) fun _ => keepsSystem_updateFlags f
  split
  · exact write _ _
  · exact keeps_bind keepsSystem_drawUndef fun _ => write _ _

theorem keepsSystem_setIf (c : Cond) (rm : RM Reg8) : KeepsSystem r (setIf c rm) :=
  (silent_query _).keeps_bind fun _ => keepsSystem_writeLoc _ _ _

/-! ### String instructions (R370 to R378) -/

theorem keepsSystem_advance (q : Reg) (sz : Size) : KeepsSystem r (advance q sz) :=
  keepsSystem_update fun s => s.system_setRegW _ q _

theorem keepsSystem_movs (sz : Size) : KeepsSystem r (movs sz) :=
  (silent_query _).keeps_bind fun _ => (silent_memRead _ _ _).keeps_bind fun _ => keeps_bind (keepsSystem_memWrite _ _ _ _) fun _ =>
    keeps_bind (keepsSystem_advance _ _) fun _ => keepsSystem_advance _ _

theorem keepsSystem_cmps (sz : Size) : KeepsSystem r (cmps sz) :=
  (silent_query _).keeps_bind fun _ => (silent_memRead _ _ _).keeps_bind fun _ => (silent_memRead _ _ _).keeps_bind fun _ =>
    keeps_bind (keepsSystem_updateFlags _) fun _ => keeps_bind (keepsSystem_advance _ _) fun _ => keepsSystem_advance _ _

theorem keepsSystem_scas (sz : Size) : KeepsSystem r (scas sz) :=
  (silent_query _).keeps_bind fun _ => (silent_memRead _ _ _).keeps_bind fun _ => keeps_bind (keepsSystem_updateFlags _) fun _ =>
    keepsSystem_advance _ _

theorem keepsSystem_lods (sz : Size) : KeepsSystem r (lods sz) :=
  (silent_query _).keeps_bind fun _ => (silent_memRead _ _ _).keeps_bind fun _ =>
    keeps_bind (keepsSystem_update fun s => s.system_setRegS sz .eax _) fun _ => keepsSystem_advance _ _

theorem keepsSystem_stos (sz : Size) : KeepsSystem r (stos sz) :=
  (silent_query _).keeps_bind fun _ => keeps_bind (keepsSystem_memWrite _ _ _ _) fun _ => keepsSystem_advance _ _

theorem keepsSystem_ins (sz : Size) : KeepsSystem r (ins sz) :=
  (silent_query _).keeps_bind fun _ => (silent_checkIo _ _).keeps_bind fun _ => (silent_checkWrite _ _ _).keeps_bind fun _ =>
    keeps_bind (keepsSystem_ioRead _ _) fun _ => keeps_bind (keepsSystem_memWrite _ _ _ _) fun _ => keepsSystem_advance _ _

theorem keepsSystem_outs (sz : Size) : KeepsSystem r (outs sz) :=
  (silent_query _).keeps_bind fun _ => (silent_checkIo _ _).keeps_bind fun _ => (silent_memRead _ _ _).keeps_bind fun _ =>
    keeps_bind (keepsSystem_ioWrite _ _ _) fun _ => keepsSystem_advance _ _

theorem keepsSystem_repeated (compares : Bool) {prim : Op Unit} (h : KeepsSystem r prim) : KeepsSystem r (repeated compares prim) := by
  refine (silent_query _).keeps_bind fun s => ?_
  split
  · exact h
  · exact keeps_ite _ (keeps_pure _ _) (keeps_bind h fun _ => keeps_bind (keepsSystem_update fun s => s.system_setRegW _ .ecx _) fun _ =>
      (silent_query _).keeps_bind fun _ => keeps_ite _ (keeps_pure _ _) (keepsSystem_setEip _))

/-! ### Near transfers and the transfers of an 8086 (R390 to R405) -/

theorem keepsSystem_nearBranch (t : DWord) : KeepsSystem r (nearBranch t) :=
  (silent_query _).keeps_bind fun _ => (silent_raiseIf _ _).keeps_bind fun _ => keepsSystem_setEip _

theorem keepsSystem_jumpRel (rel : DWord) : KeepsSystem r (jumpRel rel) :=
  (silent_query _).keeps_bind fun _ => keepsSystem_nearBranch _

theorem keepsSystem_jumpIf (c : Cond) (rel : DWord) : KeepsSystem r (jumpIf c rel) :=
  (silent_query _).keeps_bind fun _ => keeps_ite _ (keepsSystem_jumpRel _) (keeps_pure _ _)

theorem keepsSystem_jumpIfCxZero (rel : Byte) : KeepsSystem r (jumpIfCxZero rel) :=
  (silent_query _).keeps_bind fun _ => keeps_ite _ (keepsSystem_jumpRel _) (keeps_pure _ _)

theorem keepsSystem_loopWhile (c : LoopCond) (rel : Byte) : KeepsSystem r (loopWhile c rel) :=
  keeps_bind (keepsSystem_update fun s => s.system_setRegW _ .ecx _) fun _ => (silent_query _).keeps_bind fun _ =>
    keeps_ite _ (keepsSystem_jumpRel _) (keeps_pure _ _)

theorem keepsSystem_jumpRm (rm : RM Reg) : KeepsSystem r (jumpRm rm) :=
  (silent_query _).keeps_bind fun _ => (silent_readLoc _ _).keeps_bind fun _ => keepsSystem_nearBranch _

theorem keepsSystem_callNear (t : DWord) : KeepsSystem r (callNear t) :=
  (silent_query _).keeps_bind fun _ => (silent_checkPushes _ _).keeps_bind fun _ => (silent_raiseIf _ _).keeps_bind fun _ =>
    keeps_bind (keepsSystem_push _ _) fun _ => keepsSystem_setEip _

theorem keepsSystem_callRel (rel : DWord) : KeepsSystem r (callRel rel) :=
  (silent_query _).keeps_bind fun _ => keepsSystem_callNear _

theorem keepsSystem_callRm (rm : RM Reg) : KeepsSystem r (callRm rm) :=
  (silent_query _).keeps_bind fun _ => (silent_readLoc _ _).keeps_bind fun _ => keepsSystem_callNear _

theorem keepsSystem_dropParams (n : Word) : KeepsSystem r (dropParams n) := keepsSystem_update fun s => s.system_setSp _

theorem keepsSystem_returnNear (n : Word) : KeepsSystem r (returnNear n) :=
  (silent_query _).keeps_bind fun _ => keeps_bind (keepsSystem_pop _) fun _ => keeps_bind (keepsSystem_nearBranch _) fun _ =>
    keepsSystem_dropParams n

theorem keepsSystem_enter8086 (sel : Word) (off : DWord) : KeepsSystem r (enter8086 sel off) :=
  (silent_query _).keeps_bind fun _ => keepsSystem_update fun _ => rfl

theorem keepsSystem_callFar8086 (sel : Word) (off : DWord) : KeepsSystem r (callFar8086 sel off) :=
  (silent_query _).keeps_bind fun _ => (silent_checkPushes _ _).keeps_bind fun _ => keeps_bind (keepsSystem_pushAllOf _ _) fun _ =>
    keepsSystem_enter8086 _ _

theorem keepsSystem_returnFar8086 (n : Word) : KeepsSystem r (returnFar8086 n) :=
  (silent_query _).keeps_bind fun _ => (silent_checkPops _ _).keeps_bind fun _ => keeps_bind (keepsSystem_pop _) fun _ =>
    keeps_bind (keepsSystem_pop _) fun _ => keeps_bind (keepsSystem_enter8086 _ _) fun _ => keepsSystem_dropParams n

/-! ### Far transfers in protected mode (R406 to R418) -/

theorem keepsSystem_transferTo (k : Transfer) (w : Width) (c : Found) (cs : Word) (t : DWord) : KeepsSystem r (transferTo k w c cs t) :=
  have install (cpl : BitVec 2) : KeepsSystem r (installCode c cs cpl t) := (deliveryStep_installCode c cs cpl t).keeps
  (silent_query _).keeps_bind fun s => (silent_raiseIf _ _).keeps_bind fun _ => (silent_raiseIf _ _).keeps_bind fun _ =>
    keeps_atomically (keeps_ite _ (keeps_bind (keepsSystem_pushAllOf _ _) fun _ => install s.cpl) (install s.cpl))

theorem keepsSystem_farToCode (k : Transfer) (d : Found) (sel : Word) (off : DWord) : KeepsSystem r (farToCode k d sel off) :=
  have enter (w : Width) : KeepsSystem r (raiseIf (!d.desc.p) (Exc.np (selCode sel)) >>= fun _ => transferTo k w d sel (truncTo w off)) :=
    (silent_raiseIf _ _).keeps_bind fun _ => keepsSystem_transferTo _ _ _ _ _
  (silent_query _).keeps_bind fun s => keeps_ite _ ((silent_raiseIf _ _).keeps_bind fun _ => enter s.osz)
    ((silent_raiseIf _ _).keeps_bind fun _ => (silent_raiseIf _ _).keeps_bind fun _ => enter s.osz)

theorem keepsSystem_copyParams (old : State) (w : Width) (n : Nat) : KeepsSystem r (copyParams old w n) := by
  induction n with
  | zero => exact keeps_pure _ _
  | succ n ih => exact (silent_readParam old w n).keeps_bind fun _ => keeps_bind (keepsSystem_push _ _) fun _ => ih

theorem keepsSystem_callInner (g : Desc) (c : Found) (cs : Word) : KeepsSystem r (callInner g c cs) :=
  (silent_query _).keeps_bind fun _ => (silent_innerStack _).keeps_bind fun _ => (silent_checkInnerStack _ _ _).keeps_bind fun f =>
    (silent_raiseIf _ _).keeps_bind fun _ => (silent_raiseIf _ _).keeps_bind fun _ =>
      keeps_bind (deliveryStep_setAccessed f).keeps fun _ => keeps_atomically <|
        keeps_bind (keepsSystem_update fun s => s.system_withStack _ _ _ _) fun _ => keeps_bind (keepsSystem_pushAllOf _ _) fun _ =>
          keeps_bind (keepsSystem_copyParams _ _ _) fun _ => keeps_bind (keepsSystem_pushAllOf _ _) fun _ =>
            (deliveryStep_installCode _ _ _ _).keeps

theorem keepsSystem_farThroughGate (k : Transfer) (g : Desc) (sel : Word) : KeepsSystem r (farThroughGate k g sel) := by
  refine (silent_query _).keeps_bind fun s => (silent_raiseIf _ _).keeps_bind fun _ => (silent_raiseIf _ _).keeps_bind fun _ =>
    (silent_raiseIf _ _).keeps_bind fun _ => (silent_raiseIf _ _).keeps_bind fun _ => (silent_lookup _ _).keeps_bind fun c =>
      (silent_raiseIf _ _).keeps_bind fun _ => ?_
  have enter (k : Transfer) := (silent_raiseIf (!c.desc.p) (Exc.np (selCode g.gateSelector))).keeps_bind fun _ =>
    keeps_ite ((k == .call && !c.desc.isConforming && decide (c.desc.dpl < s.cpl)) = true)
      (keepsSystem_callInner (r := r) g c g.gateSelector) (keepsSystem_transferTo k g.gateWidth c g.gateSelector g.gateOffset)
  cases k with
  | jmp => exact (silent_raiseIf _ _).keeps_bind fun _ => (silent_raiseIf _ _).keeps_bind fun _ => enter .jmp
  | call => exact (silent_raiseIf _ _).keeps_bind fun _ => enter .call

theorem keepsSystem_switchTasks (new : Found) (sel : Word) (kind : SwitchKind) (ret : DWord) :
    KeepsSystem r (switchTasks new sel kind ret) := (deliveryStep_switchTasks new sel kind ret).keeps

theorem keepsSystem_farSwitch (k : Transfer) (f : Found) (ts : Word) : KeepsSystem r (farSwitch k f ts) :=
  (silent_query _).keeps_bind fun _ => keeps_bind (keepsSystem_switchTasks _ _ _ _) fun _ =>
    keeps_inNewTask ((silent_query _).keeps_bind fun _ => keeps_raiseIf _ _ _)

theorem keepsSystem_farThroughTaskGate (k : Transfer) (g : Desc) (sel : Word) : KeepsSystem r (farThroughTaskGate k g sel) :=
  (silent_query _).keeps_bind fun _ => (silent_raiseIf _ _).keeps_bind fun _ => (silent_raiseIf _ _).keeps_bind fun _ =>
    (silent_lookupGdt _ _).keeps_bind fun _ => (silent_raiseIf _ _).keeps_bind fun _ => (silent_raiseIf _ _).keeps_bind fun _ =>
      keepsSystem_farSwitch _ _ _

theorem keepsSystem_farToTss (k : Transfer) (f : Found) (sel : Word) : KeepsSystem r (farToTss k f sel) :=
  (silent_query _).keeps_bind fun _ => (silent_raiseIf _ _).keeps_bind fun _ => (silent_raiseIf _ _).keeps_bind fun _ =>
    (silent_raiseIf _ _).keeps_bind fun _ => (silent_raiseIf _ _).keeps_bind fun _ => keepsSystem_farSwitch _ _ _

theorem keepsSystem_farProt (k : Transfer) (sel : Word) (off : DWord) : KeepsSystem r (farProt k sel off) :=
  (silent_raiseIf _ _).keeps_bind fun _ => (silent_lookup _ _).keeps_bind fun _ => keeps_ite _ (keepsSystem_farToCode _ _ _ _) <|
    keeps_ite _ (keepsSystem_farThroughGate _ _ _) <| keeps_ite _ (keepsSystem_farThroughTaskGate _ _ _) <|
      keeps_ite _ (keepsSystem_farToTss _ _ _) (keeps_raiseExc _ _)

theorem keepsSystem_farTransfer (k : Transfer) (sel : Word) (off : DWord) : KeepsSystem r (farTransfer k sel off) := by
  have outside : KeepsSystem r (match k with
      | .jmp => enter8086 sel off
      | .call => atomically (callFar8086 sel off)) := by
    cases k with
    | jmp => exact keepsSystem_enter8086 _ _
    | call => exact keeps_atomically (keepsSystem_callFar8086 _ _)
  refine (silent_query _).keeps_bind fun m => ?_
  cases m with
  | prot => exact keepsSystem_farProt _ _ _
  | real | v86 => exact outside

theorem keepsSystem_farIndirect (k : Transfer) (m : EA) : KeepsSystem r (farIndirect k m) :=
  (silent_readFarPointer m).keeps_bind fun _ => keepsSystem_farTransfer _ _ _

theorem keepsSystem_returnSame (w : Width) (rs n : Word) : KeepsSystem r (returnSame w rs n) :=
  (silent_query _).keeps_bind fun _ => (silent_checkReturnCode _ _).keeps_bind fun c => (silent_checkStackRead _).keeps_bind fun _ =>
    (silent_stackRead _ _).keeps_bind fun _ => (silent_raiseIf _ _).keeps_bind fun _ =>
      keepsSystem_setAccessed_bind c fun s => (s.withCode c rs _ _).system_setSp _

/-- The registers of a return to an outer level, both accessed bits set (R417, R440). -/
theorem keepsSystem_returnToOuter (c f : Found) {g : State → State} (h : ∀ s, (g s).system = s.system) :
    KeepsSystem r (setAccessed c >>= fun _ => setAccessed f >>= fun _ => update g) :=
  keeps_bind (deliveryStep_setAccessed c).keeps fun _ => keepsSystem_setAccessed_bind f h

theorem keepsSystem_returnOuter (w : Width) (rs n : Word) : KeepsSystem r (returnOuter w rs n) :=
  (silent_checkStackRead _).keeps_bind fun _ => (silent_checkReturnCode _ _).keeps_bind fun c =>
    (silent_stackRead _ _).keeps_bind fun nsp => (silent_stackRead _ _).keeps_bind fun nss =>
      (silent_checkReturnStack _ _).keeps_bind fun f => (silent_stackRead _ _).keeps_bind fun off => (silent_raiseIf _ _).keeps_bind
        fun _ => keepsSystem_returnToOuter c f fun t =>
          (t.withCode c rs (selRpl rs) off).system_withStack f (nss.setWidth 16) nsp (selRpl rs)

theorem keepsSystem_returnProt (n : Word) : KeepsSystem r (returnProt n) :=
  (silent_query _).keeps_bind fun _ => (silent_checkStackRead _).keeps_bind fun _ => (silent_stackRead _ _).keeps_bind fun _ =>
    (silent_raiseIf _ _).keeps_bind fun _ => keeps_ite _ (keepsSystem_returnSame _ _ _) (keepsSystem_returnOuter _ _ _)

theorem keepsSystem_returnFar (n : Word) : KeepsSystem r (returnFar n) := by
  refine (silent_query _).keeps_bind fun m => ?_
  cases m with
  | prot => exact keepsSystem_returnProt n
  | real | v86 => exact keeps_atomically (keepsSystem_returnFar8086 n)

/-! ### Interrupts and IRET (R430 to R448) -/

theorem keepsSystem_softwareInterrupt (n : Nat) : KeepsSystem r (softwareInterrupt n) :=
  (silent_query _).keeps_bind fun _ => (deliveryStep_deliverOnce _ _ _ _).keeps

theorem keepsSystem_interruptVector (n : Byte) : KeepsSystem r (interruptVector n) :=
  silent_checkV86Iopl.keeps_bind fun _ => keepsSystem_softwareInterrupt _

theorem keepsSystem_interruptOnOverflow : KeepsSystem r interruptOnOverflow :=
  (silent_query _).keeps_bind fun _ => keeps_ite _ (keepsSystem_softwareInterrupt _) (keeps_pure _ _)

theorem keepsSystem_iret8086 : KeepsSystem r iret8086 :=
  (silent_query _).keeps_bind fun _ => (silent_checkPops _ _).keeps_bind fun _ => keeps_bind (keepsSystem_pop _) fun _ =>
    keeps_bind (keepsSystem_pop _) fun _ => keeps_bind (keepsSystem_pop _) fun _ => keepsSystem_update fun _ => rfl

theorem keepsSystem_iretSame (w : Width) (rs : Word) : KeepsSystem r (iretSame w rs) :=
  (silent_query _).keeps_bind fun _ => (silent_checkStackRead _).keeps_bind fun _ => (silent_checkReturnCode _ _).keeps_bind fun c =>
    (silent_stackRead _ _).keeps_bind fun off => (silent_raiseIf _ _).keeps_bind fun _ => (silent_stackRead _ _).keeps_bind fun _ =>
      keepsSystem_setAccessed_bind c fun t =>
        (t.withCode c rs (selRpl rs) off).system_setSp (t.sp + BitVec.ofNat 32 (3 * w.bytes))

theorem keepsSystem_iretOuter (w : Width) (rs : Word) : KeepsSystem r (iretOuter w rs) :=
  (silent_checkStackRead _).keeps_bind fun _ => (silent_checkReturnCode _ _).keeps_bind fun c =>
    (silent_stackRead _ _).keeps_bind fun nsp => (silent_stackRead _ _).keeps_bind fun nss =>
      (silent_checkReturnStack _ _).keeps_bind fun f => (silent_stackRead _ _).keeps_bind fun off =>
        (silent_raiseIf _ _).keeps_bind fun _ => (silent_stackRead _ _).keeps_bind fun _ => keepsSystem_returnToOuter c f fun t =>
          (t.withCode c rs (selRpl rs) off).system_withStack f (nss.setWidth 16) nsp (selRpl rs)

theorem keepsSystem_iretV86 : KeepsSystem r iretV86 := by
  refine (silent_checkStackRead _).keeps_bind fun _ => ?_
  iterate 9 refine (silent_stackRead _ _).keeps_bind fun _ => ?_
  exact keepsSystem_update fun _ => rfl

theorem keepsSystem_iretTask : KeepsSystem r iretTask :=
  (silent_query _).keeps_bind fun _ => (silent_linRead _ _).keeps_bind fun _ => (deliveryStep_toTask _ _ _ _ fun _ =>
    (deliveryStep_query _).bind fun _ => deliveryStep_raiseIf _ (Exc.ofDelivery_gp 0)).keeps

theorem keepsSystem_iretProt : KeepsSystem r iretProt :=
  have level (w : Width) (rs : Word) (cpl : BitVec 2) (img : DWord) : KeepsSystem r (if img.getLsbD 17 then iretV86 else do
      raiseIf (decide (selRpl rs < cpl)) (Exc.gp (selCode rs))
      if selRpl rs = cpl then iretSame w rs else iretOuter w rs) :=
    keeps_ite _ keepsSystem_iretV86
      ((silent_raiseIf _ _).keeps_bind fun _ => keeps_ite _ (keepsSystem_iretSame _ _) (keepsSystem_iretOuter _ _))
  (silent_query _).keeps_bind fun s => keeps_ite _ keepsSystem_iretTask
    ((silent_checkStackRead _).keeps_bind fun _ => (silent_stackRead _ _).keeps_bind fun rs =>
      keeps_ite _ ((silent_stackRead _ _).keeps_bind fun img => level s.osz (rs.setWidth 16) s.cpl img)
        (level s.osz (rs.setWidth 16) s.cpl 0))

theorem keepsSystem_interruptReturn : KeepsSystem r interruptReturn := by
  refine silent_checkV86Iopl.keeps_bind fun _ => (silent_query _).keeps_bind fun m => ?_
  cases m with
  | prot => exact keepsSystem_iretProt
  | real | v86 => exact keeps_atomically keepsSystem_iret8086

/-! ### System instructions (R451 to R465) -/

theorem silent_checkRecognized : Silent checkRecognized := silent_bind (silent_query _) fun _ => silent_raiseIf _ _

theorem silent_checkPrivileged : Silent checkPrivileged := silent_bind (silent_query _) fun _ => silent_raiseIf _ _

theorem silent_readRm16 (rm : RM Reg) : Silent (readRm16 rm) :=
  silent_bind (silent_query _) fun _ => silent_bind (silent_readLoc _ _) fun _ => silent_pure _

theorem silent_readSelector (rm : RM Reg) : Silent (readSelector rm) :=
  silent_bind (silent_query _) fun _ => silent_bind (silent_readLoc _ _) fun _ => silent_pure _

theorem keepsSystem_writeRm16 (rm : RM Reg) (v : Word) : KeepsSystem r (writeRm16 rm v) :=
  (silent_query _).keeps_bind fun _ => keepsSystem_writeLoc _ _ _

theorem keepsSystem_setZf (b : Bool) : KeepsSystem r (setZf b) := keepsSystem_updateFlags _

theorem keepsSystem_adjustRpl (rm : RM Reg) (q : Reg) : KeepsSystem r (adjustRpl rm q) :=
  silent_checkRecognized.keeps_bind fun _ => (silent_query _).keeps_bind fun _ => (silent_readRm16 _).keeps_bind fun _ =>
    (silent_checkWriteLoc _ _).keeps_bind fun _ => keeps_ite _ (keeps_bind (keepsSystem_writeRm16 _ _) fun _ => keepsSystem_setZf _)
      (keepsSystem_setZf _)

/-- Probing a selector changes nothing (R451). -/
theorem silent_probe (sel : Word) : Silent (probe sel) := by
  refine silent_ite _ (silent_pure _) (silent_bind (silent_query _) fun a => ?_)
  cases a with
  | none => exact silent_pure _
  | some a => exact silent_bind (silent_readDesc a) fun _ => silent_pure _

/-- What follows a probe changes ZF, and where a descriptor is found what `found` does (R451). -/
theorem keepsSystem_probe_bind (sel : Word) {found : Desc → Op Unit} (h : ∀ d, KeepsSystem r (found d)) :
    KeepsSystem r (probe sel >>= fun
      | some d => found d
      | none => setZf false) := by
  refine (silent_probe sel).keeps_bind fun d => ?_
  cases d with
  | none => exact keepsSystem_setZf _
  | some d => exact h d

theorem keepsSystem_loadAccessRights (q : Reg) (rm : RM Reg) : KeepsSystem r (loadAccessRights q rm) :=
  silent_checkRecognized.keeps_bind fun _ => (silent_readSelector _).keeps_bind fun sel => (silent_query _).keeps_bind fun _ =>
    keepsSystem_probe_bind sel fun _ => keeps_ite _
      (keeps_bind keepsSystem_drawUndef fun _ =>
        keeps_bind (keepsSystem_update fun s => s.system_setRegS _ q _) fun _ => keepsSystem_setZf _)
      (keepsSystem_setZf _)

theorem keepsSystem_loadSegmentLimit (q : Reg) (rm : RM Reg) : KeepsSystem r (loadSegmentLimit q rm) :=
  silent_checkRecognized.keeps_bind fun _ => (silent_readSelector _).keeps_bind fun sel => (silent_query _).keeps_bind fun _ =>
    keepsSystem_probe_bind sel fun _ => keeps_ite _
      (keeps_bind (keepsSystem_update fun s => s.system_setRegS _ q _) fun _ => keepsSystem_setZf _) (keepsSystem_setZf _)

theorem keepsSystem_verify (test : Desc → Word → BitVec 2 → Bool) (rm : RM Reg) : KeepsSystem r (verify test rm) :=
  silent_checkRecognized.keeps_bind fun _ => (silent_readRm16 _).keeps_bind fun sel => (silent_query _).keeps_bind fun _ =>
    keepsSystem_probe_bind sel fun _ => keepsSystem_setZf _

theorem keepsSystem_storeTable (t : State → TableReg) (m : EA) : KeepsSystem r (storeTable t m) :=
  (silent_query _).keeps_bind fun _ => (silent_checkSeg _ _ _ _).keeps_bind fun _ => keeps_bind (keepsSystem_memWrite _ _ _ _) fun _ =>
    keepsSystem_memWrite _ _ _ _

theorem keepsSystem_loadLdt (rm : RM Reg) : KeepsSystem r (loadLdt rm) :=
  silent_checkRecognized.keeps_bind fun _ => silent_checkPrivileged.keeps_bind fun _ => (silent_readRm16 _).keeps_bind fun _ =>
    keeps_ite _ (keepsSystem_update fun _ => rfl) ((silent_lookupGdt _ _).keeps_bind fun _ => (silent_raiseIf _ _).keeps_bind fun _ =>
      (silent_raiseIf _ _).keeps_bind fun _ => keepsSystem_update fun _ => rfl)

theorem keepsSystem_loadTaskRegister (rm : RM Reg) : KeepsSystem r (loadTaskRegister rm) :=
  silent_checkRecognized.keeps_bind fun _ => silent_checkPrivileged.keeps_bind fun _ => (silent_readRm16 _).keeps_bind fun _ =>
    (silent_raiseIf _ _).keeps_bind fun _ => (silent_lookupGdt _ _).keeps_bind fun _ => (silent_raiseIf _ _).keeps_bind fun _ =>
      (silent_raiseIf _ _).keeps_bind fun _ => keeps_bind (deliveryStep_changeAccessRights _ _).keeps fun _ =>
        keepsSystem_update fun _ => rfl

theorem keepsSystem_storeLdt (rm : RM Reg) : KeepsSystem r (storeLdt rm) :=
  silent_checkRecognized.keeps_bind fun _ => (silent_query _).keeps_bind fun _ => keepsSystem_writeRm16 _ _

theorem keepsSystem_storeTaskRegister (rm : RM Reg) : KeepsSystem r (storeTaskRegister rm) :=
  silent_checkRecognized.keeps_bind fun _ => (silent_query _).keeps_bind fun _ => keepsSystem_writeRm16 _ _

theorem keepsSystem_storeMsw (rm : RM Reg) : KeepsSystem r (storeMsw rm) :=
  (silent_query _).keeps_bind fun _ => keepsSystem_writeRm16 _ _

end

end Sys2Proof.Machine
end

section
/-!
PROOFS. User code and the system registers (46_system.md R450, 60_exceptions.md R538): whatever an instruction at CPL 1 to 3 does,
taking its exceptions included, GDTR, IDTR, the debug and the test registers and PE stay.
-/
namespace Sys2Proof.Machine

open Sys2Proof.Claims

/-! ### Taking an exception (R503, R520, R530) -/

/-- A chain of deliveries leaves the system registers alone but for CR2, which each page fault in it loads (R47, R530). -/
theorem system_deliverFrom (k n : Nat) (src : Source) (err : Option Word) (ret : DWord) (s : State) :
    ∃ c, (deliverFrom k n src err ret s).system = { s.system with cr2 := c } := by
  induction k generalizing n src err ret s with
  | zero => exact ⟨s.cr2, rfl⟩
  | succ k ih =>
    have hkeeps := (deliveryStep_deliverOnce (r := s.system) n src err ret).keeps s rfl
    cases h : deliverOnce n src err ret s with
    | ok _ u =>
      rw [h] at hkeeps
      exact ⟨s.cr2, by rw [deliverFrom_of_ok h]; exact hkeeps⟩
    | error e u =>
      rw [h] at hkeeps
      have hu : u.system = s.system := hkeeps
      have noted (c : DWord) : ({ (u.noteFault e).system with cr2 := c } : SystemRegs) = { s.system with cr2 := c } :=
        congrArg (fun r : SystemRegs => { r with cr2 := c }) hu
      rw [deliverFrom_of_error h]
      dsimp only
      split
      · exact ⟨_, noted (u.noteFault e).cr2⟩
      · split
        · obtain ⟨c, hc⟩ := ih 8 .exception (some 0) (if e.inNewTask then (u.noteFault e).insnStart else ret) (u.noteFault e)
          exact ⟨c, hc.trans (noted c)⟩
        · obtain ⟨c, hc⟩ := ih e.vector .exception (externalCode e) (if e.inNewTask then (u.noteFault e).insnStart else ret)
            (u.noteFault e)
          exact ⟨c, hc.trans (noted c)⟩

/-- Whatever next state an outcome answers has the system registers of `s`, CR2 apart. -/
def NextKeepsSystem (s : State) (go : Host.Outcome State Fault Refusal) : Prop :=
  ∀ t, go = .next t → ∃ c, t.system = { s.system with cr2 := c }

section
variable {s : State}

theorem nextKeepsSystem_of_same {t : State} (h : t.system = s.system) : NextKeepsSystem s (.next t) := by
  rintro u ⟨⟩
  exact ⟨s.cr2, h⟩

/-- An exception may be taken in another state than `s`: that of the new task after a switch (R545). -/
theorem nextKeepsSystem_raise {u : State} (h : u.system = s.system) (e : Exc) : NextKeepsSystem s (.next (u.raise e)) := by
  rintro t ⟨⟩
  obtain ⟨c, hc⟩ := system_deliverFrom 5 e.vector .exception e.code u.insnStart
    { u.noteFault e with trapDue := false, eip := u.insnStart }
  exact ⟨c, hc.trans (congrArg (fun r : SystemRegs => { r with cr2 := c }) h)⟩

theorem nextKeepsSystem_complete {x : Op Unit} (hx : KeepsSystem s.system x) : NextKeepsSystem s (complete x s) := by
  have hend := hx s rfl
  cases h : x s with
  | ok _ u =>
    rw [h] at hend
    exact complete_of_ok h ▸ nextKeepsSystem_of_same hend
  | error e u =>
    rw [h] at hend
    exact complete_of_error h ▸ nextKeepsSystem_raise hend e

theorem nextKeepsSystem_instr {x : Op Unit} (hx : KeepsSystem s.system x) : NextKeepsSystem s (instr x s) :=
  nextKeepsSystem_complete (keeps_atomically hx)

/-- An ESC instruction takes an exception, or is refused (R176). -/
theorem nextKeepsSystem_esc (s : State) (a b : BitVec 3) (rm : RM Reg) : NextKeepsSystem s (exec (.esc a b rm) s) := by
  have hexec : exec (.esc a b rm) s = execEsc a b rm s := rfl
  rw [hexec, execEsc]
  split
  · exact nextKeepsSystem_raise rfl _
  · split
    · exact nextKeepsSystem_raise rfl _
    · rintro t ⟨⟩

end

/-! ### The families of forms

Each takes the one meaning of its forms from the lemma that says it.
-/

theorem silent_readSrc (sz : Size) (x : Src) : Silent (readSrc sz x) := by
  cases x with
  | loc l => exact silent_readLoc sz l
  | imm v => exact silent_pure v

theorem keepsSystem_unaryLoc {r : SystemRegs} (u : Unary) (sz : Size) (l : Loc) : KeepsSystem r (unaryLoc u sz l) := by
  cases u with
  | inc => exact keepsSystem_incDecLoc .inc sz l
  | dec => exact keepsSystem_incDecLoc .dec sz l
  | neg => exact keepsSystem_negLoc sz l
  | not => exact keepsSystem_notLoc sz l

theorem keepsSystem_of_stringForm {r : SystemRegs} {i : Instr} {s : State} {sz z : Size} {b : Bool} {f : Size → Op Unit}
    (h : stringForm s i = some (sz, b, f)) : KeepsSystem r (f z) := by
  cases i
  case movsb | movsv => cases h; exact keepsSystem_movs z
  case cmpsb | cmpsv => cases h; exact keepsSystem_cmps z
  case scasb | scasv => cases h; exact keepsSystem_scas z
  case lodsb | lodsv => cases h; exact keepsSystem_lods z
  case stosb | stosv => cases h; exact keepsSystem_stos z
  case insb | insv => cases h; exact keepsSystem_ins z
  case outsb | outsv => cases h; exact keepsSystem_outs z
  all_goals cases h

section
variable {s : State} {i : Instr}

theorem nextKeepsSystem_of_instr {x : Op Unit} (h : exec i s = instr x s) (hx : KeepsSystem s.system x) :
    NextKeepsSystem s (exec i s) :=
  h ▸ nextKeepsSystem_instr hx

theorem nextKeepsSystem_of_aluForm {f : AluForm} (h : aluForm s i = some f) : NextKeepsSystem s (exec i s) :=
  nextKeepsSystem_of_instr (exec_of_aluForm h) ((silent_readSrc _ _).keeps_bind fun _ => keepsSystem_aluLoc _ _ _ _)

theorem nextKeepsSystem_of_unaryForm {u : Unary} {sz : Size} {l : Loc} (h : unaryForm s i = some (u, sz, l)) :
    NextKeepsSystem s (exec i s) :=
  nextKeepsSystem_of_instr (exec_of_unaryForm h) (keepsSystem_unaryLoc u sz l)

theorem nextKeepsSystem_of_mulForm {signed : Bool} {sz : Size} {l : Loc} (h : mulForm s i = some (signed, sz, l)) :
    NextKeepsSystem s (exec i s) :=
  nextKeepsSystem_of_instr (exec_of_mulForm h) <| by
    cases signed with
    | true => exact keepsSystem_imulLoc sz l
    | false => exact keepsSystem_mulLoc sz l

theorem nextKeepsSystem_of_divForm {signed : Bool} {sz : Size} {l : Loc} (h : divForm s i = some (signed, sz, l)) :
    NextKeepsSystem s (exec i s) :=
  nextKeepsSystem_of_instr (exec_of_divForm h) <| by
    cases signed with
    | true => exact keepsSystem_idivLoc sz l
    | false => exact keepsSystem_divLoc sz l

theorem nextKeepsSystem_of_shiftForm {f : ShiftForm} (h : shiftForm s i = some f) : NextKeepsSystem s (exec i s) :=
  nextKeepsSystem_of_instr (exec_of_shiftForm h) (keepsSystem_shiftLoc _ _ _ _)

theorem nextKeepsSystem_of_doubleForm {f : DoubleShift × Loc × Reg × Nat} (h : doubleForm s i = some f) :
    NextKeepsSystem s (exec i s) :=
  have ⟨_, _, _, _, hexec⟩ := exec_of_doubleForm h
  nextKeepsSystem_of_instr hexec (keepsSystem_shiftDouble _ _ _ _)

theorem nextKeepsSystem_of_bitForm {f : BitOp × Loc × Nat} (h : bitForm s i = some f) : NextKeepsSystem s (exec i s) :=
  nextKeepsSystem_of_instr (exec_of_bitForm h).1 (keepsSystem_bitLoc _ _ _ _)

theorem nextKeepsSystem_of_setForm {f : Cond × RM Reg8} (h : setForm i = some f) : NextKeepsSystem s (exec i s) :=
  nextKeepsSystem_of_instr (exec_of_setForm h s) (keepsSystem_setIf _ _)

theorem nextKeepsSystem_of_movForm {f : Size × Loc × Src} (h : movForm s i = some f) : NextKeepsSystem s (exec i s) :=
  nextKeepsSystem_of_instr (exec_of_movForm h) ((silent_readSrc _ _).keeps_bind fun _ => keepsSystem_writeLoc _ _ _)

theorem nextKeepsSystem_of_extendForm {f : Bool × Size × Reg × Loc} (h : extendForm s i = some f) : NextKeepsSystem s (exec i s) :=
  nextKeepsSystem_of_instr (exec_of_extendForm h).1 (keepsSystem_moveExtended _ _ _ _)

theorem nextKeepsSystem_of_pushSegForm {sr : SReg} (h : pushSegForm i = some sr) : NextKeepsSystem s (exec i s) :=
  nextKeepsSystem_of_instr (exec_of_pushSegForm h s) (keepsSystem_pushSeg sr)

theorem nextKeepsSystem_of_popSegForm {sr : SReg} (h : popSegForm i = some sr) : NextKeepsSystem s (exec i s) :=
  nextKeepsSystem_of_instr (exec_of_popSegForm h s) (keepsSystem_popSeg sr)

theorem nextKeepsSystem_of_popForm {x : RM Reg} (h : popForm i = some x) : NextKeepsSystem s (exec i s) :=
  nextKeepsSystem_of_instr (exec_of_popForm h s) (keepsSystem_popRm x)

theorem nextKeepsSystem_of_pointerForm {f : SReg × Reg × EA} (h : pointerForm i = some f) : NextKeepsSystem s (exec i s) :=
  nextKeepsSystem_of_instr (exec_of_pointerForm h s) (keepsSystem_loadPointer _ _ _)

theorem nextKeepsSystem_of_inForm {f : Word × Size} (h : inForm s i = some f) : NextKeepsSystem s (exec i s) :=
  nextKeepsSystem_of_instr (exec_of_inForm h) (keepsSystem_inPort _ _)

theorem nextKeepsSystem_of_outForm {f : Word × Size} (h : outForm s i = some f) : NextKeepsSystem s (exec i s) :=
  nextKeepsSystem_of_instr (exec_of_outForm h) (keepsSystem_outPort _ _)

theorem nextKeepsSystem_of_stringForm {sz : Size} {b : Bool} {f : Size → Op Unit} (h : stringForm s i = some (sz, b, f)) :
    NextKeepsSystem s (exec i s) :=
  nextKeepsSystem_of_instr (exec_of_stringForm h) (keepsSystem_repeated b (keepsSystem_of_stringForm h))

theorem nextKeepsSystem_of_jumpForm {f : Cond × DWord} (h : jumpForm i = some f) : NextKeepsSystem s (exec i s) :=
  nextKeepsSystem_of_instr (exec_of_jumpForm h s) (keepsSystem_jumpIf _ _)

theorem nextKeepsSystem_of_loopForm {f : LoopCond × Byte} (h : loopForm i = some f) : NextKeepsSystem s (exec i s) :=
  nextKeepsSystem_of_instr (exec_of_loopForm h s) (keepsSystem_loopWhile _ _)

theorem nextKeepsSystem_of_prefixForm {f : Prefixes → Prefixes} (h : prefixForm i = some f) : NextKeepsSystem s (exec i s) :=
  exec_of_prefixForm h s ▸ nextKeepsSystem_of_same rfl

end

/-! ### Every instruction -/

/-- At CPL 1 to 3 the instructions that write a system register are denied (R450); no other operation changes one. -/
theorem exec_nextKeepsSystem (i : Instr) {s : State} (hpe : s.pe = true) (hcpl : s.cpl ≠ 0) : NextKeepsSystem s (exec i s) := by
  have hdenied : checkPrivileged s = .error (Exc.gp 0) s := checkPrivileged_of_denied hpe hcpl
  have taken {go : Host.Outcome State Fault Refusal} {e : Exc} (h : go = .next (s.raise e)) : NextKeepsSystem s go :=
    h ▸ nextKeepsSystem_raise rfl e
  cases i with
  | addRm8R8 | addRmvRv | addR8Rm8 | addRvRmv | addAlImm8 | addEaxImmv | addRm8Imm8 | addRmvImm | orRm8R8 | orRmvRv
  | orR8Rm8 | orRvRmv | orAlImm8 | orEaxImmv | orRm8Imm8 | orRmvImm | adcRm8R8 | adcRmvRv | adcR8Rm8 | adcRvRmv
  | adcAlImm8 | adcEaxImmv | adcRm8Imm8 | adcRmvImm | sbbRm8R8 | sbbRmvRv | sbbR8Rm8 | sbbRvRmv | sbbAlImm8 | sbbEaxImmv
  | sbbRm8Imm8 | sbbRmvImm | andRm8R8 | andRmvRv | andR8Rm8 | andRvRmv | andAlImm8 | andEaxImmv | andRm8Imm8 | andRmvImm
  | subRm8R8 | subRmvRv | subR8Rm8 | subRvRmv | subAlImm8 | subEaxImmv | subRm8Imm8 | subRmvImm | xorRm8R8 | xorRmvRv
  | xorR8Rm8 | xorRvRmv | xorAlImm8 | xorEaxImmv | xorRm8Imm8 | xorRmvImm | cmpRm8R8 | cmpRmvRv | cmpR8Rm8 | cmpRvRmv
  | cmpAlImm8 | cmpEaxImmv | cmpRm8Imm8 | cmpRmvImm | testRm8R8 | testRmvRv | testAlImm8 | testEaxImmv | testRm8Imm8
  | testRmvImmv =>
    exact nextKeepsSystem_of_aluForm rfl
  | incRv | decRv | notRm8 | notRmv | negRm8 | negRmv | incRm8 | decRm8 | incRmv | decRmv =>
    exact nextKeepsSystem_of_unaryForm rfl
  | pushRv => exact nextKeepsSystem_instr (keepsSystem_pushReg _)
  | popRv | popRmv => exact nextKeepsSystem_of_popForm rfl
  | bound => exact nextKeepsSystem_instr ((silent_boundCheck _ _).keeps _)
  | arpl => exact nextKeepsSystem_instr (keepsSystem_adjustRpl _ _)
  | pushImmv | pushImm8 => exact nextKeepsSystem_instr (keepsSystem_pushImm _)
  | imulRvRmvImmv | imulRvRmvImm8 => exact nextKeepsSystem_instr (keepsSystem_imul3 _ _ _)
  | jo8 | jno8 | jb8 | jae8 | je8 | jne8 | jbe8 | ja8 | js8 | jns8 | jp8 | jnp8 | jl8 | jge8 | jle8 | jg8 | joNear
  | jnoNear | jbNear | jaeNear | jeNear | jneNear | jbeNear | jaNear | jsNear | jnsNear | jpNear | jnpNear | jlNear
  | jgeNear | jleNear | jgNear =>
    exact nextKeepsSystem_of_jumpForm rfl
  | xchgRm8R8 => exact nextKeepsSystem_instr (keepsSystem_xchg8 _ _)
  | xchgRmvRv => exact nextKeepsSystem_instr (keepsSystem_xchgV _ _)
  | movRm8R8 | movRmvRv | movR8Rm8 | movRvRmv | movAlMoffs | movEaxMoffs | movMoffsAl | movMoffsEax | movR8Imm8
  | movRvImmv | movRm8Imm8 | movRmvImmv =>
    exact nextKeepsSystem_of_movForm rfl
  | movRmvSreg => exact nextKeepsSystem_instr (keepsSystem_movFromSeg _ _)
  | lea => exact nextKeepsSystem_instr (keepsSystem_loadAddress _ _)
  | movSregRm16 => exact nextKeepsSystem_instr (keepsSystem_movToSeg _ _)
  | xchgEaxRv r => exact nextKeepsSystem_instr (keepsSystem_xchgV (.reg r) .eax)
  | callFarPtr | jmpFarPtr => exact nextKeepsSystem_complete (keepsSystem_farTransfer _ _ _)
  | rolRm8 | rolRmv | rorRm8 | rorRmv | rclRm8 | rclRmv | rcrRm8 | rcrRmv | salRm8 | salRmv | shrRm8 | shrRmv | sarRm8
  | sarRmv =>
    exact nextKeepsSystem_of_shiftForm rfl
  | retNearImm | retNear => exact nextKeepsSystem_instr (keepsSystem_returnNear _)
  | les | lds | lss | lfs | lgs => exact nextKeepsSystem_of_pointerForm rfl
  | enter => exact nextKeepsSystem_instr (keepsSystem_enterFrame _ _)
  | retFarImm | retFar => exact nextKeepsSystem_complete (keepsSystem_returnFar _)
  | int => exact nextKeepsSystem_complete (keepsSystem_interruptVector _)
  | esc a b rm => exact nextKeepsSystem_esc s a b rm
  | loopne | loope | loop => exact nextKeepsSystem_of_loopForm rfl
  | jcxz => exact nextKeepsSystem_instr (keepsSystem_jumpIfCxZero _)
  | inAlImm8 | inEaxImm8 | inAlDx | inEaxDx => exact nextKeepsSystem_of_inForm rfl
  | outImm8Al | outImm8Eax | outDxAl | outDxEax => exact nextKeepsSystem_of_outForm rfl
  | callRelv => exact nextKeepsSystem_instr (keepsSystem_callRel _)
  | jmpRelv | jmpRel8 => exact nextKeepsSystem_instr (keepsSystem_jumpRel _)
  | mulRm8 | mulRmv | imulRm8 | imulRmv => exact nextKeepsSystem_of_mulForm rfl
  | divRm8 | divRmv | idivRm8 | idivRmv => exact nextKeepsSystem_of_divForm rfl
  | callRmv => exact nextKeepsSystem_instr (keepsSystem_callRm _)
  | callFarMem | jmpFarMem => exact nextKeepsSystem_complete (keepsSystem_farIndirect _ _)
  | jmpRmv => exact nextKeepsSystem_instr (keepsSystem_jumpRm _)
  | pushRmv => exact nextKeepsSystem_instr (keepsSystem_pushRm _)
  | sldt => exact nextKeepsSystem_instr (keepsSystem_storeLdt _)
  | str => exact nextKeepsSystem_instr (keepsSystem_storeTaskRegister _)
  | lldt => exact nextKeepsSystem_instr (keepsSystem_loadLdt _)
  | ltr => exact nextKeepsSystem_instr (keepsSystem_loadTaskRegister _)
  | verr | verw => exact nextKeepsSystem_instr (keepsSystem_verify _ _)
  | sgdt | sidt => exact nextKeepsSystem_instr (keepsSystem_storeTable _ _)
  | lgdt | lidt | lmsw | movRdCr | movRdDr | movCrRd | movDrRd | movRdTr | movTrRd | hlt | clts =>
    exact taken (exec_of_isPrivileged rfl hdenied)
  | smsw => exact nextKeepsSystem_instr (keepsSystem_storeMsw _)
  | lar => exact nextKeepsSystem_instr (keepsSystem_loadAccessRights _ _)
  | lsl => exact nextKeepsSystem_instr (keepsSystem_loadSegmentLimit _ _)
  | seto | setno | setb | setae | sete | setne | setbe | seta | sets | setns | setp | setnp | setl | setge | setle
  | setg =>
    exact nextKeepsSystem_of_setForm rfl
  | btRmvRv | btsRmvRv | btrRmvRv | btRmvImm8 | btsRmvImm8 | btrRmvImm8 | btcRmvImm8 | btcRmvRv =>
    exact nextKeepsSystem_of_bitForm rfl
  | shldImm8 | shldCl | shrdImm8 | shrdCl => exact nextKeepsSystem_of_doubleForm rfl
  | imulRvRmv => exact nextKeepsSystem_instr (keepsSystem_imul2 _ _)
  | movzxRvRm8 | movzxRdRm16 | movsxRvRm8 | movsxRdRm16 => exact nextKeepsSystem_of_extendForm rfl
  | bsf | bsr => exact nextKeepsSystem_instr (keepsSystem_bitScan _ _ _)
  | pushEs | pushCs | pushSs | pushDs | pushFs | pushGs => exact nextKeepsSystem_of_pushSegForm rfl
  | popEs | popSs | popDs | popFs | popGs => exact nextKeepsSystem_of_popSegForm rfl
  | daa => exact nextKeepsSystem_of_instr (exec_daa s) (keepsSystem_decimalAdjust _)
  | das => exact nextKeepsSystem_of_instr (exec_das s) (keepsSystem_decimalAdjust _)
  | aaa => exact nextKeepsSystem_of_instr (exec_aaa s) (keepsSystem_asciiAdjust _ _)
  | aas => exact nextKeepsSystem_of_instr (exec_aas s) (keepsSystem_asciiAdjust _ _)
  | esOverride | csOverride | ssOverride | dsOverride | fsOverride | gsOverride | operandSize | addressSize | lock | repne
  | rep =>
    exact nextKeepsSystem_of_prefixForm rfl
  | pusha => exact nextKeepsSystem_instr keepsSystem_pushAll
  | popa => exact nextKeepsSystem_instr keepsSystem_popAll
  | insb | insv | outsb | outsv | movsb | movsv | cmpsb | cmpsv | stosb | stosv | lodsb | lodsv | scasb | scasv =>
    exact nextKeepsSystem_of_stringForm rfl
  | nop => exact nextKeepsSystem_instr (keeps_pure _ ())
  | cbw => exact nextKeepsSystem_instr keepsSystem_convertAcc
  | cwd => exact nextKeepsSystem_instr keepsSystem_convertDouble
  | wait => exact nextKeepsSystem_instr keepsSystem_waitCoprocessor
  | pushf => exact nextKeepsSystem_instr keepsSystem_pushFlags
  | popf => exact nextKeepsSystem_instr keepsSystem_popFlags
  | sahf => exact nextKeepsSystem_instr (keepsSystem_update fun _ => rfl)
  | lahf => exact nextKeepsSystem_instr (keepsSystem_update fun s => s.system_setReg8 .ah _)
  | leave => exact nextKeepsSystem_instr keepsSystem_leaveFrame
  | int3 => exact nextKeepsSystem_complete (keepsSystem_softwareInterrupt _)
  | into => exact nextKeepsSystem_complete keepsSystem_interruptOnOverflow
  | iret => exact nextKeepsSystem_complete keepsSystem_interruptReturn
  | aam => exact nextKeepsSystem_instr keepsSystem_aam
  | aad => exact nextKeepsSystem_instr keepsSystem_aad
  | xlat => exact nextKeepsSystem_instr keepsSystem_tableLookup
  | cmc | clc | stc | cld | std => exact nextKeepsSystem_of_same rfl
  | cli => exact nextKeepsSystem_instr keepsSystem_clearInterrupt
  | sti => exact nextKeepsSystem_instr keepsSystem_setInterrupt

/-- Settles O58: what an instruction answers differs from the state before in CR2 alone among the system registers. -/
theorem userCodeKeepsSystemRegisters : Obligations.UserCodeKeepsSystemRegisters := by
  unfold Obligations.UserCodeKeepsSystemRegisters
  intro i s t hpe hcpl hexec
  obtain ⟨c, hc⟩ := exec_nextKeepsSystem i hpe hcpl t hexec
  obtain ⟨hgdtr, hidtr, -, hdr, htr6, htr7, hkept⟩ := SystemRegs.mk.inj hc
  exact ⟨hgdtr, hidtr, hdr, htr6, htr7, hkept.trans hpe⟩

end Sys2Proof.Machine
end

section
/-!
PROOFS. Exceptions raised and delivered, and the exceptions of a delivery (60_exceptions.md R500 to R503, R520, R530, R536, the spec's
decision D13): a chain of deliveries is at most four long, as each second exception stands lower than the first.
-/
namespace Sys2Proof.Machine

open Sys2Proof.Claims

/-! ### The length of a chain of deliveries (R530) -/

/-- How many deliveries can follow one another from that of a vector on: a double fault's is the last, and only an exception that is
neither contributory nor a page fault can be followed by three. -/
def chainLength (n : Nat) : Nat :=
  if n = 8 then 1 else if n = 14 then 2 else if isContributory n then 3 else 4

theorem chainLength_pos (n : Nat) : 0 < chainLength n := by
  unfold chainLength
  split_ifs <;> decide

theorem chainLength_le_four (n : Nat) : chainLength n ≤ 4 := by
  unfold chainLength
  split_ifs <;> decide

/-- Whatever the vector, but for a double fault's, its chain is longer than that of a double fault. -/
theorem chainLength_doubleFault_lt {n : Nat} (h : n ≠ 8) : chainLength 8 < chainLength n := by
  simp only [chainLength, if_true, if_neg h]
  split_ifs <;> decide

theorem chainLength_pageFault_lt {n : Nat} (h8 : n ≠ 8) (h14 : n ≠ 14) : chainLength 14 < chainLength n := by
  have h : chainLength 14 = 2 := rfl
  rw [h, chainLength, if_neg h8, if_neg h14]
  split_ifs <;> decide

/-- A second exception that makes no double fault is followed by fewer deliveries than the first. -/
theorem chainLength_lt_of_second {n : Nat} {e : Exc} (h : n ≠ 8) (he : e.OfDelivery) (hdouble : isDoubleFault n e.vector = false) :
    chainLength e.vector < chainLength n := by
  have hcontributory : e.vector = 8 ∨ e.vector = 14 ∨ isContributory e.vector = true := by
    simp only [Exc.OfDelivery, List.mem_cons, List.not_mem_nil, or_false] at he
    simp only [isContributory, Bool.or_eq_true, beq_iff_eq]
    omega
  rcases hcontributory with h8 | h14 | hc
  · exact h8 ▸ chainLength_doubleFault_lt h
  · have hn : n ≠ 14 := by
      rintro rfl
      simp [isDoubleFault, h14] at hdouble
    exact h14 ▸ chainLength_pageFault_lt h hn
  · have hn : n ≠ 14 ∧ isContributory n = false := by simp_all [isDoubleFault]
    have hlength : chainLength n = 4 := by simp [chainLength, h, hn]
    have hsecond : chainLength e.vector ≤ 3 := by
      simp only [chainLength, hc, if_true]
      split_ifs <;> decide
    omega

/-- The bound on the deliveries is not used up, so that a larger one gives the same state. -/
theorem deliverFrom_eq_of_chainLength_le {k k' n : Nat} (hk : chainLength n ≤ k) (hk' : chainLength n ≤ k') (src : Source)
    (err : Option Word) (ret : DWord) (s : State) : deliverFrom k n src err ret s = deliverFrom k' n src err ret s := by
  induction k generalizing k' n src err ret s with
  | zero => exact absurd hk (Nat.not_le.mpr (chainLength_pos n))
  | succ k ih =>
    obtain ⟨k', rfl⟩ := Nat.exists_eq_succ_of_ne_zero (Nat.pos_iff_ne_zero.mp ((chainLength_pos n).trans_le hk'))
    cases h : deliverOnce n src err ret s with
    | ok _ u => rw [deliverFrom_of_ok h, deliverFrom_of_ok h]
    | error e u =>
      have he : e.OfDelivery := (deliveryStep_deliverOnce (r := s.system) n src err ret).raises rfl h
      rw [deliverFrom_of_error h, deliverFrom_of_error h]
      dsimp only
      split
      · rfl
      next h8 =>
        split
        · have hlt := chainLength_doubleFault_lt h8
          exact ih (by omega) (by omega) _ _ _ _
        next hdouble =>
          have hlt := chainLength_lt_of_second h8 he (Bool.eq_false_iff.mpr hdouble)
          exact ih (by omega) (by omega) _ _ _ _

/-- Four deliveries are the whole chain. -/
theorem deliverFrom_of_four_le {k : Nat} (h : 4 ≤ k) (n : Nat) (src : Source) (err : Option Word) (ret : DWord) (s : State) :
    deliverFrom k n src err ret s = s.deliver n src err ret :=
  deliverFrom_eq_of_chainLength_le ((chainLength_le_four n).trans h) ((chainLength_le_four n).trans (by decide)) src err ret s

/-! ### What follows a second exception (R530, R536) -/

/-- Outside a task switch the saved offset stays that of the first exception. -/
theorem deliver_of_error {n : Nat} {src : Source} {err : Option Word} {ret : DWord} {s u : State} {e : Exc}
    (h : deliverOnce n src err ret s = .error e u) (htask : e.inNewTask = false) :
    s.deliver n src err ret =
      if n = 8 then { u.noteFault e with run := .shutdown }
      else if isDoubleFault n e.vector then (u.noteFault e).deliver 8 .exception (some 0) ret
      else (u.noteFault e).deliver e.vector .exception (externalCode e) ret := by
  have four (m : Nat) (c : Option Word) := deliverFrom_of_four_le (Nat.le_refl 4) m .exception c ret (u.noteFault e)
  rw [State.deliver, deliverFrom_of_error h]
  dsimp only
  rw [htask, if_neg Bool.false_ne_true, four, four]

theorem isContributory_iff (n : Nat) : isContributory n = true ↔ n ∈ [0, 10, 11, 12, 13] := by
  simp [isContributory, or_assoc]

theorem isDoubleFault_iff (a b : Nat) : isDoubleFault a b = true ↔
    (a ∈ [0, 10, 11, 12, 13] ∧ b ∈ [0, 10, 11, 12, 13]) ∨ (a = 14 ∧ b ∈ [0, 10, 11, 12, 13, 14]) := by
  have hpage : b ∈ [0, 10, 11, 12, 13, 14] ↔ b ∈ [0, 10, 11, 12, 13] ∨ b = 14 := by simp [or_assoc]
  rw [hpage, ← isContributory_iff, ← isContributory_iff]
  simp [isDoubleFault]

/-- Setting EXT keeps the upper 15 bits of an error code. -/
theorem setExt_eq (c : Word) : c ||| 1#16 = c.extractLsb' 1 15 ++ 1#1 := by
  refine BitVec.eq_of_getLsbD_eq fun i hi => ?_
  rw [BitVec.getLsbD_append, BitVec.getLsbD_or]
  cases i with
  | zero => simp
  | succ i =>
    have hi' : i < 15 := by omega
    simp [Nat.add_comm 1 i, hi']

theorem externalCode_of_none {e : Exc} (h : e.code = none) : externalCode e = none := by
  simp [externalCode, h]

theorem externalCode_of_some {e : Exc} {c : Word} (h : e.code = some c) :
    externalCode e = some (if e.vector = 14 then c else c.extractLsb' 1 15 ++ 1#1) := by
  rw [← setExt_eq, externalCode, h]
  split <;> rfl

/-- A delivery keeps CR2 (R47). -/
theorem deliverOnce_ok_cr2 {n : Nat} {src : Source} {err : Option Word} {ret : DWord} {s u : State}
    (h : deliverOnce n src err ret s = .ok () u) : u.cr2 = s.cr2 := by
  have hkeeps := (deliveryStep_deliverOnce (r := s.system) n src err ret).keeps s rfl
  rw [h] at hkeeps
  exact congrArg SystemRegs.cr2 hkeeps

/-- Settles O50: the chain of deliveries by its length, the second exception by what the recursion does with it. -/
theorem faultsInDeliveryChain : Obligations.FaultsInDeliveryChain := by
  unfold Obligations.FaultsInDeliveryChain
  refine ⟨fun s e => ⟨rfl, fun u h => ⟨raise_of_delivered h, deliverOnce_ok_cr2 h⟩⟩,
    fun s c lin => ⟨s.noteFault_pf c lin, fun e h => State.noteFault_of_none h s⟩,
    fun n c lin => ⟨rfl, rfl, rfl, rfl, rfl, rfl, rfl, rfl, rfl⟩,
    fun k n src err ret s _ => deliverFrom_of_four_le (Nat.le_add_right 4 k) n src err ret s,
    fun n src err ret s t h => deliverFrom_of_ok h, fun n src err ret s u e _ h htask => ?_, isDoubleFault_iff,
    fun e => ⟨externalCode_of_none, fun c => externalCode_of_some⟩⟩
  rw [deliver_of_error h htask]
  refine ⟨fun h8 => if_pos h8, fun h8 hdouble => ?_, fun h8 hdouble => ?_⟩
  · rw [if_neg h8, if_pos hdouble]
  · rw [if_neg h8, if_neg (Bool.not_eq_true _ ▸ hdouble)]

end Sys2Proof.Machine
end

section
/-!
PROOFS. What a step does at a boundary (60_exceptions.md R510, R512, R536, R537; 10_state.md R52): which event is due, and what the
machine does when none is.
-/
namespace Sys2Proof.Machine

open Sys2Proof.Claims

/-! ### Which event is due (R512 steps 2 to 5) -/

section
variable {s : State}

theorem eventDue_of_trap (hrun : s.run ≠ .shutdown) (hwait : s.run.isWaiting = false) (htrap : s.trapDue = true)
    (hinhibit : s.inhibit ≠ .all) : s.eventDue = some .trap := by
  simp [State.eventDue, hrun, hwait, htrap, hinhibit]

/-- Without a trap that can be taken, NMI comes first, in shutdown too (R536). -/
theorem eventDue_of_nmi (htrap : s.trapDue = false ∨ s.run.isWaiting = true ∨ s.run = .shutdown) (hpending : s.nmiPending = true)
    (hunmasked : s.nmiBlocked = false) (hinhibit : s.inhibit ≠ .all) : s.eventDue = some .nmi := by
  have hnotrap : ¬(s.trapDue && s.inhibit != .all && !s.run.isWaiting && s.run != .shutdown) = true := by
    rcases htrap with h | h | h <;> simp [h]
  rw [State.eventDue, if_neg hnotrap]
  simp [hpending, hunmasked, hinhibit]

theorem eventDue_of_intr {n : Byte} (hrun : s.run ≠ .shutdown) (htrap : s.trapDue = false ∨ s.run.isWaiting = true)
    (hnmi : s.nmiPending = false ∨ s.nmiBlocked = true) (hif : s.flags.ifl = true) (hinhibit : s.inhibit = .none)
    (hintr : s.pins.intr = some n) : s.eventDue = some (.intr n) := by
  have hnotrap : ¬(s.trapDue && s.inhibit != .all && !s.run.isWaiting && s.run != .shutdown) = true := by
    rcases htrap with h | h <;> simp [h]
  have hnonmi : ¬(s.nmiPending && !s.nmiBlocked && s.inhibit != .all) = true := by
    rcases hnmi with h | h <;> simp [h]
  rw [State.eventDue, if_neg hnotrap, if_neg hnonmi, if_neg hrun]
  simp [hif, hinhibit, hintr]

end

/-! ### What the boundary does (R512) -/

theorem step_of_reset {s : State} (h : s.sample.pins.reset = true) : step s = .next s.sample.resetSignal := if_pos h

section
variable {s : State} (hreset : s.sample.pins.reset = false)
include hreset

theorem step_of_eventDue {e : Event} (h : s.sample.eventDue = some e) : step s = .next (s.sample.takeEvent e) := by
  have hno : ¬s.sample.pins.reset = true := by simp [hreset]
  rw [step, boundary, if_neg hno, h]

theorem step_of_nothingDue (h : NothingDue s.sample) : step s = proceed { s.sample with inhibit := .none } := by
  have hno : ¬s.sample.pins.reset = true := by simp [hreset]
  rw [step, boundary, if_neg hno, eventDue_of_nothingDue h]

/-- A machine that does not execute stays as it is, but for the shadow (R536, R537). -/
theorem step_of_stopped (hdue : NothingDue s.sample) (hrun : s.sample.run = .halted ∨ s.sample.run = .shutdown) :
    step s = .next { s.sample with inhibit := .none } := by
  rw [step_of_nothingDue hreset hdue]
  rcases hrun with h | h <;> simp only [proceed, h]

theorem step_of_waiting {next : DWord} (hdue : NothingDue s.sample) (hrun : s.sample.run = .waiting next) :
    step s = .next (if s.sample.pins.busy then { s.sample with inhibit := .none } else
      { s.sample with inhibit := .none, run := .running, eip := next }) := by
  rw [step_of_nothingDue hreset hdue]
  simp only [proceed, hrun]
  split <;> rfl

end

/-- Settles O8: each case is one event that is due, or none. -/
theorem boundaryServesEventsInOrder : Obligations.BoundaryServesEventsInOrder := by
  unfold Obligations.BoundaryServesEventsInOrder
  intro s
  refine ⟨step_of_reset,
    fun hreset hrun hwait htrap hinhibit => step_of_eventDue hreset (eventDue_of_trap hrun hwait htrap hinhibit),
    fun hreset htrap hpending hunmasked hinhibit => step_of_eventDue hreset (eventDue_of_nmi htrap hpending hunmasked hinhibit),
    fun n hreset hrun htrap hnmi hif hinhibit hintr =>
      step_of_eventDue hreset (eventDue_of_intr hrun htrap hnmi hif hinhibit hintr),
    fun hreset htrap hnmi hintr => ?_⟩
  have hdue : NothingDue s.sample := ⟨htrap, hnmi, hintr⟩
  exact ⟨step_eq_executeNext hreset hdue, step_of_stopped hreset hdue, fun next => step_of_waiting hreset hdue⟩

end Sys2Proof.Machine
end

section
/-!
PROOFS. Far JMP and CALL to a task (44_control_transfer.md R406, R413, R414): the checks on the task gate and on the TSS, and the switch.
-/
namespace Sys2Proof.Machine

open Sys2Proof.Claims

/-! ### The dispatch on the descriptor (R406) -/

/-- A descriptor has one system type. -/
theorem Desc.isSystem_of_ne {d : Desc} {t u : BitVec 4} (ht : d.isSystem t = true) (hne : u ≠ t) : d.isSystem u = false := by
  rw [← Bool.not_eq_true, Desc.isSystem_iff]
  rintro ⟨-, hu⟩
  exact hne (hu.symm.trans ((d.isSystem_iff t).mp ht).2)

/-- A TSS is neither a code segment nor a gate. -/
theorem Desc.not_gate_of_tss {d : Desc} (htss : d.isAvailableTss = true ∨ d.isBusyTss = true) :
    d.isCode = false ∧ d.isSystem 4 = false ∧ d.isSystem 12 = false ∧ d.isSystem 5 = false := by
  simp only [Desc.isAvailableTss, Desc.isBusyTss, Bool.or_eq_true] at htss
  rcases htss with (ht | ht) | (ht | ht) <;>
    exact ⟨isCode_of_isSystem ht, isSystem_of_ne ht (by decide), isSystem_of_ne ht (by decide), isSystem_of_ne ht (by decide)⟩

section
variable {s : State} {sel : Word} {a : DWord} {d : Desc} (k : Transfer) (off : DWord) (h : selNull sel = false)
  (ha : s.descAddr sel = some a) (hd : peekDesc s a = some d)
include h ha hd

/-- What the dispatch does with a descriptor that is neither a code segment nor a call gate. -/
theorem farProt_of_other (hcode : d.isCode = false) (h4 : d.isSystem 4 = false) (h12 : d.isSystem 12 = false) :
    farProt k sel off s =
      (if d.isSystem 5 then farThroughTaskGate k d sel
        else if d.isAvailableTss || d.isBusyTss then farToTss k ⟨a, d⟩ sel else raiseExc (Exc.gp (selCode sel))) s := by
  unfold farProt
  rw [h, raiseIf_false_bind_run, bind_of_ok (lookup_of_found ha hd _)]
  simp only [hcode, h4, h12, Bool.or_self, Bool.false_eq_true, if_false]

theorem farProt_of_taskGate (hgate : d.isSystem 5 = true) : farProt k sel off s = farThroughTaskGate k d sel s := by
  rw [farProt_of_other k off h ha hd (Desc.isCode_of_isSystem hgate) (Desc.isSystem_of_ne hgate (by decide))
    (Desc.isSystem_of_ne hgate (by decide)), if_pos hgate]

theorem farProt_of_tss (htss : d.isAvailableTss = true ∨ d.isBusyTss = true) :
    farProt k sel off s = farToTss k ⟨a, d⟩ sel s := by
  obtain ⟨hcode, h4, h12, h5⟩ := Desc.not_gate_of_tss htss
  rw [farProt_of_other k off h ha hd hcode h4 h12, if_neg (Bool.eq_false_iff.mp h5), if_pos (Bool.or_eq_true_iff.mpr htss)]

theorem farProt_of_unfit (hcode : d.isCode = false) (hno : ∀ t ∈ ([4, 12, 5, 1, 9, 3, 11] : List (BitVec 4)), d.isSystem t = false) :
    farProt k sel off s = .error (Exc.gp (selCode sel)) s := by
  simp only [List.forall_mem_cons] at hno
  obtain ⟨h4, h12, h5, h1, h9, h3, h11, -⟩ := hno
  have hnotss : ¬(d.isAvailableTss || d.isBusyTss) = true := by
    simp only [Desc.isAvailableTss, Desc.isBusyTss, h1, h9, h3, h11, Bool.or_self, Bool.false_eq_true, not_false_eq_true]
  rw [farProt_of_other k off h ha hd hcode h4 h12, if_neg (Bool.eq_false_iff.mp h5), if_neg hnotss]
  rfl

end

/-! ### The switch at the end of a far transfer (R413, R414, R545) -/

/-- The test of EIP in the new task, with the exception of the transfer. -/
theorem farSwitch_outcome {x : Op Unit} {s : State} {k : Transfer} {f : Found} {ts : Word} (hx : x s = farSwitch k f ts s) :
    SwitchOutcome s f ts k.switchKind (k.taskExc 0) (complete x s) := by
  rw [farSwitch, query_id_bind_run] at hx
  refine ⟨fun e u hswitch => complete_of_error (hx.trans (bind_of_error hswitch)), fun t hswitch => ?_⟩
  have hcheck : (query id >>= fun u : State => raiseIf (decide (u.seg.cs.limit.toNat < u.eip.toNat)) (k.taskExc 0)) t =
      if t.seg.cs.limit.toNat < t.eip.toNat then .error (k.taskExc 0) t else .ok () t := by
    rw [query_id_bind_run, raiseIf_run]
    simp only [decide_eq_true_iff]
  have hnew := hx.trans (bind_of_ok hswitch)
  split
  next hbeyond => rw [complete_of_error (hnew.trans (inNewTask_of_error (hcheck.trans (if_pos hbeyond)))), raise_inNewTask]
  next hinside => exact complete_of_ok (hnew.trans (inNewTask_of_ok (hcheck.trans (if_neg hinside))))

/-! ### The checks (R413, R414) -/

theorem level_test_iff (s : State) (sel : Word) (d : Desc) :
    (decide (d.dpl < s.cpl) || decide (d.dpl < selRpl sel)) = true ↔ ¬GateOpen s sel d := by
  rw [Bool.or_eq_true, decide_eq_true_iff, decide_eq_true_iff, Decidable.not_and_iff_not_or_not, BitVec.not_le, BitVec.not_le]

/-- The end of both transfers: the descriptor found is that of an available TSS that is present, and the tasks are switched. -/
def switchToTss (k : Transfer) (sel : Word) (f : Found) : Op Unit := do
  raiseIf (!f.desc.isAvailableTss) (k.taskExc (selCode sel))
  raiseIf (!f.desc.p) (Exc.np (selCode sel))
  farSwitch k f sel

theorem switchToTss_run (k : Transfer) (sel : Word) (f : Found) (s : State) :
    switchToTss k sel f s =
      if f.desc.isAvailableTss = false then .error (k.taskExc (selCode sel)) s
      else if f.desc.p = false then .error (Exc.np (selCode sel)) s
      else farSwitch k f sel s := by
  rw [switchToTss, raiseIf_iff_bind_run (iff_of_eq (Bool.not_eq_true' _)), raiseIf_iff_bind_run (iff_of_eq (Bool.not_eq_true' _))]

theorem farThroughTaskGate_run (k : Transfer) (g : Desc) (sel : Word) (s : State) :
    farThroughTaskGate k g sel s =
      if ¬GateOpen s sel g then .error (k.taskExc (selCode sel)) s
      else if g.p = false then .error (Exc.np (selCode sel)) s
      else (lookupGdt g.gateSelector (k.taskExc (selCode g.gateSelector)) >>= switchToTss k g.gateSelector) s := by
  unfold farThroughTaskGate
  rw [query_id_bind_run, raiseIf_iff_bind_run (level_test_iff s sel g), raiseIf_iff_bind_run (iff_of_eq (Bool.not_eq_true' _))]
  rfl

/-- What a selector and the descriptor it names must be for a far transfer to a TSS (R414). -/
abbrev TssOpen (s : State) (sel : Word) (d : Desc) : Prop := selTi sel = false ∧ GateOpen s sel d ∧ d.isAvailableTss = true

theorem farToTss_run (k : Transfer) (f : Found) (sel : Word) (s : State) :
    farToTss k f sel s =
      if ¬TssOpen s sel f.desc then .error (k.taskExc (selCode sel)) s
      else if f.desc.p = false then .error (Exc.np (selCode sel)) s
      else farSwitch k f sel s := by
  have hrun : farToTss k f sel s =
      if selTi sel = true then .error (k.taskExc (selCode sel)) s
      else if ¬GateOpen s sel f.desc then .error (k.taskExc (selCode sel)) s
      else switchToTss k sel f s := by
    unfold farToTss
    rw [query_id_bind_run, raiseIf_bind_run, raiseIf_iff_bind_run (level_test_iff s sel f.desc)]
    rfl
  rw [hrun, switchToTss_run]
  by_cases hti : selTi sel = true
  · rw [if_pos hti, if_pos fun hopen => Bool.eq_false_iff.mp hopen.1 hti]
  rw [if_neg hti]
  by_cases hlevel : GateOpen s sel f.desc
  · rw [if_neg (not_not_intro hlevel)]
    by_cases htss : f.desc.isAvailableTss = false
    · rw [if_pos htss, if_pos fun hopen => Bool.false_ne_true (htss.symm.trans hopen.2.2)]
    · rw [if_neg htss, if_neg (not_not_intro ⟨Bool.eq_false_iff.mpr hti, hlevel, Bool.eq_true_of_not_eq_false htss⟩)]
  · rw [if_pos hlevel, if_pos fun hopen => hlevel hopen.2.1]

end Sys2Proof.Machine
end

section
/-!
PROOFS. The task that a switch leaves (60_exceptions.md R546 steps 2 to 6; 20_memory.md R115, R116): its state saved in its TSS, the
busy bits, TR and the back link.
-/
namespace Sys2Proof.Machine

open Sys2Proof.Claims

variable {α β : Type}

/-! ### Operations taken apart -/

/-- An operation that completes did so part by part. -/
theorem exists_of_bind_ok {x : Op α} {f : α → Op β} {s t : State} {b : β} (h : (x >>= f) s = .ok b t) :
    ∃ a u, x s = .ok a u ∧ f a u = .ok b t := by
  cases hx : x s with
  | ok a u => exact ⟨a, u, rfl, (bind_of_ok hx).symm.trans h⟩
  | error e u => cases (bind_of_error hx).symm.trans h

/-- A test that is passed changes nothing. -/
theorem of_raiseIf_bind_ok {c : Bool} {e : Exc} {f : Unit → Op β} {s t : State} {b : β} (h : (raiseIf c e >>= f) s = .ok b t) :
    c = false ∧ f () s = .ok b t := by
  rw [raiseIf_bind_run] at h
  cases c with
  | true => cases h
  | false => exact ⟨rfl, h⟩

/-- A silent operation that completes changes nothing. -/
theorem Silent.exists_of_bind_ok {x : Op α} (hx : Silent x) {f : α → Op β} {s t : State} {b : β} (h : (x >>= f) s = .ok b t) :
    ∃ a, x s = .ok a s ∧ f a s = .ok b t := by
  obtain ⟨a, u, ha, hf⟩ := Machine.exists_of_bind_ok h
  obtain rfl : u = s := by simpa [ha, endState] using hx s
  exact ⟨a, ha, hf⟩

theorem of_atomically_ok {x : Op α} {s t : State} {a : α} (h : atomically x s = .ok a t) : x s = .ok a t := by
  cases hx : x s with
  | ok b u => exact (atomically_of_ok hx).symm.trans h
  | error e u => cases (atomically_of_error hx).symm.trans h

theorem of_inNewTask_ok {x : Op Unit} {s t : State} (h : inNewTask x s = .ok () t) : x s = .ok () t := by
  cases hx : x s with
  | ok _ u => exact (inNewTask_of_ok hx).symm.trans h
  | error e u => cases (inNewTask_of_error hx).symm.trans h

theorem bind_assoc_op {γ : Type} (x : Op α) (f : α → Op β) (g : β → Op γ) : ((x >>= f) >>= g) = x >>= fun a => f a >>= g :=
  funext (bind_assoc_run x f g)

/-! ### The parts of leaving a task (R546 steps 2 to 6) -/

theorem writeFields_eq_storeFields (base : DWord) (fields : List (Nat × Nat × DWord)) :
    writeFields base fields = storeFields base fields := by
  induction fields with
  | nil => rfl
  | cons f rest ih =>
    obtain ⟨off, n, v⟩ := f
    simp only [writeFields, storeFields, ih]

/-- The old task is saved at the offsets of its TSS's format. -/
theorem saveTask_run (kind : SwitchKind) (ret : DWord) (s : State) :
    saveTask kind ret s = storeFields s.tr.base (savedFields s kind ret) s := by
  have hkind : (kind != SwitchKind.iret) = decide (kind ≠ SwitchKind.iret) := by cases kind <;> rfl
  have hfields (b : Bool) (hb : s.tr.is386 = b) : saveTask kind ret s = storeFields s.tr.base (savedFields s kind ret) s := by
    unfold saveTask savedFields
    rw [query_id_bind_run, writeFields_eq_storeFields, writeFields_eq_storeFields, hkind, hb]
    cases b <;> rfl
  exact hfields _ rfl

/-- A byte is written from the low eight bits of a value. -/
theorem linWrite_byte_congr (lin : DWord) {v w : DWord} (h : v.setWidth 8 = w.setWidth 8) : linWrite lin 1 v = linWrite lin 1 w := by
  funext s
  unfold linWrite linWriteAs
  rcases (silent_translate .write false lin).cases s with ⟨a, ha⟩ | ⟨e, he⟩
  · have haddrs : translateRange .write false 1 lin s = .ok [a] s := (bind_of_ok ha).trans rfl
    rw [bind_of_ok haddrs, bind_of_ok haddrs, update_run, update_run, Memory.writeAll, Memory.writeAll, h, Memory.writeAll,
      Memory.writeAll]
  · have hno : translateRange .write false 1 lin s = .error e s := bind_of_error he
    rw [bind_of_error hno, bind_of_error hno]

theorem changeAccessRights_eq_setBusy_true (addr : DWord) : changeAccessRights addr (fun b => b ||| 2#8) = setBusy addr true := by
  unfold changeAccessRights setBusy
  congr 1
  funext b
  refine linWrite_byte_congr _ ?_
  simp

theorem changeAccessRights_eq_setBusy_false (addr : DWord) :
    changeAccessRights addr (fun b => b &&& 0xFD#8) = setBusy addr false := by
  unfold changeAccessRights setBusy
  congr 1
  funext b
  refine linWrite_byte_congr _ ?_
  simp

/-- The images of the new task in its TSS's format. -/
def readTask (new : Found) : Op TaskImage := if new.desc.is386 then readTask386 new.desc.base else readTask286 new.desc.base

/-- Up to the commit point the old task is left, the images of the new one are read, and they are put in the registers. -/
theorem switchCommit_run (new : Found) (sel : Word) (kind : SwitchKind) (ret : DWord) (s : State) :
    switchCommit new sel kind ret s =
      (leaveTask new sel kind ret >>= fun _ => readTask new >>= fun t => update (fun s => s.enterTask kind t) >>= fun _ =>
        (pure t : Op TaskImage)) s := by
  unfold switchCommit leaveTask readTask
  rw [query_id_bind_run, bind_assoc_run, query_id_bind_run, bind_assoc_run]
  rw [bind_run, bind_run (storeFields _ _), saveTask_run]
  cases storeFields s.tr.base (savedFields s kind ret) s with
  | error e u => rfl
  | ok _ u =>
    cases kind <;> cases new.desc.is386 <;>
      simp only [reduceCtorEq, if_true, if_false, bind_assoc_op, changeAccessRights_eq_setBusy_true,
        changeAccessRights_eq_setBusy_false, Bool.false_eq_true] <;> rfl

/-! ### What is stored -/

/-- From one state to the next memory alone changes, stays canonical, and with paging off changes at these addresses alone. -/
structure Stores (addrs : List DWord) (s t : State) : Prop where
  mem_only : t = { s with mem := t.mem }
  wf : Memory.wf s.mem = true → Memory.wf t.mem = true
  bytes : (s.pe && s.pg) = false → OnlyBytes addrs s t

theorem Stores.refl (s : State) : Stores [] s s := ⟨rfl, id, fun _ _ _ => rfl⟩

theorem Stores.trans {as bs : List DWord} {s t u : State} (h : Stores as s t) (h' : Stores bs t u) : Stores (as ++ bs) s u := by
  have hpaging : (t.pe && t.pg) = (s.pe && s.pg) := by rw [h.mem_only]; rfl
  refine ⟨by rw [h'.mem_only, h.mem_only], h'.wf ∘ h.wf, fun hunpaged a ha => ?_⟩
  rw [h'.bytes (hpaging.trans hunpaged) a fun x hx => ha x (List.mem_append_right as hx)]
  exact h.bytes hunpaged a fun x hx => ha x (List.mem_append_left bs hx)

theorem Stores.mono {as bs : List DWord} {s t : State} (h : Stores as s t) (hsub : as ⊆ bs) : Stores bs s t :=
  ⟨h.mem_only, h.wf, fun hunpaged a ha => h.bytes hunpaged a fun x hx => ha x (hsub hx)⟩

theorem stores_of_linWrite {lin v : DWord} {n : Nat} {s t : State} (h : linWrite lin n v s = .ok () t) :
    Stores (consecutive lin n) s t := by
  unfold linWrite at h
  rcases linWriteAs_cases false lin n v s with ⟨addrs, haddrs, hw⟩ | ⟨e, he⟩
  · cases hw.symm.trans h
    refine ⟨rfl, writeAll_wf _ _ _, fun hunpaged a ha => ?_⟩
    cases (translateRange_of_unpaged hunpaged .write false n lin).symm.trans haddrs
    exact read_writeAll_other _ _ _ _ ha
  · cases he.symm.trans h

theorem stores_of_storeFields {base : DWord} {fields : List (Nat × Nat × DWord)} {s t : State}
    (h : storeFields base fields s = .ok () t) :
    Stores (fields.flatMap fun f => consecutive (base + BitVec.ofNat 32 f.1) f.2.1) s t := by
  induction fields generalizing s with
  | nil =>
    cases h
    exact Stores.refl _
  | cons f rest ih =>
    obtain ⟨_, u, hw, hrest⟩ := exists_of_bind_ok h
    exact (stores_of_linWrite hw).trans (ih hrest)

theorem stores_of_setBusy {addr : DWord} {busy : Bool} {s t : State} (h : setBusy addr busy s = .ok () t) :
    Stores [addr + 5] s t := by
  obtain ⟨b, -, hw⟩ := (silent_linRead (addr + 5) 1).exists_of_bind_ok h
  simpa [consecutive] using stores_of_linWrite hw

/-- TR has no part in what is stored. -/
theorem Stores.withTr {as : List DWord} {s t : State} (h : Stores as s t) (tr : TaskReg) :
    Stores as { s with tr := tr } { t with tr := tr } :=
  ⟨by rw [h.mem_only], h.wf, h.bytes⟩

theorem stores_of_unless {c : Prop} [Decidable c] {x : Op Unit} {as : List DWord} {s t : State}
    (h : (if c then pure () else x) s = .ok () t) (hx : x s = .ok () t → Stores as s t) : Stores (if c then [] else as) s t := by
  split at h
  next hc =>
    cases h
    rw [if_pos hc]
    exact Stores.refl _
  next hc =>
    rw [if_neg hc]
    exact hx h

/-! ### The old task left (R546 steps 2 to 6) -/

/-- TR of the new task (R546 step 5). -/
def Found.taskReg (new : Found) (sel : Word) : TaskReg :=
  { sel := sel, base := new.desc.base, limit := new.desc.limit, is386 := new.desc.is386 }

/-- The back link, where the switch nests (R546 step 6). -/
def writeBackLink (new : Found) (kind : SwitchKind) (old : Word) : Op Unit :=
  if kind = .nest then linWrite new.desc.base 2 (old.setWidth 32) else pure ()

theorem leaveTask_run (new : Found) (sel : Word) (kind : SwitchKind) (ret : DWord) (s : State) :
    leaveTask new sel kind ret s =
      (storeFields s.tr.base (savedFields s kind ret) >>= fun _ =>
        (if kind = .nest then pure () else setBusy (s.gdtr.base + BitVec.ofNat 32 (selOffset s.tr.sel)) false) >>= fun _ =>
        (if kind = .iret then pure () else setBusy new.addr true) >>= fun _ =>
        update (fun s => { s with tr := new.taskReg sel }) >>= fun _ => writeBackLink new kind s.tr.sel) s := by
  unfold leaveTask
  rw [query_id_bind_run]
  cases kind <;> rfl

theorem savedFields_bounds (s : State) (kind : SwitchKind) (ret : DWord) : ∀ f ∈ savedFields s kind ret,
    (if s.tr.is386 then 0x20 else 0x0E) ≤ f.1 ∧ f.1 + f.2.1 ≤ if s.tr.is386 then 0x5E else 0x2A := by
  unfold savedFields
  cases s.tr.is386 <;> simp [List.zipIdx]

/-- Addresses inside a range of offsets from a base. -/
theorem consecutive_subset_range (base : DWord) {off n first last : Nat} (h : first ≤ off ∧ off + n ≤ last) :
    consecutive (base + BitVec.ofNat 32 off) n ⊆ (List.range (last - first)).map fun j => base + BitVec.ofNat 32 (first + j) := by
  obtain ⟨hfirst, hlast⟩ := h
  intro x hx
  obtain ⟨j, hj, rfl⟩ := List.mem_map.mp hx
  have hj := List.mem_range.mp hj
  refine List.mem_map.mpr ⟨off - first + j, List.mem_range.mpr (by omega), ?_⟩
  rw [BitVec.add_assoc, ← BitVec.ofNat_add, show first + (off - first + j) = off + j by omega]

/-- The bytes of the fields of a TSS that are saved. -/
def savedBytes (s : State) : List DWord :=
  if s.tr.is386 then (List.range 0x3E).map fun j => s.tr.base + BitVec.ofNat 32 (0x20 + j)
  else (List.range 0x1C).map fun j => s.tr.base + BitVec.ofNat 32 (0x0E + j)

theorem savedFields_subset (s : State) (kind : SwitchKind) (ret : DWord) :
    ((savedFields s kind ret).flatMap fun f => consecutive (s.tr.base + BitVec.ofNat 32 f.1) f.2.1) ⊆ savedBytes s := by
  intro x hx
  obtain ⟨f, hf, hx⟩ := List.mem_flatMap.mp hx
  have hbounds := savedFields_bounds s kind ret f hf
  unfold savedBytes
  split at hbounds
  next h386 => exact if_pos h386 ▸ consecutive_subset_range s.tr.base hbounds hx
  next h286 => exact if_neg h286 ▸ consecutive_subset_range s.tr.base hbounds hx

theorem stores_of_writeBackLink {new : Found} {kind : SwitchKind} {old : Word} {s t : State}
    (h : writeBackLink new kind old s = .ok () t) :
    Stores (if kind = .nest then consecutive new.desc.base 2 else []) s t := by
  unfold writeBackLink at h
  split at h
  next hnest =>
    rw [if_pos hnest]
    exact stores_of_linWrite h
  next hno =>
    cases h
    rw [if_neg hno]
    exact Stores.refl _

/-- The bytes written before TR is loaded, in the order of the steps. -/
def leftBytes (s : State) (new : Found) (kind : SwitchKind) : List DWord :=
  savedBytes s ++ ((if kind = .nest then [] else [s.gdtr.base + BitVec.ofNat 32 (selOffset s.tr.sel) + 5]) ++
    if kind = .iret then [] else [new.addr + 5])

theorem leftBytes_subset (s : State) (new : Found) (kind : SwitchKind) :
    leftBytes s new kind ++ (if kind = .nest then consecutive new.desc.base 2 else []) ⊆ switchBytes s new kind := by
  have hlink : consecutive new.desc.base 2 = [new.desc.base, new.desc.base + 1] := by
    simp [consecutive, List.range_succ]
  unfold leftBytes switchBytes savedBytes
  rw [hlink]
  cases kind <;> simp

/-- Leaving a task loads TR and stores what is said, the back link last. -/
theorem leaveTask_ok {new : Found} {sel : Word} {kind : SwitchKind} {ret : DWord} {s t : State}
    (h : leaveTask new sel kind ret s = .ok () t) :
    ∃ u, Stores (leftBytes s new kind) s u ∧ writeBackLink new kind s.tr.sel { u with tr := new.taskReg sel } = .ok () t := by
  rw [leaveTask_run] at h
  obtain ⟨_, a, hsave, h⟩ := exists_of_bind_ok h
  obtain ⟨_, b, hold, h⟩ := exists_of_bind_ok h
  obtain ⟨_, u, hnew, h⟩ := exists_of_bind_ok h
  rw [update_bind_run] at h
  have saved := (stores_of_storeFields hsave).mono (savedFields_subset s kind ret)
  exact ⟨u, saved.trans ((stores_of_unless hold stores_of_setBusy).trans (stores_of_unless hnew stores_of_setBusy)), h⟩

theorem stores_of_leaveTask {new : Found} {sel : Word} {kind : SwitchKind} {ret : DWord} {s t : State}
    (h : leaveTask new sel kind ret s = .ok () t) : Stores (switchBytes s new kind) { s with tr := new.taskReg sel } t := by
  obtain ⟨u, hu, hlink⟩ := leaveTask_ok h
  exact ((hu.withTr (new.taskReg sel)).trans (stores_of_writeBackLink hlink)).mono (leftBytes_subset s new kind)

theorem setWidth_and_word (v : Word) : (v.setWidth 32 : DWord) &&& 0xFFFF#32 = v.setWidth 32 := by
  rw [← setWidth_setWidth_word]
  simp

/-- With paging off a word that is stored is there. -/
theorem peek_of_linWrite_word {s t : State} {lin : DWord} {v : Word} (h : linWrite lin 2 (v.setWidth 32) s = .ok () t)
    (hunpaged : (s.pe && s.pg) = false) (hwf : Memory.wf s.mem = true) : peek t lin 2 = some (v.setWidth 32) := by
  have hwrite : linWrite lin 2 (v.setWidth 32) s =
      .ok () { s with mem := Memory.writeAll s.mem (consecutive lin 2) (v.setWidth 32) } :=
    bind_of_ok (translateRange_of_unpaged hunpaged .write false 2 lin)
  cases hwrite.symm.trans h
  have hread := linReadAs_of_unpaged (s := { s with mem := Memory.writeAll s.mem (consecutive lin 2) (v.setWidth 32) })
    hunpaged false lin 2
  have hvalue : valueOf ((List.range 2).map (byteOf (v.setWidth 32))) = v.setWidth 32 := by
    rw [valueOf_bytes_eq_cut _ (.inr (.inl rfl))]
    exact setWidth_and_word v
  rw [readAll_writeAll hwf (consecutive_nodup lin (by decide)), consecutive_length, hvalue] at hread
  simp only [peek, linRead, hread]

/-- With paging off the back link of a nested switch is there afterwards (R546 step 6). -/
theorem peek_backLink {new : Found} {sel : Word} {kind : SwitchKind} {ret : DWord} {s t : State}
    (h : leaveTask new sel kind ret s = .ok () t) (hunpaged : (s.pe && s.pg) = false) (hnest : kind = .nest)
    (hwf : Memory.wf s.mem = true) : peek t new.desc.base 2 = some (s.tr.sel.setWidth 32) := by
  obtain ⟨u, hu, hlink⟩ := leaveTask_ok h
  rw [writeBackLink, if_pos hnest] at hlink
  refine peek_of_linWrite_word hlink ?_ (hu.wf hwf)
  rw [hu.mem_only]
  exact hunpaged

end Sys2Proof.Machine
end

section
/-!
PROOFS. The task that a switch enters (60_exceptions.md R546 steps 7 to 15; 20_memory.md R116): the images read from its TSS, and what
loading the registers from them leaves.
-/
namespace Sys2Proof.Machine

open Sys2Proof.Claims

variable {α β : Type}

/-! ### Fields of a TSS read -/

theorem peek_of_linRead {s t : State} {lin v : DWord} {n : Nat} (h : linRead lin n s = .ok v t) : peek s lin n = some v := by
  simp only [peek, h]

/-- A word that is read has 16 bits (R80). -/
theorem setWidth_of_peek_word {s : State} {lin v : DWord} (h : peek s lin 2 = some v) : (v.setWidth 16).setWidth 32 = v := by
  have hread := linRead_of_peek h
  obtain ⟨addrs, haddrs, hvalue⟩ := (silent_translateRange .read false 2 lin).exists_of_bind_ok hread
  obtain rfl : valueOf (Memory.readAll s.mem addrs) = v := by cases hvalue; rfl
  have hlt := toNat_valueOf_lt (Memory.readAll s.mem addrs)
  rw [Memory.readAll, List.length_map, translateRange_length haddrs] at hlt
  refine BitVec.eq_of_toNat_eq ?_
  rw [BitVec.toNat_setWidth, BitVec.toNat_setWidth, Memory.readAll]
  omega

/-- A field that is read is what the TSS holds there, and the rest goes on with it. -/
theorem of_readField_bind_ok {base : DWord} {off n : Nat} {f : DWord → Op β} {s t : State} {b : β}
    (h : (readField base off n >>= f) s = .ok b t) :
    ∃ v, peek s (base + BitVec.ofNat 32 off) n = some v ∧ f v s = .ok b t := by
  obtain ⟨v, hv, hf⟩ := (silent_linRead (base + BitVec.ofNat 32 off) n).exists_of_bind_ok h
  exact ⟨v, peek_of_linRead hv, hf⟩

/-- The selector that a word of the TSS holds. -/
theorem peek_selector {s : State} {lin v : DWord} (h : peek s lin 2 = some v) : peek s lin 2 = some ((v.setWidth 16).setWidth 32) :=
  h.trans (congrArg some (setWidth_of_peek_word h).symm)

/-- The low half of a register, under whatever upper one, is the word that the TSS holds. -/
theorem peek_half {s : State} {lin v : DWord} (h : peek s lin 2 = some v) (d : DWord) :
    peek s lin 2 = some (setLow16 d v &&& 0x0000FFFF#32) := by
  rw [setLow16_low, ← setWidth_setWidth_word]
  exact peek_selector h

/-! ### The registers that hold the images (R546 steps 7 to 10) -/

/-- The registers hold the images of a task, NT set besides when the switch nests. -/
structure State.Carries (t : State) (kind : SwitchKind) (img : TaskImage) : Prop where
  eip : t.eip = img.eip
  gpr : t.gpr = img.gpr
  flags : t.flags = if kind = .nest then { img.flags with nt := true } else img.flags
  es : (t.sreg .es).sel = img.es
  cs : (t.sreg .cs).sel = img.cs
  ss : (t.sreg .ss).sel = img.ss
  ds : (t.sreg .ds).sel = img.ds
  fs : (t.sreg .fs).sel = img.fs
  gs : (t.sreg .gs).sel = img.gs
  ldt : t.ldtr.sel = img.ldt

theorem carries_enterTask (s : State) (kind : SwitchKind) (img : TaskImage) : (s.enterTask kind img).Carries kind img :=
  ⟨rfl, rfl, rfl, rfl, rfl, rfl, rfl, rfl, rfl, rfl⟩

section
variable {t : State} {kind : SwitchKind} {img : TaskImage} (h : t.Carries kind img)
include h

theorem State.Carries.flags_of_image {v : DWord} (hv : img.flags = Flags.ofImage v) :
    t.flags = { Flags.ofImage v with nt := (Flags.ofImage v).nt || (kind == .nest) } := by
  rw [h.flags, hv]
  by_cases hnest : kind = .nest
  · simp [hnest]
  · rw [if_neg hnest, beq_false_of_ne hnest, Bool.or_false]

theorem State.Carries.vm : t.flags.vm = img.flags.vm := by
  rw [h.flags]
  split <;> rfl

theorem State.Carries.nt (hnest : kind = .nest) : t.flags.nt = true := by
  rw [h.flags, if_pos hnest]

end

/-- With paging on CR3 is loaded first, and what follows is done with it (R544, R546 step 7). -/
theorem exists_of_loadCr3 {base : DWord} {rest : Unit → Op β} {s u : State} {b : β}
    (h : (query State.pg >>= fun pg => if pg = true then readField base 0x1C 4 >>= fun v =>
      update (fun s => { s with cr3 := v }) >>= rest else rest ()) s = .ok b u) :
    ∃ c : State, c = { s with cr3 := c.cr3 } ∧ (if s.pg = true then peek s (base + 0x1C#32) 4 = some c.cr3 else c.cr3 = s.cr3) ∧
      rest () c = .ok b u := by
  rw [query_bind_run] at h
  by_cases hpg : s.pg = true
  · rw [if_pos hpg] at h
    obtain ⟨v, hv, h⟩ := of_readField_bind_ok h
    rw [update_bind_run] at h
    exact ⟨{ s with cr3 := v }, rfl, (if_pos hpg).mpr hv, h⟩
  · rw [if_neg hpg] at h
    exact ⟨s, rfl, (if_neg hpg).mpr rfl, h⟩

/-- The registers loaded from an 80386 TSS are what it holds (R116). CR3 is loaded first, and the rest is read through it (R544). -/
theorem readTask386_ok {base : DWord} {s u : State} {img : TaskImage} (h : readTask386 base s = .ok img u) :
    u = { s with cr3 := u.cr3 } ∧ (if s.pg = true then peek s (base + 0x1C#32) 4 = some u.cr3 else u.cr3 = s.cr3) ∧
      ∀ {t : State} {kind : SwitchKind}, t.Carries kind img → Image386 u t base (kind == .nest) := by
  obtain ⟨b, hb, hpaging, h⟩ := exists_of_loadCr3 h
  obtain ⟨eip, heip, h⟩ := of_readField_bind_ok h
  obtain ⟨fl, hfl, h⟩ := of_readField_bind_ok h
  obtain ⟨eax, heax, h⟩ := of_readField_bind_ok h
  obtain ⟨ecx, hecx, h⟩ := of_readField_bind_ok h
  obtain ⟨edx, hedx, h⟩ := of_readField_bind_ok h
  obtain ⟨ebx, hebx, h⟩ := of_readField_bind_ok h
  obtain ⟨esp, hesp, h⟩ := of_readField_bind_ok h
  obtain ⟨ebp, hebp, h⟩ := of_readField_bind_ok h
  obtain ⟨esi, hesi, h⟩ := of_readField_bind_ok h
  obtain ⟨edi, hedi, h⟩ := of_readField_bind_ok h
  obtain ⟨es, hes, h⟩ := of_readField_bind_ok h
  obtain ⟨cs, hcs, h⟩ := of_readField_bind_ok h
  obtain ⟨ss, hss, h⟩ := of_readField_bind_ok h
  obtain ⟨ds, hds, h⟩ := of_readField_bind_ok h
  obtain ⟨fs, hfs, h⟩ := of_readField_bind_ok h
  obtain ⟨gs, hgs, h⟩ := of_readField_bind_ok h
  obtain ⟨ldt, hldt, h⟩ := of_readField_bind_ok h
  cases h
  refine ⟨hb, hpaging, fun {t kind} hc => ?_⟩
  unfold Image386 State.selD
  rw [hc.eip, hc.gpr, hc.es, hc.cs, hc.ss, hc.ds, hc.fs, hc.gs, hc.ldt]
  exact ⟨⟨fl, hfl, hc.flags_of_image rfl⟩, heip, heax, hecx, hedx, hebx, hesp, hebp, hesi, hedi, peek_selector hes,
    peek_selector hcs, peek_selector hss, peek_selector hds, peek_selector hfs, peek_selector hgs, peek_selector hldt⟩

/-- Values drawn have no part in what is read. -/
theorem of_readField_bind_ok_drawn {base : DWord} {off n k : Nat} {f : DWord → Op β} (s : State) {t : State} {b : β}
    (h : (readField base off n >>= f) { s with draws := k } = .ok b t) :
    ∃ v, peek s (base + BitVec.ofNat 32 off) n = some v ∧ f v { s with draws := k } = .ok b t := by
  obtain ⟨v, hv, hf⟩ := of_readField_bind_ok h
  exact ⟨v, (peek_congr (s := s) (t := { s with draws := k }) rfl rfl rfl _ _).symm.trans hv, hf⟩

/-- A register image of an 80286 TSS is the word there under a value drawn (U17). -/
theorem of_readHalf_bind_ok {base : DWord} {off k : Nat} {f : DWord → Op β} (s : State) {t : State} {b : β}
    (h : (readHalf base off >>= f) { s with draws := k } = .ok b t) :
    ∃ v d, peek s (base + BitVec.ofNat 32 off) 2 = some v ∧ f (setLow16 d v) { s with draws := k + 1 } = .ok b t := by
  unfold readHalf at h
  rw [bind_assoc_run] at h
  obtain ⟨v, hv, h⟩ := of_readField_bind_ok_drawn s h
  rw [bind_assoc_run, drawUndef_bind_run, pure_bind_run] at h
  exact ⟨v, _, hv, h⟩

/-- The registers loaded from an 80286 TSS are what it holds (R116, R543); eight upper halves are drawn (U17). -/
theorem readTask286_ok {base : DWord} {s u : State} {img : TaskImage} (h : readTask286 base s = .ok img u) :
    u = { s with draws := u.draws } ∧
      ∀ {t : State} {kind : SwitchKind}, t.Carries kind img → Image286 s t base (kind == .nest) := by
  obtain ⟨eip, heip, h⟩ := of_readField_bind_ok h
  obtain ⟨fl, hfl, h⟩ := of_readField_bind_ok h
  obtain ⟨eax, d0, heax, h⟩ := of_readHalf_bind_ok s h
  obtain ⟨ecx, d1, hecx, h⟩ := of_readHalf_bind_ok s h
  obtain ⟨edx, d2, hedx, h⟩ := of_readHalf_bind_ok s h
  obtain ⟨ebx, d3, hebx, h⟩ := of_readHalf_bind_ok s h
  obtain ⟨esp, d4, hesp, h⟩ := of_readHalf_bind_ok s h
  obtain ⟨ebp, d5, hebp, h⟩ := of_readHalf_bind_ok s h
  obtain ⟨esi, d6, hesi, h⟩ := of_readHalf_bind_ok s h
  obtain ⟨edi, d7, hedi, h⟩ := of_readHalf_bind_ok s h
  obtain ⟨es, hes, h⟩ := of_readField_bind_ok_drawn s h
  obtain ⟨cs, hcs, h⟩ := of_readField_bind_ok_drawn s h
  obtain ⟨ss, hss, h⟩ := of_readField_bind_ok_drawn s h
  obtain ⟨ds, hds, h⟩ := of_readField_bind_ok_drawn s h
  obtain ⟨ldt, hldt, h⟩ := of_readField_bind_ok_drawn s h
  cases h
  refine ⟨rfl, fun {t kind} hc => ?_⟩
  unfold Image286 State.regW State.reg State.selD
  rw [hc.eip, hc.gpr, hc.es, hc.cs, hc.ss, hc.ds, hc.fs, hc.gs, hc.ldt]
  exact ⟨⟨fl, hfl, hc.flags_of_image rfl⟩, heip, peek_half heax d0, peek_half hecx d1, peek_half hedx d2, peek_half hebx d3,
    peek_half hesp d4, peek_half hebp d5, peek_half hesi d6, peek_half hedi d7, peek_selector hes, peek_selector hcs,
    peek_selector hss, peek_selector hds, peek_selector hldt, rfl, rfl⟩

/-! ### The segment registers and LDTR of the new task (R546 steps 11 to 15) -/

/-- What loading the hidden parts may change: memory (accessed bits), LDTR, the segment registers and CPL, no selector among them. -/
structure Reloads (s t : State) : Prop where
  frame : t = { s with mem := t.mem, ldtr := t.ldtr, seg := t.seg, cpl := t.cpl }
  ldt : t.ldtr.sel = s.ldtr.sel
  sel : ∀ r, (t.sreg r).sel = (s.sreg r).sel

theorem Reloads.refl (s : State) : Reloads s s := ⟨rfl, rfl, fun _ => rfl⟩

theorem Reloads.trans {s t u : State} (h : Reloads s t) (h' : Reloads t u) : Reloads s u :=
  ⟨by rw [h'.frame, h.frame], h'.ldt.trans h.ldt, fun r => (h'.sel r).trans (h.sel r)⟩

theorem Reloads.carries {s t : State} (h : Reloads s t) {kind : SwitchKind} {img : TaskImage} (hc : s.Carries kind img) :
    t.Carries kind img where
  eip := by rw [h.frame]; exact hc.eip
  gpr := by rw [h.frame]; exact hc.gpr
  flags := by rw [h.frame]; exact hc.flags
  es := (h.sel .es).trans hc.es
  cs := (h.sel .cs).trans hc.cs
  ss := (h.sel .ss).trans hc.ss
  ds := (h.sel .ds).trans hc.ds
  fs := (h.sel .fs).trans hc.fs
  gs := (h.sel .gs).trans hc.gs
  ldt := h.ldt.trans hc.ldt

/-- A segment register is loaded under the selector it has, after the accessed bit is set in memory. -/
theorem reloads_setSreg {s u : State} {r : SReg} {g : SegReg} (hmem : u = { s with mem := u.mem }) (hsel : (s.sreg r).sel = g.sel) :
    Reloads s (u.setSreg r g) := by
  refine ⟨by rw [hmem]; rfl, by rw [hmem]; rfl, fun q => ?_⟩
  have hget : (u.setSreg r g).sreg q = (s.setSreg r g).sreg q := by rw [hmem]; rfl
  rw [hget]
  by_cases hq : q = r
  · rw [hq, State.sreg_setSreg_same, hsel]
  · rw [State.sreg_setSreg_other s r q g hq]

theorem Reloads.withCpl {s t : State} (h : Reloads s t) (cpl : BitVec 2) : Reloads s { t with cpl := cpl } :=
  ⟨by rw [h.frame], h.ldt, h.sel⟩

/-- From registers that hold the images of a task an operation that completes reloads them, CPL kept. -/
def Reloading (kind : SwitchKind) (img : TaskImage) (x : Op Unit) : Prop :=
  ∀ s t : State, s.Carries kind img → x s = .ok () t → Reloads s t ∧ t.cpl = s.cpl

section
variable {kind : SwitchKind} {img : TaskImage}

theorem Reloading.bind {x y : Op Unit} (hx : Reloading kind img x) (hy : Reloading kind img y) :
    Reloading kind img (x >>= fun _ => y) := by
  intro s t hc h
  obtain ⟨_, u, hu, ht⟩ := exists_of_bind_ok h
  obtain ⟨hsu, hcplu⟩ := hx s u hc hu
  obtain ⟨hut, hcplt⟩ := hy u t (hsu.carries hc) ht
  exact ⟨hsu.trans hut, hcplt.trans hcplu⟩

theorem reloading_loadTaskLdt : Reloading kind img (loadTaskLdt img.ldt) := by
  intro s t hc h
  unfold loadTaskLdt at h
  split at h
  · cases h
    exact ⟨Reloads.refl _, rfl⟩
  · obtain ⟨f, -, h⟩ := (silent_lookupGdt _ _).exists_of_bind_ok h
    obtain ⟨-, h⟩ := of_raiseIf_bind_ok h
    obtain ⟨-, h⟩ := of_raiseIf_bind_ok h
    cases h
    exact ⟨⟨rfl, hc.ldt.symm, fun _ => rfl⟩, rfl⟩

theorem reloading_loadTaskSs : Reloading kind img (loadTaskSs img.ss) := by
  intro s t hc h
  unfold loadTaskSs at h
  rw [query_bind_run] at h
  obtain ⟨-, h⟩ := of_raiseIf_bind_ok h
  obtain ⟨f, -, h⟩ := (silent_lookup _ _).exists_of_bind_ok h
  obtain ⟨-, h⟩ := of_raiseIf_bind_ok h
  obtain ⟨-, h⟩ := of_raiseIf_bind_ok h
  obtain ⟨_, u, hu, h⟩ := exists_of_bind_ok h
  have hcpl : u.cpl = s.cpl := setAccessed_cpl hu
  cases h
  exact ⟨reloads_setSreg (setAccessed_ok hu).1 hc.ss, hcpl⟩

theorem reloading_loadTaskData {r : SReg} {sel : Word} (hsel : ∀ {s : State}, s.Carries kind img → (s.sreg r).sel = sel) :
    Reloading kind img (loadTaskData r sel) := by
  intro s t hc h
  unfold loadTaskData at h
  split at h
  · cases h
    exact ⟨Reloads.refl _, rfl⟩
  · rw [query_bind_run] at h
    obtain ⟨f, -, h⟩ := (silent_lookup _ _).exists_of_bind_ok h
    obtain ⟨-, h⟩ := of_raiseIf_bind_ok h
    obtain ⟨-, h⟩ := of_raiseIf_bind_ok h
    obtain ⟨-, h⟩ := of_raiseIf_bind_ok h
    obtain ⟨_, u, hu, h⟩ := exists_of_bind_ok h
    have hcpl : u.cpl = s.cpl := setAccessed_cpl hu
    cases h
    exact ⟨reloads_setSreg (setAccessed_ok hu).1 (hsel hc), hcpl⟩

/-- CPL becomes the RPL of the new CS (R546 step 13). -/
theorem loadTaskCs_ok {s t : State} (hc : s.Carries kind img) (h : loadTaskCs img.cs s = .ok () t) :
    Reloads s t ∧ t.cpl = selRpl img.cs := by
  obtain ⟨-, h⟩ := of_raiseIf_bind_ok h
  obtain ⟨f, -, h⟩ := (silent_lookup _ _).exists_of_bind_ok h
  obtain ⟨-, h⟩ := of_raiseIf_bind_ok h
  obtain ⟨-, h⟩ := of_raiseIf_bind_ok h
  obtain ⟨-, h⟩ := of_raiseIf_bind_ok h
  obtain ⟨_, u, hu, h⟩ := exists_of_bind_ok h
  cases h
  exact ⟨(reloads_setSreg (setAccessed_ok hu).1 hc.cs).withCpl _, rfl⟩

/-- The registers of a V86 task keep their selectors, and CPL becomes 3 (R546 step 12). -/
theorem reloads_loadTaskV86 {s : State} (hc : s.Carries kind img) : Reloads s (s.loadTaskV86 img) := by
  refine ⟨rfl, rfl, fun r => ?_⟩
  cases r with
  | es => exact hc.es.symm
  | cs => exact hc.cs.symm
  | ss => exact hc.ss.symm
  | ds => exact hc.ds.symm
  | fs => exact hc.fs.symm
  | gs => exact hc.gs.symm

/-- Loading the new task keeps the images in the registers, and CPL is that of the new code (R41, R546). -/
theorem loadTask_ok {s t : State} (hc : s.Carries kind img) (h : loadTask img s = .ok () t) :
    Reloads s t ∧ t.cpl = if img.flags.vm then 3 else selRpl img.cs := by
  obtain ⟨_, a, ha, h⟩ := exists_of_bind_ok h
  obtain ⟨hldt, -⟩ := reloading_loadTaskLdt s a hc ha
  have hca := hldt.carries hc
  split at h
  next hvm =>
    cases h
    exact ⟨hldt.trans (reloads_loadTaskV86 hca), (if_pos hvm).symm⟩
  next hvm =>
    obtain ⟨_, b, hb, h⟩ := exists_of_bind_ok h
    obtain ⟨hcs, hcpl⟩ := loadTaskCs_ok hca hb
    have hrest := reloading_loadTaskSs.bind <| (reloading_loadTaskData fun hc => hc.ds).bind <|
      (reloading_loadTaskData fun hc => hc.es).bind <| (reloading_loadTaskData fun hc => hc.fs).bind <|
      reloading_loadTaskData (kind := kind) (img := img) fun hc => hc.gs
    obtain ⟨hdata, hcplt⟩ := hrest b t (hcs.carries hca) h
    exact ⟨hldt.trans (hcs.trans hdata), by rw [if_neg hvm, hcplt, hcpl]⟩

end

end Sys2Proof.Machine
end

section
/-!
PROOFS. The task switch put together (60_exceptions.md R540 to R546), with the far JMP and CALL that switch tasks (44_control_transfer.md
R406, R413, R414).
-/
namespace Sys2Proof.Machine

open Sys2Proof.Claims

/-! ### A switch that completes (R546) -/

/-- The images are read from a TSS of either format, CR3 before those of an 80386 TSS with paging on (R544). -/
theorem readTask_ok {new : Found} {s u : State} {img : TaskImage} (h : readTask new s = .ok img u) :
    u = { s with cr3 := u.cr3, draws := u.draws } ∧
      (if new.desc.is386 = true ∧ s.pg = true then peek s (new.desc.base + 0x1C#32) 4 = some u.cr3 else u.cr3 = s.cr3) ∧
      ∀ {t : State} {kind : SwitchKind}, t.Carries kind img →
        if new.desc.is386 then Image386 { s with cr3 := u.cr3 } t new.desc.base (kind == .nest)
        else Image286 s t new.desc.base (kind == .nest) := by
  unfold readTask at h
  split at h
  next h386 =>
    obtain ⟨hu, hcr3, himage⟩ := readTask386_ok h
    refine ⟨by rw [hu], ?_, fun hc => ?_⟩
    · simpa only [h386, true_and] using hcr3
    · rw [if_pos h386, ← hu]
      exact himage hc
  next h286 =>
    obtain ⟨hu, himage⟩ := readTask286_ok h
    exact ⟨by rw [hu], by rw [if_neg fun h => h286 h.1, hu], fun hc => if_neg h286 ▸ himage hc⟩

/-- The state that the registers are loaded in once the old task, in `s`, is left and the images are read. -/
def State.switched (s : State) (new : Found) (sel : Word) (kind : SwitchKind) (img : TaskImage) (u : State) : State :=
  State.enterTask { s with mem := u.mem, tr := new.taskReg sel, cr3 := u.cr3, draws := u.draws } kind img

/-- A switch that completes left the old task, read the images, and loaded the new task from them. -/
theorem switchTasks_ok {new : Found} {sel : Word} {kind : SwitchKind} {ret : DWord} {s t : State}
    (h : switchTasks new sel kind ret s = .ok () t) :
    ∃ a u img, leaveTask new sel kind ret s = .ok () a ∧ readTask new a = .ok img u ∧
      Reloads (s.switched new sel kind img u) t ∧ t.Carries kind img ∧
      t.cpl = if img.flags.vm then 3 else selRpl img.cs := by
  obtain ⟨-, h⟩ := of_raiseIf_bind_ok h
  obtain ⟨img, v, hcommit, h⟩ := exists_of_bind_ok h
  have hcommit := (switchCommit_run new sel kind ret s).symm.trans (of_atomically_ok hcommit)
  obtain ⟨_, a, hleave, hcommit⟩ := exists_of_bind_ok hcommit
  obtain ⟨img', u, hread, hcommit⟩ := exists_of_bind_ok hcommit
  rw [update_bind_run] at hcommit
  cases hcommit
  have hentered : s.switched new sel kind img u = u.enterTask kind img := by
    rw [State.switched, (readTask_ok hread).1, (stores_of_leaveTask hleave).mem_only]
  have hcarries := carries_enterTask u kind img
  obtain ⟨hreloads, hcpl⟩ := loadTask_ok hcarries (of_inNewTask_ok h)
  exact ⟨a, u, img, hleave, hread, hentered ▸ hreloads, hreloads.carries hcarries, hcpl⟩

/-- The format of the TSS bounds its limit from below (R546 step 1). -/
theorem switchTasks_of_short {new : Found} {sel : Word} {kind : SwitchKind} {ret : DWord} {s : State}
    (h : new.desc.limit.toNat < if new.desc.is386 then 0x67 else 0x2B) :
    switchTasks new sel kind ret s = .error (Exc.ts (selCode sel)) s := by
  unfold switchTasks
  rw [decide_eq_true h, raiseIf_true_bind_run]

/-! ### Far JMP and CALL to a task (R413, R414) -/

theorem taskExc_transferKind (call : Bool) (c : Word) :
    (transferKind call).taskExc c = if call = true then Exc.ts c else Exc.gp c := by
  cases call <;> rfl

theorem switchKind_transferKind (call : Bool) : (transferKind call).switchKind = if call = true then .nest else .jmp := by
  cases call <;> rfl

/-- Settles O52: a switch is the old task left, the images read and the registers loaded from them; a far transfer to a task is its
checks one after another, and the switch. -/
theorem taskSwitchEffects : Obligations.TaskSwitchEffects := by
  unfold Obligations.TaskSwitchEffects
  refine ⟨fun s t new sel kind ret => ⟨fun h => ?switch, switchTasks_of_short⟩,
    fun s i call sel off a d hmode hform hready hnull ha hd => ?far⟩
  case switch =>
    obtain ⟨b, u, img, hleave, hread, hreloads, hcarries, hcpl⟩ := switchTasks_ok h
    have hstores := stores_of_leaveTask hleave
    obtain ⟨-, hcr3, himage⟩ := readTask_ok hread
    have hframe := hreloads.frame
    have htr : t.tr = new.taskReg sel := (congrArg State.tr hframe :)
    have htcr3 : t.cr3 = u.cr3 := (congrArg State.cr3 hframe :)
    have hpg : b.pg = s.pg := (congrArg State.pg hstores.mem_only :)
    have hbcr3 : b.cr3 = s.cr3 := (congrArg State.cr3 hstores.mem_only :)
    have hnmi : t.nmiBlocked = (s.nmiBlocked && kind != .iret) := (congrArg State.nmiBlocked hframe :)
    have hsystem : t.system = s.system := by
      have hkeeps := (deliveryStep_switchTasks (r := s.system) new sel kind ret).keeps s rfl
      rwa [h] at hkeeps
    obtain ⟨hgdtr, hidtr, hcr2, hdr, htr6, htr7, -⟩ := SystemRegs.mk.inj hsystem
    refine ⟨⟨b, hleave, htr ▸ hstores.mem_only, htcr3 ▸ himage hcarries, ?cr3,
        fun hunpaged => ⟨hstores.bytes hunpaged, peek_backLink hleave hunpaged⟩⟩,
      htr, (congrArg State.cr0 hframe :), hcarries.nt, ?cpl, hgdtr, hidtr, hcr2, hdr, htr6, htr7,
      (congrArg State.inputs hframe :), (congrArg State.ioWrites hframe :), (congrArg State.run hframe :), ?nmi⟩
    case cr3 =>
      rw [htcr3, ← hpg, ← hbcr3]
      exact hcr3
    case cpl =>
      rw [hcarries.vm]
      exact hcarries.cs ▸ hcpl
    case nmi =>
      rw [hnmi]
      cases kind <;> rfl
  case far =>
    intro go fault x kind level
    have hgo : go = complete (farProt (transferKind call) sel off) s := exec_of_farForm_prot hmode hform hready
    have raises {e : Exc} (h : farProt (transferKind call) sel off s = .error e s) : fault e := hgo.trans (complete_of_error h)
    have hx (c : Word) : (transferKind call).taskExc c = x c := taskExc_transferKind call c
    have hkind : (transferKind call).switchKind = kind := switchKind_transferKind call
    have switches {f : Found} {ts : Word} (h : farProt (transferKind call) sel off s = farSwitch (transferKind call) f ts s) :
        SwitchOutcome s f ts kind (x 0) go := by
      rw [hgo, ← hx 0, ← hkind]
      exact farSwitch_outcome h
    refine ⟨fun hgate => ?gate, fun htss => ?tss, fun hcode hno => raises (farProt_of_unfit _ off hnull ha hd hcode hno)⟩
    case gate =>
      intro ts
      have hrun := (farProt_of_taskGate (transferKind call) off hnull ha hd hgate).trans (farThroughTaskGate_run ..)
      rw [hx, hx] at hrun
      have hopen (hlevel : level) (hp : d.p = true) :=
        hrun.trans ((if_neg (not_not_intro hlevel)).trans (if_neg (ne_false_of_eq_true hp)))
      refine ⟨fun hno => raises (hrun.trans (if_pos hno)),
        fun hlevel hp => raises (hrun.trans ((if_neg (not_not_intro hlevel)).trans (if_pos hp))),
        fun hlevel hp hout => raises ((hopen hlevel hp).trans (bind_of_error (lookupGdt_of_unlisted hout _))),
        fun b new hlevel hp hti hb hnew => ?_⟩
      have htarget := (hopen hlevel hp).trans ((bind_of_ok (lookupGdt_of_found hti hb hnew _)).trans (switchToTss_run ..))
      rw [hx] at htarget
      exact ⟨fun hno => raises (htarget.trans (if_pos hno)),
        fun htss hp => raises (htarget.trans ((if_neg (ne_false_of_eq_true htss)).trans (if_pos hp))),
        fun htss hp => switches (htarget.trans ((if_neg (ne_false_of_eq_true htss)).trans (if_neg (ne_false_of_eq_true hp))))⟩
    case tss =>
      intro open'
      have hrun := (farProt_of_tss (transferKind call) off hnull ha hd htss).trans (farToTss_run ..)
      rw [hx] at hrun
      exact ⟨fun hno => raises (hrun.trans (if_pos hno)),
        fun hopen hp => raises (hrun.trans ((if_neg (not_not_intro hopen)).trans (if_pos hp))),
        fun hopen hp => switches (hrun.trans ((if_neg (not_not_intro hopen)).trans (if_neg (ne_false_of_eq_true hp))))⟩

end Sys2Proof.Machine
end

section
/-!
PROOFS. The EFLAGS image (10_state.md R26, R28): the bit that each flag has in it, and the bits that are fixed.
-/
namespace Sys2Proof.Machine

/-- The bits of the EFLAGS image: each flag at its place, bit 1 set, every other bit clear (R26, R28). -/
def Flags.bit (f : Flags) : Nat → Bool
  | 0 => f.cf
  | 1 => true
  | 2 => f.pf
  | 4 => f.af
  | 6 => f.zf
  | 7 => f.sf
  | 8 => f.tf
  | 9 => f.ifl
  | 10 => f.df
  | 11 => f.ofl
  | 12 => f.iopl.getLsbD 0
  | 13 => f.iopl.getLsbD 1
  | 14 => f.nt
  | 16 => f.rf
  | 17 => f.vm
  | _ => false

theorem Flags.bit_of_le (f : Flags) {j : Nat} (h : 18 ≤ j) : f.bit j = false := by
  obtain ⟨k, rfl⟩ := Nat.exists_eq_add_of_le' h
  rfl

theorem Flags.getLsbD_image (f : Flags) (j : Nat) : f.image.getLsbD j = f.bit j := by
  have hfixed : (0x2#32 : DWord) = bitAt true 1 := rfl
  simp only [image, hfixed, BitVec.getLsbD_or, getLsbD_bitAt, BitVec.getLsbD_shiftLeft, BitVec.getLsbD_setWidth]
  by_cases h : 18 ≤ j
  · have habove : ∀ i < 18, decide (j = i) = false := fun i hi => decide_eq_false (by omega)
    have hiopl : f.iopl.getLsbD (j - 12) = false := BitVec.getLsbD_of_ge _ _ (by omega)
    simp [f.bit_of_le h, habove, hiopl]
  · have hlt : j < 18 := by omega
    interval_cases j <;> simp [bit]

theorem Flags.extractLsb'_image_iopl (f : Flags) : f.image.extractLsb' 12 2 = f.iopl := by
  apply BitVec.eq_of_getLsbD_eq
  intro i hi
  rw [BitVec.getLsbD_extractLsb', f.getLsbD_image, decide_eq_true hi, Bool.true_and]
  interval_cases i <;> rfl

/-- An image that is loaded gives back the flags that it is the image of. -/
theorem Flags.ofImage_image (f : Flags) : ofImage f.image = f := by
  simp only [ofImage, f.getLsbD_image, f.extractLsb'_image_iopl]
  rfl

/-- Of a doubleword that is loaded, the image keeps the bits that are flags (R28). -/
theorem Flags.image_ofImage (v : DWord) : (ofImage v).image = (v &&& 0x00037FD5#32) ||| 0x00000002#32 := by
  apply BitVec.eq_of_getLsbD_eq
  intro i hi
  rw [getLsbD_image, BitVec.getLsbD_or, BitVec.getLsbD_and]
  interval_cases i <;> simp [bit, ofImage]

/-- Settles O14: the image is known by its bits, and what is loaded from it is read off them. -/
theorem flagsImageFixedBits : Obligations.FlagsImageFixedBits := by
  unfold Obligations.FlagsImageFixedBits
  intro f v
  have hbit := f.getLsbD_image
  exact ⟨f.ofImage_image, hbit 1, hbit 3, hbit 5, hbit 15, fun j hj => (hbit j).trans (f.bit_of_le hj), Flags.image_ofImage v,
    hbit 0, hbit 2, hbit 4, hbit 6, hbit 7, hbit 8, hbit 9, hbit 10, hbit 11, f.extractLsb'_image_iopl, hbit 14, hbit 16, hbit 17⟩

end Sys2Proof.Machine
end

section
/-!
PROOFS. The status flags of addition and subtraction (10_state.md R36): overflow as a signed number that does not fit.
-/
namespace Sys2Proof.Machine

open Sys2Proof.Claims

section
variable {sz : Size} {a b : DWord} (ha : a.toNat < 2 ^ sz.bits) (hb : b.toNat < 2 ^ sz.bits) (c : Bool)
include ha hb

/-- Two addends of one sign and a sum of the other: the signed sum does not fit (R36). -/
theorem addOverflow_eq_not_fits :
    ((signBit sz a == signBit sz b) && (signBit sz (addResult sz a b c) != signBit sz a)) =
      !fits true sz (toSigned sz a + toSigned sz b + c.toNat) := by
  have hc : c.toNat ≤ 1 := Bool.toNat_le c
  have hr : (addResult sz a b c).toNat < 2 ^ sz.bits := truncSize_lt sz _
  rw [signBit_eq_decide ha, signBit_eq_decide hb, signBit_eq_decide hr, addResult_toNat, toSigned_of_lt ha, toSigned_of_lt hb,
    Bool.eq_iff_iff, Bool.not_eq_true', Bool.eq_false_iff, ne_eq, fits_signed]
  simp only [Bool.and_eq_true, beq_iff_eq, bne_iff_ne, ne_eq, decide_eq_decide]
  cases sz <;> simp only [Size.bits] at ha hb ⊢ <;> split_ifs <;> omega

/-- Operands of different signs and a difference of the subtrahend's: the signed difference does not fit (R36). -/
theorem subOverflow_eq_not_fits :
    ((signBit sz a != signBit sz b) && (signBit sz (subResult sz a b c) != signBit sz a)) =
      !fits true sz (toSigned sz a - toSigned sz b - c.toNat) := by
  have hc : c.toNat ≤ 1 := Bool.toNat_le c
  have hr : (subResult sz a b c).toNat < 2 ^ sz.bits := truncSize_lt sz _
  rw [signBit_eq_decide ha, signBit_eq_decide hb, signBit_eq_decide hr, subResult_toNat ha hb, toSigned_of_lt ha, toSigned_of_lt hb,
    Bool.eq_iff_iff, Bool.not_eq_true', Bool.eq_false_iff, ne_eq, fits_signed]
  simp only [Bool.and_eq_true, bne_iff_ne, ne_eq, decide_eq_decide]
  cases sz <;> simp only [Size.bits] at ha hb ⊢ <;> split_ifs <;> omega

end

/-- ZF after a result of the size: the result is 0 as a number (R36). -/
theorem zeroFlag_eq_decide {sz : Size} {r : DWord} (h : r.toNat < 2 ^ sz.bits) : (truncSize sz r == 0) = decide (r.toNat = 0) := by
  rw [truncSize_of_lt h, Bool.eq_iff_iff, beq_iff_eq, decide_eq_true_iff]
  exact BitVec.toNat_eq

/-- Settles O13: results and overflow as numbers; each of the other flags is a test of the result or a comparison already. -/
theorem addSubtractFlags : Obligations.AddSubtractFlags := by
  unfold Obligations.AddSubtractFlags
  intro f sz a b c ha hb sum ssum sdiff fadd fsub
  have hsum : (addResult sz a b c).toNat = sum % 2 ^ sz.bits := addResult_toNat sz a b c
  have hdiff : (subResult sz a b c).toNat = (a.toNat + 2 ^ (sz.bits + 1) - b.toNat - c.toNat) % 2 ^ sz.bits := by
    rw [Nat.pow_succ']
    exact subResult_toNat ha hb c
  have hzf := zeroFlag_eq_decide (truncSize_lt sz (a + b + BitVec.ofNat 32 c.toNat))
  exact ⟨hsum, hdiff, rfl, addOverflow_eq_not_fits ha hb c, rfl, hzf.trans (hsum ▸ rfl), rfl, parityEven_eq _,
    rfl, subOverflow_eq_not_fits ha hb c, rfl, zeroFlag_eq_decide (truncSize_lt sz _), rfl, parityEven_eq _, rfl, rfl⟩

end Sys2Proof.Machine
end

section
/-!
PROOFS. The parts of the general registers (10_state.md R21, R22): a part is a field of its register, and writing it leaves every other
field as it was.
-/
namespace Sys2Proof.Machine

/-- A 16-bit register, read through a mask, is the low word (R21). -/
theorem truncSize_word_eq_extractLsb' (v : DWord) : truncSize .word v = (v.extractLsb' 0 16).setWidth 32 := by
  apply BitVec.eq_of_toNat_eq
  rw [truncSize_toNat, BitVec.toNat_setWidth_of_le (by decide), BitVec.extractLsb'_toNat, Nat.shiftRight_zero]
  rfl

/-- A doubleword whose low word is replaced: its high word, then the new low one (R21). -/
theorem setLow16_eq_append (old v : DWord) : setLow16 old v = old.extractLsb' 16 16 ++ v.extractLsb' 0 16 := by
  rw [← extractLsb'_high_setLow16 old v, ← extractLsb'_low_setLow16 old v, extractLsb'_append_extractLsb' _ 0 16 16]
  exact BitVec.extractLsb'_eq_self.symm

/-- A doubleword whose byte 1 is replaced: the new byte between its high word and its byte 0 (R22). -/
theorem setByte_high_eq_append (old : DWord) (v : Byte) :
    setByte true old v = old.extractLsb' 16 16 ++ v ++ old.extractLsb' 0 8 := by
  have hbyte : (setByte true old v).extractLsb' 8 8 = v := extractLsb'_setByte_same true old v
  rw [← extractLsb'_setByte_other (high := true) (k := 16) (n := 16) (by decide) (by decide) old v,
    ← extractLsb'_setByte_other (high := true) (k := 0) (n := 8) (by decide) (by decide) old v]
  generalize setByte true old v = new at hbyte ⊢
  rw [← hbyte, extractLsb'_append_extractLsb' new 8 8 16, extractLsb'_append_extractLsb' new 0 8 24]
  exact BitVec.extractLsb'_eq_self.symm

/-- A doubleword whose byte 0 is replaced: its high 24 bits, then the new byte (R22). -/
theorem setByte_low_eq_append (old : DWord) (v : Byte) : setByte false old v = old.extractLsb' 8 24 ++ v := by
  have hbyte : (setByte false old v).extractLsb' 0 8 = v := extractLsb'_setByte_same false old v
  rw [← extractLsb'_setByte_other (high := false) (k := 8) (n := 24) (by decide) (by decide) old v]
  generalize setByte false old v = new at hbyte ⊢
  rw [← hbyte, extractLsb'_append_extractLsb' new 0 8 24]
  exact BitVec.extractLsb'_eq_self.symm

/-- A byte register that is written replaces its byte and keeps the other 24 bits (R22). -/
theorem State.reg_setReg8_same (s : State) (b : Reg8) (x : Byte) :
    (s.setReg8 b x).reg (wholeReg b) =
      if isHighByte b then (s.reg (wholeReg b)).extractLsb' 16 16 ++ x ++ (s.reg (wholeReg b)).extractLsb' 0 8
      else (s.reg (wholeReg b)).extractLsb' 8 24 ++ x := by
  rw [State.setReg8_eq, State.reg_setReg_same]
  cases isHighByte b with
  | true => exact setByte_high_eq_append _ x
  | false => exact setByte_low_eq_append _ x

/-- Writing a register of a width changes the general registers alone. -/
theorem State.setRegW_changes_gpr (s : State) (w : Width) (r : Reg) (v : DWord) :
    s.setRegW w r v = { s with gpr := (s.setRegW w r v).gpr } := by
  cases w <;> rfl

/-- Settles O11: reads and writes of a part are reads and writes of a field of the whole register. -/
theorem registerPartsAreViews : Obligations.RegisterPartsAreViews := by
  unfold Obligations.RegisterPartsAreViews
  intro s r r' b v x
  have hword : (s.setRegW .w16 r v).reg r = (s.reg r).extractLsb' 16 16 ++ v.extractLsb' 0 16 :=
    (State.reg_setReg_same s r _).trans (setLow16_eq_append _ v)
  exact ⟨truncSize_word_eq_extractLsb' _, hword, State.reg_setReg_same s r v, fun h w => State.reg_setRegW_other s w r r' v h, rfl,
    State.reg_setReg8_same s b x, State.reg_setReg8_other s b x, fun w => State.setRegW_changes_gpr s w r v,
    State.setReg8_changes_gpr s b x, rfl, rfl, rfl, rfl, rfl, rfl, rfl, rfl, by decide, by decide⟩

end Sys2Proof.Machine
end

section
/-!
PROOFS. RESET (10_state.md R57; 70_reset_and_hazards.md R560, R561): the values it leaves, at power-on and in the course of a run.
-/
namespace Sys2Proof.Machine

/-- Taking a sample of the pins touches the pins, the inputs and the pending NMI alone. -/
theorem State.sample_frame (s : State) :
    s.sample = { s with pins := s.sample.pins, inputs := s.sample.inputs, nmiPending := s.sample.nmiPending } := by
  unfold State.sample
  cases s.inputs <;> rfl

@[simp] theorem State.sample_mem (s : State) : s.sample.mem = s.mem := (congrArg State.mem s.sample_frame :)

@[simp] theorem State.sample_draws (s : State) : s.sample.draws = s.draws := (congrArg State.draws s.sample_frame :)

theorem State.resetDraw_sample (s : State) (k : Nat) : s.sample.resetDraw k = Config.undef (s.draws + k) := by
  rw [State.resetDraw, s.sample_draws]

/-- Settles O3: the first part reads `State.reset`; a step that samples RESET is that state with memory kept and a draw in each register
that R57 leaves undefined. -/
theorem resetLeavesStatedValues : Obligations.ResetLeavesStatedValues := by
  unfold Obligations.ResetLeavesStatedValues
  refine ⟨⟨rfl, rfl, rfl, rfl, by decide, rfl, by decide, ⟨rfl, rfl, rfl⟩, ?data, rfl, rfl, rfl, rfl, rfl⟩, fun s hreset => ?run⟩
  case data =>
    have hdata : ∀ g ∈ [SegReg.resetData, .resetData, .resetData, .resetData, .resetData], g = SegReg.resetData := by decide
    intro r g hg
    obtain rfl := hdata g hg
    decide
  case run =>
    refine ⟨s.sample.resetSignal, step_of_reset hreset, s.sample_mem, rfl, rfl, rfl, rfl, rfl, rfl, rfl, rfl, rfl, rfl, rfl, ?_⟩
    simp only [State.resetSignal, State.resetDraw_sample, s.sample_draws, and_self]

end Sys2Proof.Machine
end

section
/-!
PROOFS. What the invariant depends on (00_scope.md R2, 10_state.md R41, 20_memory.md R83): memory, PE, VM and CPL. Which updates of the
state leave these alone, and how keeping them composes.
-/
namespace Sys2Proof.Machine

variable {α β : Type}

/-- What the invariant speaks of: memory, PE, VM and CPL. -/
structure Guard where
  mem : List Host.Cell
  pe : Bool
  vm : Bool
  cpl : BitVec 2

/-- These parts of a state. -/
def State.guard (s : State) : Guard := { mem := s.mem, pe := s.pe, vm := s.flags.vm, cpl := s.cpl }

/-- Memory is canonical, and PE, VM and CPL are as `Q` says. -/
def Meets (Q : Bool → Bool → BitVec 2 → Prop) (s : State) : Prop :=
  Memory.wf s.guard.mem = true ∧ Q s.guard.pe s.guard.vm s.guard.cpl

/-- An operation from a state that meets `Q` ends in one that meets it, whether it completes or raises an exception. -/
abbrev Upholds (Q : Bool → Bool → BitVec 2 → Prop) (x : Op α) : Prop := Keeps (Meets Q) x

/-! ### What PE, VM and CPL can be (R2, R41) -/

/-- The legal combinations in all modes. -/
def Legal (pe vm : Bool) (cpl : BitVec 2) : Prop := ((pe || (!vm && cpl == 0)) && (!vm || cpl == 3)) = true

/-- The legal combinations with PE set: CPL is 3 in V86 mode. -/
def LegalPe (pe vm : Bool) (cpl : BitVec 2) : Prop := pe = true ∧ (vm = true → cpl = 3)

/-- Protected mode proper, at any CPL. -/
def ProtMode (pe vm : Bool) (_ : BitVec 2) : Prop := pe = true ∧ vm = false

/-- The invariant is that memory is canonical and the combination legal. -/
theorem inv_iff_meets_legal (s : State) : s.Inv ↔ Meets Legal s := Iff.rfl

section
variable {s : State}

theorem Meets.legal_of_legalPe (h : Meets LegalPe s) : Meets Legal s := by
  obtain ⟨hmem, hpe, hvm⟩ := h
  refine ⟨hmem, ?_⟩
  cases hv : s.guard.vm <;> simp [Legal, hpe, hv, hvm]

theorem Meets.legalPe_of_protMode (h : Meets ProtMode s) : Meets LegalPe s := by
  obtain ⟨hmem, hpe, hvm⟩ := h
  exact ⟨hmem, hpe, fun hv => absurd (hvm.symm.trans hv) Bool.false_ne_true⟩

theorem Meets.legalPe_of_pe (h : Meets Legal s) (hpe : s.pe = true) : Meets LegalPe s := by
  obtain ⟨hmem, hlegal⟩ := h
  refine ⟨hmem, hpe, fun hv => ?_⟩
  simpa [Legal, hv] using (Bool.and_eq_true_iff.mp hlegal).2

theorem Meets.protMode {Q : Bool → Bool → BitVec 2 → Prop} (h : Meets Q s) (hpe : s.pe = true) (hvm : s.flags.vm = false) :
    Meets ProtMode s := ⟨h.1, hpe, hvm⟩

/-- Outside V86 mode level 0 and real-address mode have VM clear and CPL 0, so that PE may be what it will (R41, R45). -/
theorem Meets.legal_cr0 (h : Meets Legal s) (hlevel : s.pe = false ∨ s.cpl = 0) (v : DWord) : Meets Legal { s with cr0 := v } := by
  obtain ⟨hmem, hlegal⟩ := h
  have hlegal : ((s.pe || (!s.flags.vm && s.cpl == 0)) && (!s.flags.vm || s.cpl == 3)) = true := hlegal
  have hzero : s.flags.vm = false ∧ s.cpl = 0 := by
    rcases hlevel with hpe | hcpl
    · simpa [hpe] using (Bool.and_eq_true_iff.mp hlegal).1
    · exact ⟨by simpa [hcpl] using (Bool.and_eq_true_iff.mp hlegal).2, hcpl⟩
  refine ⟨hmem, ?_⟩
  simp [State.guard, Legal, hzero]

end

/-! ### Updates of the state -/

section
variable (s : State)

theorem State.guard_setRegW (w : Width) (q : Reg) (v : DWord) : (s.setRegW w q v).guard = s.guard := by
  cases w <;> rfl

theorem State.guard_setRegS (sz : Size) (q : Reg) (v : DWord) : (s.setRegS sz q v).guard = s.guard := by
  cases sz <;> rfl

theorem State.guard_setReg8 (q : Reg8) (v : Byte) : (s.setReg8 q v).guard = s.guard := by
  rw [State.setReg8_eq]
  rfl

theorem State.guard_setReg8_twice (p q : Reg8) (v w : Byte) : ((s.setReg8 p v).setReg8 q w).guard = s.guard :=
  ((s.setReg8 p v).guard_setReg8 q w).trans (s.guard_setReg8 p v)

theorem State.guard_setSp (v : DWord) : (s.setSp v).guard = s.guard := s.guard_setRegW _ _ v

/-- The stack of another level changes CPL alone (R411, R439). -/
theorem State.guard_withStack (f : Found) (sel : Word) (sp : DWord) (cpl : BitVec 2) :
    (s.withStack f sel sp cpl).guard = { s.guard with cpl := cpl } :=
  congrArg (fun g : Guard => { g with cpl := cpl }) ((s.setSreg .ss (f.desc.toSeg sel)).guard_setSp sp)

theorem State.guard_setWide (sz : Size) (lo hi : DWord) : (s.setWide sz lo hi).guard = s.guard := by
  cases sz <;> rfl

theorem State.guard_setDreg (d : DReg) (v : DWord) : (s.setDreg d v).guard = s.guard := by
  cases d <;> rfl

theorem State.guard_setTreg (t : TReg) (v : DWord) : (s.setTreg t v).guard = s.guard := by
  cases t <;> rfl

end

section
variable {Q : Bool → Bool → BitVec 2 → Prop} {s t : State}

theorem Meets.of_guard (h : Meets Q s) (heq : t.guard = s.guard) : Meets Q t := by
  unfold Meets
  rw [heq]
  exact h

theorem Meets.of_mem {m : List Host.Cell} (h : Meets Q s) (hwf : Memory.wf s.mem = true → Memory.wf m = true) :
    Meets Q { s with mem := m } :=
  ⟨hwf h.1, h.2⟩

theorem Meets.withStack (h : Meets ProtMode s) (f : Found) (sel : Word) (sp : DWord) (cpl : BitVec 2) :
    Meets ProtMode (s.withStack f sel sp cpl) := by
  unfold Meets
  rw [s.guard_withStack]
  exact h

end

/-! ### How upholding composes -/

section
variable {Q : Bool → Bool → BitVec 2 → Prop}

theorem upholds_update {f : State → State} (h : ∀ s, (f s).guard = s.guard) : Upholds Q (update f) :=
  keeps_update fun s hs => hs.of_guard (h s)

/-- A change of the flags leaves VM alone, mostly by definition. -/
theorem upholds_updateFlags {f : Flags → Flags} (h : ∀ fl, (f fl).vm = fl.vm := by exact fun _ => rfl) : Upholds Q (updateFlags f) :=
  upholds_update fun s => congrArg (fun vm => ({ s.guard with vm := vm } : Guard)) (h s.flags)

theorem upholds_setEip (v : DWord) : Upholds Q (setEip v) := upholds_update fun _ => rfl

theorem upholds_drawUndef : Upholds Q drawUndef := fun _ h => h.of_guard rfl

theorem upholds_undefFlags (m : StatusMask) : Upholds Q (undefFlags m) := fun _ h => h.of_guard rfl

/-- Past a silent operation the rest runs from the state before. -/
theorem Silent.endState_bind {P : State → Prop} {x : Op α} {f : α → Op β} {s : State} (hx : Silent x) (hs : P s)
    (hf : ∀ a, P (endState (f a s))) : P (endState ((x >>= f) s)) := by
  rcases hx.cases s with ⟨a, ha⟩ | ⟨e, he⟩
  · rw [bind_of_ok ha]
    exact hf a
  · rw [bind_of_error he]
    exact hs

/-! ### Memory and the stack -/

theorem upholds_linWriteAs (u : Bool) (lin : DWord) (n : Nat) (v : DWord) : Upholds Q (linWriteAs u lin n v) :=
  (silent_translateRange _ _ _ _).keeps_bind fun _ => keeps_update fun _ h => h.of_mem (writeAll_wf _ _ _)

theorem upholds_memWrite (sr : SReg) (off : DWord) (n : Nat) (v : DWord) : Upholds Q (memWrite sr off n v) :=
  (silent_checkSeg _ _ _ _).keeps_bind fun _ => (silent_query _).keeps_bind fun _ => upholds_linWriteAs _ _ _ _

theorem upholds_push (w : Width) (v : DWord) : Upholds Q (push w v) :=
  (silent_query _).keeps_bind fun _ => keeps_bind (upholds_memWrite _ _ _ _) fun _ => upholds_update fun s => s.guard_setSp _

theorem upholds_pushAllOf (w : Width) (vs : List DWord) : Upholds Q (pushAllOf w vs) := by
  induction vs with
  | nil => exact keeps_pure _ _
  | cons v rest ih => exact keeps_bind (upholds_push w v) fun _ => ih

/-! ### Descriptors -/

theorem upholds_changeAccessRights (addr : DWord) (change : Byte → Byte) : Upholds Q (changeAccessRights addr change) :=
  (silent_linRead _ _).keeps_bind fun _ => upholds_linWriteAs _ _ _ _

theorem upholds_setAccessed (f : Found) : Upholds Q (setAccessed f) :=
  keeps_ite _ (keeps_pure _ _) (upholds_changeAccessRights _ _)

/-- A segment register is loaded from its descriptor, the accessed bit set (R117). -/
theorem upholds_setAccessed_bind (f : Found) {g : State → State} (h : ∀ s, (g s).guard = s.guard) :
    Upholds Q (setAccessed f >>= fun _ => update g) := keeps_bind (upholds_setAccessed f) fun _ => upholds_update h

theorem upholds_installCode (f : Found) (sel : Word) (rpl : BitVec 2) (off : DWord) : Upholds Q (installCode f sel rpl off) :=
  upholds_setAccessed_bind f fun _ => rfl

end

end Sys2Proof.Machine
end

section
/-!
PROOFS. The operations of the ordinary instructions (40_arith_logic.md to 44_control_transfer.md): none of them changes PE, VM or CPL, and
what they store keeps memory canonical.
-/
namespace Sys2Proof.Machine

section
variable {Q : Bool → Bool → BitVec 2 → Prop}

/-! ### Operands and ports -/

theorem upholds_writeLoc (sz : Size) (v : DWord) (l : Loc) : Upholds Q (writeLoc sz v l) := by
  cases l with
  | reg8 q => exact upholds_update fun s => s.guard_setReg8 q _
  | reg q => exact upholds_update fun s => s.guard_setRegS sz q v
  | mem seg off => exact upholds_memWrite _ _ _ _

theorem upholds_pop (w : Width) : Upholds Q (pop w) :=
  (silent_query _).keeps_bind fun _ => (silent_memRead _ _ _).keeps_bind fun _ =>
    keeps_bind (upholds_update fun s => s.guard_setSp _) fun _ => keeps_pure _ _

theorem upholds_popInto (w : Width) (q : Reg) : Upholds Q (popInto w q) :=
  keeps_bind (upholds_pop w) fun _ => upholds_update fun s => s.guard_setRegW w q _

theorem upholds_ioRead (port : Word) (sz : Size) : Upholds Q (ioRead port sz) := fun _ h => h

theorem upholds_ioWrite (port : Word) (sz : Size) (v : DWord) : Upholds Q (ioWrite port sz v) :=
  upholds_update fun _ => rfl

/-! ### Arithmetic and logic (R200 to R222) -/

theorem AluOp.flags_vm (op : AluOp) (sz : Size) (a b : DWord) (f : Flags) : (op.flags sz a b f).vm = f.vm := by
  cases op <;> rfl

theorem upholds_aluLoc (op : AluOp) (sz : Size) (dst : Loc) (b : DWord) : Upholds Q (aluLoc op sz dst b) :=
  have flags (a : DWord) : Upholds Q (updateFlags (fun f => op.flags sz a b f) >>= fun _ =>
      if op.isLogical then undefFlags { StatusMask.none with af := true } else pure ()) :=
    keeps_bind (upholds_updateFlags (AluOp.flags_vm op sz a b)) fun _ => keeps_ite _ (upholds_undefFlags _) (keeps_pure _ _)
  (silent_readLoc _ _).keeps_bind fun a => (silent_query _).keeps_bind fun _ =>
    keeps_ite _ (keeps_bind (upholds_writeLoc _ _ _) fun _ => flags a) (flags a)

/-- An operand is written and the flags are changed. -/
theorem upholds_writeLoc_flags (sz : Size) (v : DWord) (l : Loc) {f : Flags → Flags}
    (h : ∀ fl, (f fl).vm = fl.vm := by exact fun _ => rfl) : Upholds Q (writeLoc sz v l >>= fun _ => updateFlags f) :=
  keeps_bind (upholds_writeLoc _ _ _) fun _ => upholds_updateFlags h

theorem upholds_incDecLoc (op : IncDec) (sz : Size) (dst : Loc) : Upholds Q (incDecLoc op sz dst) :=
  (silent_readLoc _ _).keeps_bind fun _ => by
    cases op <;> exact upholds_writeLoc_flags _ _ _

theorem upholds_negLoc (sz : Size) (dst : Loc) : Upholds Q (negLoc sz dst) :=
  (silent_readLoc _ _).keeps_bind fun _ => upholds_writeLoc_flags _ _ _

theorem upholds_notLoc (sz : Size) (dst : Loc) : Upholds Q (notLoc sz dst) :=
  (silent_readLoc _ _).keeps_bind fun _ => upholds_writeLoc _ _ _

theorem upholds_convertAcc : Upholds Q convertAcc :=
  upholds_update fun s => by split <;> exact s.guard_setRegS _ _ _

theorem upholds_convertDouble : Upholds Q convertDouble := upholds_update fun s => s.guard_setRegS _ _ _

theorem upholds_asciiAdjust (digit carry : Byte → Byte) : Upholds Q (asciiAdjust digit carry) := by
  refine keeps_bind (upholds_update fun s => ?_) fun _ => upholds_undefFlags _
  dsimp only
  split
  · exact s.guard_setReg8_twice .al .ah (digit (s.reg8 .al) &&& 0x0F#8) (carry (s.reg8 .ah))
  · exact s.guard_setReg8 .al (s.reg8 .al &&& 0x0F#8)

/-- AAD and AAM write AL and AH, and then the flags (R219, R220). -/
theorem upholds_writeAx (p q : Reg8) (v w : State → Byte) :
    Upholds Q (update (fun s => (s.setReg8 p (v s)).setReg8 q (w s)) >>= fun _ => adjustFlags) :=
  keeps_bind (upholds_update fun s => s.guard_setReg8_twice p q _ _) fun _ =>
    keeps_bind (upholds_update fun _ => rfl) fun _ => upholds_undefFlags _

theorem upholds_aad : Upholds Q aad := upholds_writeAx .al .ah _ _

theorem upholds_aam : Upholds Q aam := upholds_writeAx .ah .al _ _

theorem upholds_decimalAdjust (change : Byte → Byte → Byte) : Upholds Q (decimalAdjust change) :=
  upholds_update fun _ => rfl

/-! ### Moves and the stack (R302 to R332) -/

theorem upholds_movFromSeg (rm : RM Reg) (sr : SReg) : Upholds Q (movFromSeg rm sr) := by
  refine (silent_query _).keeps_bind fun s => ?_
  split
  · exact keeps_bind upholds_drawUndef fun _ => upholds_update fun _ => rfl
  · exact upholds_writeLoc _ _ _

theorem upholds_loadSegProt (sr : SReg) (sel : Word) : Upholds Q (loadSegProt sr sel) :=
  (silent_query _).keeps_bind fun _ => keeps_ite _
    ((silent_raiseIf _ _).keeps_bind fun _ => (silent_lookup _ _).keeps_bind fun f => (silent_raiseIf _ _).keeps_bind fun _ =>
      (silent_raiseIf _ _).keeps_bind fun _ => (silent_raiseIf _ _).keeps_bind fun _ => (silent_raiseIf _ _).keeps_bind fun _ =>
        upholds_setAccessed_bind f fun _ => rfl)
    (keeps_ite _ (upholds_update fun _ => rfl)
      ((silent_lookup _ _).keeps_bind fun f => (silent_raiseIf _ _).keeps_bind fun _ => (silent_raiseIf _ _).keeps_bind fun _ =>
        (silent_raiseIf _ _).keeps_bind fun _ => upholds_setAccessed_bind f fun _ => rfl))

theorem upholds_loadSeg (sr : SReg) (sel : Word) : Upholds Q (loadSeg sr sel) :=
  (silent_query _).keeps_bind fun m => by
    cases m with
    | prot => exact upholds_loadSegProt sr sel
    | real | v86 => exact upholds_update fun _ => rfl

theorem upholds_shadowAfter (sr : SReg) : Upholds Q (shadowAfter sr) :=
  keeps_ite _ (upholds_update fun _ => rfl) (keeps_pure _ _)

theorem upholds_movToSeg (sr : SReg) (rm : RM Reg) : Upholds Q (movToSeg sr rm) :=
  (silent_query _).keeps_bind fun _ => (silent_readLoc _ _).keeps_bind fun _ => keeps_bind (upholds_loadSeg _ _) fun _ =>
    upholds_shadowAfter sr

theorem upholds_moveExtended (signed : Bool) (src : Size) (q : Reg) (loc : Loc) :
    Upholds Q (moveExtended signed src q loc) :=
  (silent_readLoc _ _).keeps_bind fun _ => (silent_query _).keeps_bind fun _ => upholds_update fun s => s.guard_setRegS _ q _

theorem upholds_xchg8 (rm : RM Reg8) (q : Reg8) : Upholds Q (xchg8 rm q) :=
  (silent_query _).keeps_bind fun _ => (silent_readLoc _ _).keeps_bind fun _ => keeps_bind (upholds_writeLoc _ _ _) fun _ =>
    upholds_update fun s => s.guard_setReg8 q _

theorem upholds_xchgV (rm : RM Reg) (q : Reg) : Upholds Q (xchgV rm q) :=
  (silent_query _).keeps_bind fun _ => (silent_readLoc _ _).keeps_bind fun _ => keeps_bind (upholds_writeLoc _ _ _) fun _ =>
    upholds_update fun s => s.guard_setRegS _ q _

theorem upholds_tableLookup : Upholds Q tableLookup :=
  (silent_query _).keeps_bind fun _ => (silent_memRead _ _ _).keeps_bind fun _ => upholds_update fun s => s.guard_setReg8 .al _

theorem upholds_loadAddress (q : Reg) (m : EA) : Upholds Q (loadAddress q m) :=
  upholds_update fun s => s.guard_setRegS _ q _

theorem upholds_loadPointer (sr : SReg) (q : Reg) (m : EA) : Upholds Q (loadPointer sr q m) :=
  (silent_query _).keeps_bind fun _ => (silent_readFarPointer m).keeps_bind fun _ => keeps_bind (upholds_loadSeg _ _) fun _ =>
    upholds_update fun s => s.guard_setRegS _ q _

theorem upholds_pushReg (q : Reg) : Upholds Q (pushReg q) := (silent_query _).keeps_bind fun _ => upholds_push _ _

theorem upholds_pushImm (imm : DWord) : Upholds Q (pushImm imm) := (silent_query _).keeps_bind fun _ => upholds_push _ _

theorem upholds_pushRm (rm : RM Reg) : Upholds Q (pushRm rm) :=
  (silent_query _).keeps_bind fun _ => (silent_readLoc _ _).keeps_bind fun _ => upholds_push _ _

theorem upholds_pushSeg (sr : SReg) : Upholds Q (pushSeg sr) := by
  refine (silent_query _).keeps_bind fun s => ?_
  split
  · exact upholds_push _ _
  · exact keeps_bind upholds_drawUndef fun _ => upholds_push _ _

theorem upholds_popRm (rm : RM Reg) : Upholds Q (popRm rm) :=
  (silent_query _).keeps_bind fun _ => keeps_bind (upholds_pop _) fun _ => (silent_query _).keeps_bind fun _ =>
    upholds_writeLoc _ _ _

theorem upholds_popSeg (sr : SReg) : Upholds Q (popSeg sr) :=
  (silent_query _).keeps_bind fun _ => keeps_bind (upholds_pop _) fun _ => keeps_bind (upholds_loadSeg _ _) fun _ =>
    upholds_shadowAfter sr

theorem upholds_pushAll : Upholds Q pushAll :=
  (silent_query _).keeps_bind fun _ => (silent_raiseIf _ _).keeps_bind fun _ => upholds_pushAllOf _ _

theorem upholds_popAll : Upholds Q popAll :=
  (silent_query _).keeps_bind fun _ => (silent_checkPops _ _).keeps_bind fun _ => keeps_bind (upholds_popInto _ _) fun _ =>
    keeps_bind (upholds_popInto _ _) fun _ => keeps_bind (upholds_popInto _ _) fun _ => keeps_bind (upholds_pop _) fun _ =>
      keeps_bind (upholds_popInto _ _) fun _ => keeps_bind (upholds_popInto _ _) fun _ =>
        keeps_bind (upholds_popInto _ _) fun _ => upholds_popInto _ _

theorem upholds_pushFlags : Upholds Q pushFlags :=
  silent_checkV86Iopl.keeps_bind fun _ => (silent_query _).keeps_bind fun _ => upholds_push _ _

theorem upholds_popFlags : Upholds Q popFlags :=
  silent_checkV86Iopl.keeps_bind fun _ => (silent_query _).keeps_bind fun _ => keeps_bind (upholds_pop _) fun _ =>
    upholds_updateFlags

theorem upholds_ahToFlags : Upholds Q ahToFlags := upholds_update fun _ => rfl

theorem upholds_copyFrames (w : Width) (n : Nat) : Upholds Q (copyFrames w n) := by
  induction n with
  | zero => exact keeps_pure _ _
  | succ n ih =>
    exact keeps_bind (upholds_update fun s => s.guard_setRegW w .ebp _) fun _ => (silent_query _).keeps_bind fun _ =>
      (silent_memRead _ _ _).keeps_bind fun _ => keeps_bind (upholds_push _ _) fun _ => ih

theorem upholds_enterFrame (n : Word) (level : Byte) : Upholds Q (enterFrame n level) :=
  have reserve (w : Width) (frame : DWord) : Upholds Q (update (fun s => s.setRegW w .ebp frame) >>= fun _ =>
      update fun s => s.setSp (s.sp - n.setWidth 32)) :=
    keeps_bind (upholds_update fun s => s.guard_setRegW w .ebp frame) fun _ => upholds_update fun s => s.guard_setSp _
  (silent_query _).keeps_bind fun s => keeps_bind (upholds_push _ _) fun _ => (silent_query _).keeps_bind fun frame =>
    keeps_ite _ (reserve s.osz frame) (keeps_bind (upholds_copyFrames _ _) fun _ => keeps_bind (upholds_push _ _) fun _ =>
      reserve s.osz frame)

theorem upholds_leaveFrame : Upholds Q leaveFrame :=
  (silent_query _).keeps_bind fun _ => keeps_bind (upholds_update fun s => s.guard_setSp _) fun _ => upholds_popInto _ _

/-! ### Ports, flag control, HLT and WAIT (R340 to R364) -/

theorem upholds_inPort (port : Word) (sz : Size) : Upholds Q (inPort port sz) :=
  (silent_checkIo _ _).keeps_bind fun _ => keeps_bind (upholds_ioRead _ _) fun _ =>
    upholds_update fun s => s.guard_setRegS sz .eax _

theorem upholds_outPort (port : Word) (sz : Size) : Upholds Q (outPort port sz) :=
  (silent_checkIo _ _).keeps_bind fun _ => (silent_query _).keeps_bind fun _ => upholds_ioWrite _ _ _

theorem upholds_clearInterrupt : Upholds Q clearInterrupt := silent_checkIopl.keeps_bind fun _ => upholds_updateFlags

theorem upholds_setInterrupt : Upholds Q setInterrupt := silent_checkIopl.keeps_bind fun _ => upholds_update fun _ => rfl

theorem upholds_waitCoprocessor : Upholds Q waitCoprocessor :=
  (silent_query _).keeps_bind fun _ => (silent_raiseIf _ _).keeps_bind fun _ => (silent_raiseIf _ _).keeps_bind fun _ =>
    keeps_ite _ (upholds_update fun _ => rfl) (keeps_pure _ _)

/-! ### Multiplication, division, shifts and bits (R251 to R273) -/

/-- The flags are changed, and some of them left undefined. -/
theorem upholds_flags_undef {f : Flags → Flags} {m : StatusMask}
    (h : ∀ fl, (f fl).vm = fl.vm := by exact fun _ => rfl) : Upholds Q (updateFlags f >>= fun _ => undefFlags m) :=
  keeps_bind (upholds_updateFlags h) fun _ => upholds_undefFlags _

theorem upholds_mulLoc (sz : Size) (src : Loc) : Upholds Q (mulLoc sz src) :=
  (silent_readLoc _ _).keeps_bind fun _ => (silent_query _).keeps_bind fun _ =>
    keeps_bind (upholds_update fun s => s.guard_setWide sz _ _) fun _ => upholds_flags_undef

theorem upholds_imulLoc (sz : Size) (src : Loc) : Upholds Q (imulLoc sz src) :=
  (silent_readLoc _ _).keeps_bind fun _ => (silent_query _).keeps_bind fun _ =>
    keeps_bind (upholds_update fun s => s.guard_setWide sz _ _) fun _ => upholds_flags_undef

theorem upholds_imulInto (sz : Size) (dst : Reg) (a b : DWord) : Upholds Q (imulInto sz dst a b) :=
  keeps_bind (upholds_update fun s => s.guard_setRegS sz dst _) fun _ => upholds_flags_undef

theorem upholds_divLoc (sz : Size) (src : Loc) : Upholds Q (divLoc sz src) :=
  (silent_readLoc _ _).keeps_bind fun _ => (silent_query _).keeps_bind fun _ => (silent_raiseIf _ _).keeps_bind fun _ =>
    (silent_raiseIf _ _).keeps_bind fun _ => keeps_bind (upholds_update fun s => s.guard_setWide sz _ _) fun _ =>
      upholds_undefFlags _

theorem upholds_idivLoc (sz : Size) (src : Loc) : Upholds Q (idivLoc sz src) :=
  (silent_readLoc _ _).keeps_bind fun _ => (silent_query _).keeps_bind fun _ => (silent_raiseIf _ _).keeps_bind fun _ =>
    (silent_raiseIf _ _).keeps_bind fun _ => keeps_bind (upholds_update fun s => s.guard_setWide sz _ _) fun _ =>
      upholds_undefFlags _

theorem upholds_imul2 (q : Reg) (rm : RM Reg) : Upholds Q (imul2 q rm) :=
  (silent_query _).keeps_bind fun _ => (silent_readLoc _ _).keeps_bind fun _ => upholds_imulInto _ _ _ _

theorem upholds_imul3 (q : Reg) (rm : RM Reg) (imm : DWord) : Upholds Q (imul3 q rm imm) :=
  (silent_query _).keeps_bind fun _ => (silent_readLoc _ _).keeps_bind fun _ => upholds_imulInto _ _ _ _

theorem ShiftOp.flags_vm (op : ShiftOp) (sz : Size) (n : Nat) (v r : DWord) (c : Bool) (f : Flags) :
    (op.flags sz n v r c f).vm = f.vm := by
  unfold flags Flags.szp
  dsimp only
  split <;> rfl

theorem upholds_shiftLoc (op : ShiftOp) (n : Nat) (sz : Size) (dst : Loc) : Upholds Q (shiftLoc op n sz dst) :=
  (silent_readLoc _ _).keeps_bind fun _ => (silent_query _).keeps_bind fun _ => keeps_bind (upholds_writeLoc _ _ _) fun _ =>
    upholds_flags_undef (op.flags_vm sz n _ _ _)

theorem upholds_shiftDouble (d : DoubleShift) (rm : RM Reg) (q : Reg) (count : Count) :
    Upholds Q (shiftDouble d rm q count) :=
  (silent_query _).keeps_bind fun _ => (silent_readLoc _ _).keeps_bind fun _ => keeps_ite _ ((silent_checkWriteLoc _ _).keeps _)
    (keeps_ite _
      (keeps_bind upholds_drawUndef fun _ => keeps_bind (upholds_writeLoc _ _ _) fun _ => upholds_undefFlags _)
      (keeps_bind (upholds_writeLoc _ _ _) fun _ => upholds_flags_undef))

theorem upholds_bitLoc (op : BitOp) (sz : Size) (dst : Loc) (i : Nat) : Upholds Q (bitLoc op sz dst i) :=
  (silent_readLoc _ _).keeps_bind fun _ => keeps_ite _ (upholds_updateFlags)
    (keeps_bind (upholds_writeLoc _ _ _) fun _ => upholds_updateFlags)

theorem upholds_bitScan (d : Scan) (q : Reg) (rm : RM Reg) : Upholds Q (bitScan d q rm) := by
  refine (silent_query _).keeps_bind fun s => (silent_readLoc _ _).keeps_bind fun v => ?_
  have write (v : DWord) {f : Flags → Flags} (h : ∀ fl, (f fl).vm = fl.vm := by exact fun _ => rfl) :
      Upholds Q (update (fun s' => s'.setRegS s.osz.size q v) >>= fun _ => updateFlags f) :=
    keeps_bind (upholds_update fun s' => s'.guard_setRegS _ q v) fun _ => upholds_updateFlags h
  split
  · exact write _
  · exact keeps_bind upholds_drawUndef fun _ => write _

theorem upholds_setIf (c : Cond) (rm : RM Reg8) : Upholds Q (setIf c rm) :=
  (silent_query _).keeps_bind fun _ => upholds_writeLoc _ _ _

/-! ### String instructions (R370 to R378) -/

theorem upholds_advance (q : Reg) (sz : Size) : Upholds Q (advance q sz) :=
  upholds_update fun s => s.guard_setRegW _ q _

theorem upholds_movs (sz : Size) : Upholds Q (movs sz) :=
  (silent_query _).keeps_bind fun _ => (silent_memRead _ _ _).keeps_bind fun _ => keeps_bind (upholds_memWrite _ _ _ _) fun _ =>
    keeps_bind (upholds_advance _ _) fun _ => upholds_advance _ _

theorem upholds_cmps (sz : Size) : Upholds Q (cmps sz) :=
  (silent_query _).keeps_bind fun _ => (silent_memRead _ _ _).keeps_bind fun _ => (silent_memRead _ _ _).keeps_bind fun _ =>
    keeps_bind (upholds_updateFlags) fun _ => keeps_bind (upholds_advance _ _) fun _ => upholds_advance _ _

theorem upholds_scas (sz : Size) : Upholds Q (scas sz) :=
  (silent_query _).keeps_bind fun _ => (silent_memRead _ _ _).keeps_bind fun _ => keeps_bind (upholds_updateFlags) fun _ =>
    upholds_advance _ _

theorem upholds_lods (sz : Size) : Upholds Q (lods sz) :=
  (silent_query _).keeps_bind fun _ => (silent_memRead _ _ _).keeps_bind fun _ =>
    keeps_bind (upholds_update fun s => s.guard_setRegS sz .eax _) fun _ => upholds_advance _ _

theorem upholds_stos (sz : Size) : Upholds Q (stos sz) :=
  (silent_query _).keeps_bind fun _ => keeps_bind (upholds_memWrite _ _ _ _) fun _ => upholds_advance _ _

theorem upholds_ins (sz : Size) : Upholds Q (ins sz) :=
  (silent_query _).keeps_bind fun _ => (silent_checkIo _ _).keeps_bind fun _ => (silent_checkWrite _ _ _).keeps_bind fun _ =>
    keeps_bind (upholds_ioRead _ _) fun _ => keeps_bind (upholds_memWrite _ _ _ _) fun _ => upholds_advance _ _

theorem upholds_outs (sz : Size) : Upholds Q (outs sz) :=
  (silent_query _).keeps_bind fun _ => (silent_checkIo _ _).keeps_bind fun _ => (silent_memRead _ _ _).keeps_bind fun _ =>
    keeps_bind (upholds_ioWrite _ _ _) fun _ => upholds_advance _ _

theorem upholds_repeated (compares : Bool) {prim : Op Unit} (h : Upholds Q prim) : Upholds Q (repeated compares prim) := by
  refine (silent_query _).keeps_bind fun s => ?_
  split
  · exact h
  · exact keeps_ite _ (keeps_pure _ _) (keeps_bind h fun _ => keeps_bind (upholds_update fun s => s.guard_setRegW _ .ecx _) fun _ =>
      (silent_query _).keeps_bind fun _ => keeps_ite _ (keeps_pure _ _) (upholds_setEip _))

/-! ### Near transfers and the transfers of an 8086 (R390 to R405) -/

theorem upholds_nearBranch (t : DWord) : Upholds Q (nearBranch t) :=
  (silent_query _).keeps_bind fun _ => (silent_raiseIf _ _).keeps_bind fun _ => upholds_setEip _

theorem upholds_jumpRel (rel : DWord) : Upholds Q (jumpRel rel) :=
  (silent_query _).keeps_bind fun _ => upholds_nearBranch _

theorem upholds_jumpIf (c : Cond) (rel : DWord) : Upholds Q (jumpIf c rel) :=
  (silent_query _).keeps_bind fun _ => keeps_ite _ (upholds_jumpRel _) (keeps_pure _ _)

theorem upholds_jumpIfCxZero (rel : Byte) : Upholds Q (jumpIfCxZero rel) :=
  (silent_query _).keeps_bind fun _ => keeps_ite _ (upholds_jumpRel _) (keeps_pure _ _)

theorem upholds_loopWhile (c : LoopCond) (rel : Byte) : Upholds Q (loopWhile c rel) :=
  keeps_bind (upholds_update fun s => s.guard_setRegW _ .ecx _) fun _ => (silent_query _).keeps_bind fun _ =>
    keeps_ite _ (upholds_jumpRel _) (keeps_pure _ _)

theorem upholds_jumpRm (rm : RM Reg) : Upholds Q (jumpRm rm) :=
  (silent_query _).keeps_bind fun _ => (silent_readLoc _ _).keeps_bind fun _ => upholds_nearBranch _

theorem upholds_callNear (t : DWord) : Upholds Q (callNear t) :=
  (silent_query _).keeps_bind fun _ => (silent_checkPushes _ _).keeps_bind fun _ => (silent_raiseIf _ _).keeps_bind fun _ =>
    keeps_bind (upholds_push _ _) fun _ => upholds_setEip _

theorem upholds_callRel (rel : DWord) : Upholds Q (callRel rel) :=
  (silent_query _).keeps_bind fun _ => upholds_callNear _

theorem upholds_callRm (rm : RM Reg) : Upholds Q (callRm rm) :=
  (silent_query _).keeps_bind fun _ => (silent_readLoc _ _).keeps_bind fun _ => upholds_callNear _

theorem upholds_dropParams (n : Word) : Upholds Q (dropParams n) := upholds_update fun s => s.guard_setSp _

theorem upholds_returnNear (n : Word) : Upholds Q (returnNear n) :=
  (silent_query _).keeps_bind fun _ => keeps_bind (upholds_pop _) fun _ => keeps_bind (upholds_nearBranch _) fun _ =>
    upholds_dropParams n

theorem upholds_enter8086 (sel : Word) (off : DWord) : Upholds Q (enter8086 sel off) :=
  (silent_query _).keeps_bind fun _ => upholds_update fun _ => rfl

theorem upholds_callFar8086 (sel : Word) (off : DWord) : Upholds Q (callFar8086 sel off) :=
  (silent_query _).keeps_bind fun _ => (silent_checkPushes _ _).keeps_bind fun _ => keeps_bind (upholds_pushAllOf _ _) fun _ =>
    upholds_enter8086 _ _

theorem upholds_returnFar8086 (n : Word) : Upholds Q (returnFar8086 n) :=
  (silent_query _).keeps_bind fun _ => (silent_checkPops _ _).keeps_bind fun _ => keeps_bind (upholds_pop _) fun _ =>
    keeps_bind (upholds_pop _) fun _ => keeps_bind (upholds_enter8086 _ _) fun _ => upholds_dropParams n

end

end Sys2Proof.Machine
end

section
/-!
PROOFS. The operations that change VM or CPL (44_control_transfer.md R406 to R418, 45_interrupt_iret.md R433 to R448,
60_exceptions.md R546):
far transfers, returns, deliveries and task switches. CPL is chosen freely only where PE is set and VM is clear, and where VM becomes 1
CPL becomes 3.
-/
namespace Sys2Proof.Machine

variable {α : Type}

/-! ### The task switch (R546) -/

section
variable {Q : Bool → Bool → BitVec 2 → Prop}

theorem upholds_loadTaskLdt (sel : Word) : Upholds Q (loadTaskLdt sel) :=
  keeps_ite _ (keeps_pure _ _) ((silent_lookupGdt _ _).keeps_bind fun _ => (silent_raiseIf _ _).keeps_bind fun _ =>
    (silent_raiseIf _ _).keeps_bind fun _ => upholds_update fun _ => rfl)

theorem upholds_loadTaskSs (sel : Word) : Upholds Q (loadTaskSs sel) :=
  (silent_query _).keeps_bind fun _ => (silent_raiseIf _ _).keeps_bind fun _ => (silent_lookup _ _).keeps_bind fun f =>
    (silent_raiseIf _ _).keeps_bind fun _ => (silent_raiseIf _ _).keeps_bind fun _ => upholds_setAccessed_bind f fun _ => rfl

theorem upholds_loadTaskData (r : SReg) (sel : Word) : Upholds Q (loadTaskData r sel) :=
  keeps_ite _ (keeps_pure _ _) ((silent_query _).keeps_bind fun _ => (silent_lookup _ _).keeps_bind fun f =>
    (silent_raiseIf _ _).keeps_bind fun _ => (silent_raiseIf _ _).keeps_bind fun _ => (silent_raiseIf _ _).keeps_bind fun _ =>
      upholds_setAccessed_bind f fun _ => rfl)

end

/-- CPL is taken from the new CS, which only a task with VM clear loads by descriptor (R546 step 13). -/
theorem upholds_loadTaskCs (sel : Word) : Upholds ProtMode (loadTaskCs sel) :=
  (silent_raiseIf _ _).keeps_bind fun _ => (silent_lookup _ _).keeps_bind fun f => (silent_raiseIf _ _).keeps_bind fun _ =>
    (silent_raiseIf _ _).keeps_bind fun _ => (silent_raiseIf _ _).keeps_bind fun _ => keeps_bind (upholds_setAccessed f) fun _ =>
      keeps_update fun _ h => ⟨h.1, h.2⟩

/-- The registers of a V86 task are loaded as such, and those of another one by descriptor (R546 steps 11 to 15). -/
theorem meets_loadTask {img : TaskImage} {s : State} (hs : Meets LegalPe s) (hvm : s.flags.vm = img.flags.vm) :
    Meets LegalPe (endState (loadTask img s)) := by
  unfold loadTask
  cases himg : img.flags.vm with
  | true =>
    have hv86 : Upholds LegalPe (update fun s => s.loadTaskV86 img) := keeps_update fun _ h => ⟨h.1, h.2.1, fun _ => rfl⟩
    exact keeps_bind (upholds_loadTaskLdt _) (fun _ => hv86) s hs
  | false =>
    have hsegs : Upholds ProtMode (loadTaskCs img.cs >>= fun _ => loadTaskSs img.ss >>= fun _ => loadTaskData .ds img.ds >>= fun _ =>
        loadTaskData .es img.es >>= fun _ => loadTaskData .fs img.fs >>= fun _ => loadTaskData .gs img.gs) :=
      keeps_bind (upholds_loadTaskCs _) fun _ => keeps_bind (upholds_loadTaskSs _) fun _ => keeps_bind (upholds_loadTaskData _ _)
        fun _ => keeps_bind (upholds_loadTaskData _ _) fun _ => keeps_bind (upholds_loadTaskData _ _) fun _ => upholds_loadTaskData _ _
    exact (keeps_bind (upholds_loadTaskLdt _) (fun _ => hsegs) s (hs.protMode hs.2.1 (hvm.trans himg))).legalPe_of_protMode

/-- With VM in the images CPL becomes 3 at once (R41, R546 step 8). -/
theorem Meets.enterTask {s : State} (h : Meets LegalPe s) (kind : SwitchKind) (img : TaskImage) :
    Meets LegalPe (s.enterTask kind img) := by
  obtain ⟨hmem, hpe, -⟩ := h
  have hpe' : (s.enterTask kind img).pe = s.pe := congrArg SystemRegs.pe (s.system_enterTask kind img)
  exact ⟨hmem, hpe'.trans hpe, fun hvm => if_pos hvm⟩

/-- Past the commit point the registers hold the images, and VM is that of the new task. -/
theorem meets_of_switchCommit {new : Found} {sel : Word} {kind : SwitchKind} {ret : DWord} {s t : State} {img : TaskImage}
    (hs : Meets LegalPe s) (h : switchCommit new sel kind ret s = .ok img t) : Meets LegalPe t ∧ t.flags.vm = img.flags.vm := by
  rw [switchCommit_run] at h
  obtain ⟨_, a, hleave, h⟩ := exists_of_bind_ok h
  obtain ⟨_, u, hread, h⟩ := exists_of_bind_ok h
  cases h
  have hstores := stores_of_leaveTask hleave
  have ha : Meets LegalPe a := by
    rw [hstores.mem_only]
    exact hs.of_mem hstores.wf
  have hu : Meets LegalPe u := by
    rw [(readTask_ok hread).1]
    exact ha
  exact ⟨hu.enterTask kind img, (carries_enterTask u kind img).vm⟩

theorem endState_inNewTask (x : Op α) (s : State) : endState (inNewTask x s) = endState (x s) := by
  unfold inNewTask
  cases x s <;> rfl

/-- Up to the commit point a switch is undone, past it the state is that of the new task (R545). -/
theorem upholds_switchTasks (new : Found) (sel : Word) (kind : SwitchKind) (ret : DWord) :
    Upholds LegalPe (switchTasks new sel kind ret) := by
  intro s hs
  refine (silent_raiseIf _ _).endState_bind hs fun _ => ?_
  cases hcommit : switchCommit new sel kind ret s with
  | error e u =>
    rw [bind_of_error (atomically_of_error hcommit)]
    exact hs
  | ok img t =>
    obtain ⟨ht, hvm⟩ := meets_of_switchCommit hs hcommit
    rw [bind_of_ok (atomically_of_ok hcommit), endState_inNewTask]
    exact meets_loadTask ht hvm

/-! ### Delivery (R433 to R443) -/

theorem upholds_deliverReal {Q : Bool → Bool → BitVec 2 → Prop} (n : Nat) (ret : DWord) : Upholds Q (deliverReal n ret) :=
  (silent_query _).keeps_bind fun _ => (silent_raiseIf _ _).keeps_bind fun _ => (silent_linRead _ _).keeps_bind fun _ =>
    (silent_linRead _ _).keeps_bind fun _ => keeps_bind (upholds_pushAllOf _ _) fun _ => upholds_update fun _ => rfl

theorem Meets.markAccessed {Q : Bool → Bool → BitVec 2 → Prop} {s : State} (h : Meets Q s) (f : Found) :
    Meets Q (s.markAccessed f) := by
  obtain ⟨hmem, hwf⟩ := markAccessed_spec f s
  rw [hmem]
  exact h.of_mem hwf

theorem upholds_deliverSame {Q : Bool → Bool → BitVec 2 → Prop} (g : Desc) (cs : Word) (c : Found) (err : Option Word) (ret : DWord) :
    Upholds Q (deliverSame g cs c err ret) :=
  keeps_query_id_bind fun _ hs => (silent_checkPushes _ _).keeps_bind fun _ => (silent_raiseIf _ _).keeps_bind fun _ =>
    keeps_bind (keeps_atomically (keeps_bind (upholds_pushAllOf _ _) fun _ => upholds_installCode _ _ _ _)) fun _ =>
      keeps_bind (keeps_undoneTo (hs.markAccessed c) (upholds_pushAllOf _ _)) fun _ => upholds_updateFlags

/-- What is done on the stack of another level once it is entered (R439, R441). -/
theorem upholds_enterOnStack {Q : Bool → Bool → BitVec 2 → Prop} {enter : State → State} (h : ∀ s, Meets Q s → Meets Q (enter s))
    (w : Width) (frame : List DWord) (c : Found) (cs : Word) (dpl : BitVec 2) (off : DWord) (gate : Bool) :
    Upholds Q (atomically do
      update enter
      pushAllOf w frame
      installCode c cs dpl off
      updateFlags fun f => f.enter gate) :=
  keeps_atomically (keeps_bind (keeps_update h) fun _ => keeps_bind (upholds_pushAllOf _ _) fun _ =>
    keeps_bind (upholds_installCode _ _ _ _) fun _ => upholds_updateFlags)

theorem upholds_deliverInner (g : Desc) (cs : Word) (c : Found) (err : Option Word) (ret : DWord) :
    Upholds ProtMode (deliverInner g cs c err ret) :=
  (silent_query _).keeps_bind fun _ => (silent_innerStack _).keeps_bind fun _ => (silent_checkInnerStack _ _ _).keeps_bind fun f =>
    (silent_raiseIf _ _).keeps_bind fun _ => (silent_raiseIf _ _).keeps_bind fun _ => keeps_bind (upholds_setAccessed f) fun _ =>
      upholds_enterOnStack (fun _ hs => hs.withStack _ _ _ _) _ _ _ _ _ _ _

/-- Whatever CPL becomes, it is legal if PE is set and VM is cleared. -/
theorem Meets.clearVm {s t u : State} (h : Meets LegalPe s) {cpl : BitVec 2} (hu : u.guard = { s.guard with cpl := cpl })
    (ht : t.guard = { u.guard with vm := false } := by rfl) : Meets LegalPe t := by
  unfold Meets
  rw [ht, hu]
  exact ⟨h.1, h.2.1, fun hvm => absurd hvm Bool.false_ne_true⟩

/-- The delivery from V86 mode clears VM, so that level 0 is legal (R441). -/
theorem upholds_deliverV86 (g : Desc) (cs : Word) (c : Found) (err : Option Word) (ret : DWord) :
    Upholds LegalPe (deliverV86 g cs c err ret) :=
  (silent_query _).keeps_bind fun _ => (silent_innerStack _).keeps_bind fun _ => (silent_checkInnerStack _ _ _).keeps_bind fun f =>
    (silent_raiseIf _ _).keeps_bind fun _ => (silent_raiseIf _ _).keeps_bind fun _ => keeps_bind (upholds_setAccessed f) fun _ =>
      upholds_enterOnStack (fun s hs => hs.clearVm (s.guard_withStack f _ _ 0)) _ _ _ _ _ _ _

/-- The level is changed on one of two paths: from V86 mode to level 0 with VM cleared, and to an inner level with VM clear (R437). -/
theorem upholds_deliverGate (idt : Word) (g : Desc) (err : Option Word) (ret : DWord) :
    Upholds LegalPe (deliverGate idt g err ret) := by
  intro s hs
  unfold deliverGate
  rw [query_id_bind_run]
  refine (silent_raiseIf _ _).endState_bind hs fun _ => (silent_lookup _ _).endState_bind hs fun c =>
    (silent_raiseIf _ _).endState_bind hs fun _ => (silent_raiseIf _ _).endState_bind hs fun _ => ?_
  cases hvm : s.flags.vm with
  | true =>
    exact (silent_raiseIf _ _).endState_bind hs fun _ => (silent_raiseIf _ _).endState_bind hs fun _ =>
      upholds_deliverV86 g g.gateSelector c err ret s hs
  | false =>
    have hinner := (upholds_deliverInner g g.gateSelector c err ret s (hs.protMode hs.2.1 hvm)).legalPe_of_protMode
    have hother := keeps_ite (c.desc.isConforming || c.desc.dpl == s.cpl) (upholds_deliverSame g g.gateSelector c err ret)
      (keeps_raiseExc _ (Exc.gp (selCode g.gateSelector))) s hs
    simp only [Bool.false_eq_true, if_false]
    split
    · exact hinner
    · exact hother

theorem upholds_finishTaskGate {Q : Bool → Bool → BitVec 2 → Prop} (is386 : Bool) (err : Option Word) :
    Upholds Q (finishTaskGate is386 err) :=
  (silent_query _).keeps_bind fun _ => (silent_checkPushes _ _).keeps_bind fun _ =>
    keeps_bind (keeps_atomically (upholds_pushAllOf _ _)) fun _ => keeps_raiseIf _ _ _

/-- A switch to the task that a selector names (R442, R447). -/
theorem upholds_toTask (sel : Word) (fits : Desc → Bool) (kind : SwitchKind) (ret : DWord) {finish : Found → Op Unit}
    (h : ∀ f, Upholds LegalPe (finish f)) : Upholds LegalPe (toTask sel fits kind ret finish) :=
  (silent_lookupGdt _ _).keeps_bind fun f => (silent_raiseIf _ _).keeps_bind fun _ => (silent_raiseIf _ _).keeps_bind fun _ =>
    keeps_bind (upholds_switchTasks _ _ _ _) fun _ => keeps_inNewTask (h f)

theorem upholds_deliverProt (n : Nat) (src : Source) (err : Option Word) (ret : DWord) :
    Upholds LegalPe (deliverProt n src err ret) :=
  (silent_query _).keeps_bind fun _ => (silent_raiseIf _ _).keeps_bind fun _ => (silent_readDesc _).keeps_bind fun _ =>
    (silent_raiseIf _ _).keeps_bind fun _ => (silent_raiseIf _ _).keeps_bind fun _ => (silent_raiseIf _ _).keeps_bind fun _ =>
      keeps_ite _ (upholds_toTask _ _ _ _ fun f => upholds_finishTaskGate f.desc.is386 err) (upholds_deliverGate _ _ _ _)

/-- One delivery, in whatever mode (R433). -/
theorem upholds_deliverOnce (n : Nat) (src : Source) (err : Option Word) (ret : DWord) : Upholds Legal (deliverOnce n src err ret) := by
  have run {Q : Bool → Bool → BitVec 2 → Prop} : Upholds Q (update fun s => { s with run := .running }) := upholds_update fun _ => rfl
  intro s hs
  unfold deliverOnce
  rw [query_bind_run]
  cases hpe : s.pe with
  | true => exact (keeps_bind (upholds_deliverProt n src err ret) (fun _ => run) s (hs.legalPe_of_pe hpe)).legal_of_legalPe
  | false => exact keeps_bind (keeps_atomically (upholds_deliverReal n ret)) (fun _ => run) s hs

end Sys2Proof.Machine
end

section
/-!
PROOFS. Far transfers, returns and IRET, and the system instructions (44_control_transfer.md R402 to R418, 45_interrupt_iret.md R430 to
R448, 46_system.md): from a legal combination of PE, VM and CPL each ends in one.
-/
namespace Sys2Proof.Machine

/-! ### Far JMP and CALL (R402 to R414) -/

section
variable {Q : Bool → Bool → BitVec 2 → Prop}

theorem upholds_transferTo (k : Transfer) (w : Width) (c : Found) (cs : Word) (t : DWord) : Upholds Q (transferTo k w c cs t) :=
  have install (cpl : BitVec 2) : Upholds Q (installCode c cs cpl t) := upholds_installCode c cs cpl t
  (silent_query _).keeps_bind fun s => (silent_raiseIf _ _).keeps_bind fun _ => (silent_raiseIf _ _).keeps_bind fun _ =>
    keeps_atomically (keeps_ite _ (keeps_bind (upholds_pushAllOf _ _) fun _ => install s.cpl) (install s.cpl))

theorem upholds_farToCode (k : Transfer) (d : Found) (sel : Word) (off : DWord) : Upholds Q (farToCode k d sel off) :=
  have enter (w : Width) : Upholds Q (raiseIf (!d.desc.p) (Exc.np (selCode sel)) >>= fun _ => transferTo k w d sel (truncTo w off)) :=
    (silent_raiseIf _ _).keeps_bind fun _ => upholds_transferTo _ _ _ _ _
  (silent_query _).keeps_bind fun s => keeps_ite _ ((silent_raiseIf _ _).keeps_bind fun _ => enter s.osz)
    ((silent_raiseIf _ _).keeps_bind fun _ => (silent_raiseIf _ _).keeps_bind fun _ => enter s.osz)

theorem upholds_copyParams (old : State) (w : Width) (n : Nat) : Upholds Q (copyParams old w n) := by
  induction n with
  | zero => exact keeps_pure _ _
  | succ n ih => exact (silent_readParam old w n).keeps_bind fun _ => keeps_bind (upholds_push _ _) fun _ => ih

end

theorem upholds_callInner (g : Desc) (c : Found) (cs : Word) : Upholds ProtMode (callInner g c cs) :=
  (silent_query _).keeps_bind fun _ => (silent_innerStack _).keeps_bind fun _ => (silent_checkInnerStack _ _ _).keeps_bind fun f =>
    (silent_raiseIf _ _).keeps_bind fun _ => (silent_raiseIf _ _).keeps_bind fun _ => keeps_bind (upholds_setAccessed f) fun _ =>
      keeps_atomically <| keeps_bind (keeps_update fun _ hs => hs.withStack _ _ _ _) fun _ => keeps_bind (upholds_pushAllOf _ _)
        fun _ => keeps_bind (upholds_copyParams _ _ _) fun _ => keeps_bind (upholds_pushAllOf _ _) fun _ => upholds_installCode _ _ _ _

theorem upholds_farThroughGate (k : Transfer) (g : Desc) (sel : Word) : Upholds ProtMode (farThroughGate k g sel) := by
  refine (silent_query _).keeps_bind fun s => (silent_raiseIf _ _).keeps_bind fun _ => (silent_raiseIf _ _).keeps_bind fun _ =>
    (silent_raiseIf _ _).keeps_bind fun _ => (silent_raiseIf _ _).keeps_bind fun _ => (silent_lookup _ _).keeps_bind fun c =>
      (silent_raiseIf _ _).keeps_bind fun _ => ?_
  have enter (k : Transfer) := (silent_raiseIf (!c.desc.p) (Exc.np (selCode g.gateSelector))).keeps_bind fun _ =>
    keeps_ite ((k == .call && !c.desc.isConforming && decide (c.desc.dpl < s.cpl)) = true)
      (upholds_callInner g c g.gateSelector) (upholds_transferTo k g.gateWidth c g.gateSelector g.gateOffset)
  cases k with
  | jmp => exact (silent_raiseIf _ _).keeps_bind fun _ => (silent_raiseIf _ _).keeps_bind fun _ => enter .jmp
  | call => exact (silent_raiseIf _ _).keeps_bind fun _ => enter .call

theorem upholds_farSwitch (k : Transfer) (f : Found) (ts : Word) : Upholds LegalPe (farSwitch k f ts) :=
  (silent_query _).keeps_bind fun _ => keeps_bind (upholds_switchTasks _ _ _ _) fun _ =>
    keeps_inNewTask ((silent_query _).keeps_bind fun _ => keeps_raiseIf _ _ _)

theorem upholds_farThroughTaskGate (k : Transfer) (g : Desc) (sel : Word) : Upholds LegalPe (farThroughTaskGate k g sel) :=
  (silent_query _).keeps_bind fun _ => (silent_raiseIf _ _).keeps_bind fun _ => (silent_raiseIf _ _).keeps_bind fun _ =>
    (silent_lookupGdt _ _).keeps_bind fun _ => (silent_raiseIf _ _).keeps_bind fun _ => (silent_raiseIf _ _).keeps_bind fun _ =>
      upholds_farSwitch _ _ _

theorem upholds_farToTss (k : Transfer) (f : Found) (sel : Word) : Upholds LegalPe (farToTss k f sel) :=
  (silent_query _).keeps_bind fun _ => (silent_raiseIf _ _).keeps_bind fun _ => (silent_raiseIf _ _).keeps_bind fun _ =>
    (silent_raiseIf _ _).keeps_bind fun _ => (silent_raiseIf _ _).keeps_bind fun _ => upholds_farSwitch _ _ _

/-- In protected mode a transfer may change CPL, or enter a task with VM set, but not both (R406). -/
theorem meets_farProt (k : Transfer) (sel : Word) (off : DWord) {s : State} (hs : Meets ProtMode s) :
    Meets LegalPe (endState (farProt k sel off s)) := by
  have hpe := hs.legalPe_of_protMode
  refine (silent_raiseIf _ _).endState_bind hpe fun _ => (silent_lookup _ _).endState_bind hpe fun d => ?_
  split
  · exact upholds_farToCode k d sel off s hpe
  split
  · exact (upholds_farThroughGate k d.desc sel s hs).legalPe_of_protMode
  split
  · exact upholds_farThroughTaskGate k d.desc sel s hpe
  split
  · exact upholds_farToTss k d sel s hpe
  · exact hpe

/-- What is done in protected mode and outside it, by the mode that the machine is in. -/
theorem upholds_mode_bind {prot outside : Op Unit} (hprot : ∀ s, Meets ProtMode s → Meets LegalPe (endState (prot s)))
    (houtside : Upholds Legal outside) : Upholds Legal (query State.mode >>= fun
      | .prot => prot
      | _ => outside) := by
  intro s hs
  rw [query_bind_run]
  cases hmode : s.mode with
  | prot =>
    obtain ⟨hpe, hvm⟩ := State.mode_prot hmode
    exact (hprot s (hs.protMode hpe hvm)).legal_of_legalPe
  | real | v86 => exact houtside s hs

theorem upholds_farTransfer (k : Transfer) (sel : Word) (off : DWord) : Upholds Legal (farTransfer k sel off) := by
  refine upholds_mode_bind (fun s hs => meets_farProt k sel off hs) ?_
  cases k with
  | jmp => exact upholds_enter8086 _ _
  | call => exact keeps_atomically (upholds_callFar8086 _ _)

theorem upholds_farIndirect (k : Transfer) (m : EA) : Upholds Legal (farIndirect k m) :=
  (silent_readFarPointer m).keeps_bind fun _ => upholds_farTransfer _ _ _

/-! ### Far RET (R405, R415 to R418) -/

theorem upholds_returnSame {Q : Bool → Bool → BitVec 2 → Prop} (w : Width) (rs n : Word) : Upholds Q (returnSame w rs n) :=
  (silent_query _).keeps_bind fun _ => (silent_checkReturnCode _ _).keeps_bind fun c => (silent_checkStackRead _).keeps_bind fun _ =>
    (silent_stackRead _ _).keeps_bind fun _ => (silent_raiseIf _ _).keeps_bind fun _ =>
      upholds_setAccessed_bind c fun s => (s.withCode c rs _ _).guard_setSp _

/-- The registers of a return to an outer level, both accessed bits set (R417, R440). -/
theorem upholds_returnToOuter (c f : Found) {g : State → State} (h : ∀ s, ∃ cpl, (g s).guard = { s.guard with cpl := cpl }) :
    Upholds ProtMode (setAccessed c >>= fun _ => setAccessed f >>= fun _ => update g) := by
  refine keeps_bind (upholds_setAccessed c) fun _ => keeps_bind (upholds_setAccessed f) fun _ => keeps_update fun s hs => ?_
  obtain ⟨cpl, hg⟩ := h s
  unfold Meets
  rw [hg]
  exact hs

theorem upholds_returnOuter (w : Width) (rs n : Word) : Upholds ProtMode (returnOuter w rs n) :=
  (silent_checkStackRead _).keeps_bind fun _ => (silent_checkReturnCode _ _).keeps_bind fun c =>
    (silent_stackRead _ _).keeps_bind fun nsp => (silent_stackRead _ _).keeps_bind fun nss =>
      (silent_checkReturnStack _ _).keeps_bind fun f => (silent_stackRead _ _).keeps_bind fun off => (silent_raiseIf _ _).keeps_bind
        fun _ => upholds_returnToOuter c f fun t =>
          ⟨_, (t.withCode c rs (selRpl rs) off).guard_withStack f (nss.setWidth 16) nsp (selRpl rs)⟩

theorem upholds_returnProt (n : Word) : Upholds ProtMode (returnProt n) :=
  (silent_query _).keeps_bind fun _ => (silent_checkStackRead _).keeps_bind fun _ => (silent_stackRead _ _).keeps_bind fun _ =>
    (silent_raiseIf _ _).keeps_bind fun _ => keeps_ite _ (upholds_returnSame _ _ _) (upholds_returnOuter _ _ _)

theorem upholds_returnFar (n : Word) : Upholds Legal (returnFar n) :=
  upholds_mode_bind (fun s hs => (upholds_returnProt n s hs).legalPe_of_protMode) (keeps_atomically (upholds_returnFar8086 n))

/-! ### Interrupts and IRET (R430 to R448) -/

theorem upholds_softwareInterrupt (n : Nat) : Upholds Legal (softwareInterrupt n) :=
  (silent_query _).keeps_bind fun _ => upholds_deliverOnce _ _ _ _

theorem upholds_interruptVector (n : Byte) : Upholds Legal (interruptVector n) :=
  silent_checkV86Iopl.keeps_bind fun _ => upholds_softwareInterrupt _

theorem upholds_interruptOnOverflow : Upholds Legal interruptOnOverflow :=
  (silent_query _).keeps_bind fun _ => keeps_ite _ (upholds_softwareInterrupt _) (keeps_pure _ _)

theorem upholds_iret8086 {Q : Bool → Bool → BitVec 2 → Prop} : Upholds Q iret8086 :=
  (silent_query _).keeps_bind fun _ => (silent_checkPops _ _).keeps_bind fun _ => keeps_bind (upholds_pop _) fun _ =>
    keeps_bind (upholds_pop _) fun _ => keeps_bind (upholds_pop _) fun _ => upholds_update fun _ => rfl

theorem upholds_iretSame {Q : Bool → Bool → BitVec 2 → Prop} (w : Width) (rs : Word) : Upholds Q (iretSame w rs) :=
  (silent_query _).keeps_bind fun _ => (silent_checkStackRead _).keeps_bind fun _ => (silent_checkReturnCode _ _).keeps_bind fun c =>
    (silent_stackRead _ _).keeps_bind fun off => (silent_raiseIf _ _).keeps_bind fun _ => (silent_stackRead _ _).keeps_bind fun _ =>
      upholds_setAccessed_bind c fun t => congrArg (fun g : Guard => { g with vm := t.flags.vm })
        ((t.withCode c rs (selRpl rs) off).guard_setSp (t.sp + BitVec.ofNat 32 (3 * w.bytes)))

theorem upholds_iretOuter (w : Width) (rs : Word) : Upholds ProtMode (iretOuter w rs) :=
  (silent_checkStackRead _).keeps_bind fun _ => (silent_checkReturnCode _ _).keeps_bind fun c =>
    (silent_stackRead _ _).keeps_bind fun nsp => (silent_stackRead _ _).keeps_bind fun nss =>
      (silent_checkReturnStack _ _).keeps_bind fun f => (silent_stackRead _ _).keeps_bind fun off =>
        (silent_raiseIf _ _).keeps_bind fun _ => (silent_stackRead _ _).keeps_bind fun _ => upholds_returnToOuter c f fun t =>
          ⟨_, congrArg (fun g : Guard => { g with vm := t.flags.vm })
            ((t.withCode c rs (selRpl rs) off).guard_withStack f (nss.setWidth 16) nsp (selRpl rs))⟩

/-- CPL becomes 3 whatever VM is in the image (R446). -/
theorem upholds_iretV86 : Upholds LegalPe iretV86 := by
  refine (silent_checkStackRead _).keeps_bind fun _ => ?_
  iterate 9 refine (silent_stackRead _ _).keeps_bind fun _ => ?_
  exact keeps_update fun _ hs => ⟨hs.1, hs.2.1, fun _ => rfl⟩

theorem upholds_iretTask : Upholds LegalPe iretTask :=
  (silent_query _).keeps_bind fun _ => (silent_linRead _ _).keeps_bind fun _ => upholds_toTask _ _ _ _ fun _ =>
    (silent_query _).keeps_bind fun _ => keeps_raiseIf _ _ _

/-- NT, then the image, then the RPL of the selector decide between the four returns (R444). -/
theorem meets_iretProt {s : State} (hs : Meets ProtMode s) : Meets LegalPe (endState (iretProt s)) := by
  have hpe := hs.legalPe_of_protMode
  have level (rs : Word) (img : DWord) : Meets LegalPe (endState ((if img.getLsbD 17 then iretV86 else do
      raiseIf (decide (selRpl rs < s.cpl)) (Exc.gp (selCode rs))
      if selRpl rs = s.cpl then iretSame s.osz rs else iretOuter s.osz rs) s)) := by
    split
    · exact upholds_iretV86 s hpe
    · exact ((silent_raiseIf _ _).keeps_bind (fun _ => keeps_ite _ (upholds_iretSame _ _) (upholds_iretOuter _ _)) s
        hs).legalPe_of_protMode
  unfold iretProt
  rw [query_id_bind_run]
  split
  · exact upholds_iretTask s hpe
  · refine (silent_checkStackRead _).endState_bind hpe fun _ => (silent_stackRead _ _).endState_bind hpe fun rs => ?_
    dsimp only
    split
    · exact (silent_stackRead _ _).endState_bind hpe fun img => level _ img
    · exact level _ 0

theorem upholds_interruptReturn : Upholds Legal interruptReturn :=
  silent_checkV86Iopl.keeps_bind fun _ => upholds_mode_bind (fun _ hs => meets_iretProt hs) (keeps_atomically upholds_iret8086)

section
variable {Q : Bool → Bool → BitVec 2 → Prop}

/-! ### System instructions (R451 to R468) -/

theorem upholds_writeRm16 (rm : RM Reg) (v : Word) : Upholds Q (writeRm16 rm v) :=
  (silent_query _).keeps_bind fun _ => upholds_writeLoc _ _ _

theorem upholds_setZf (b : Bool) : Upholds Q (setZf b) := upholds_updateFlags

theorem upholds_adjustRpl (rm : RM Reg) (q : Reg) : Upholds Q (adjustRpl rm q) :=
  silent_checkRecognized.keeps_bind fun _ => (silent_query _).keeps_bind fun _ => (silent_readRm16 _).keeps_bind fun _ =>
    (silent_checkWriteLoc _ _).keeps_bind fun _ => keeps_ite _ (keeps_bind (upholds_writeRm16 _ _) fun _ => upholds_setZf _)
      (upholds_setZf _)

/-- What follows a probe changes ZF, and where a descriptor is found what `found` does (R451). -/
theorem upholds_probe_bind (sel : Word) {found : Desc → Op Unit} (h : ∀ d, Upholds Q (found d)) :
    Upholds Q (probe sel >>= fun
      | some d => found d
      | none => setZf false) := by
  refine (silent_probe sel).keeps_bind fun d => ?_
  cases d with
  | none => exact upholds_setZf _
  | some d => exact h d

theorem upholds_loadAccessRights (q : Reg) (rm : RM Reg) : Upholds Q (loadAccessRights q rm) :=
  silent_checkRecognized.keeps_bind fun _ => (silent_readSelector _).keeps_bind fun sel => (silent_query _).keeps_bind fun _ =>
    upholds_probe_bind sel fun _ => keeps_ite _
      (keeps_bind upholds_drawUndef fun _ =>
        keeps_bind (upholds_update fun s => s.guard_setRegS _ q _) fun _ => upholds_setZf _)
      (upholds_setZf _)

theorem upholds_loadSegmentLimit (q : Reg) (rm : RM Reg) : Upholds Q (loadSegmentLimit q rm) :=
  silent_checkRecognized.keeps_bind fun _ => (silent_readSelector _).keeps_bind fun sel => (silent_query _).keeps_bind fun _ =>
    upholds_probe_bind sel fun _ => keeps_ite _
      (keeps_bind (upholds_update fun s => s.guard_setRegS _ q _) fun _ => upholds_setZf _) (upholds_setZf _)

theorem upholds_verify (test : Desc → Word → BitVec 2 → Bool) (rm : RM Reg) : Upholds Q (verify test rm) :=
  silent_checkRecognized.keeps_bind fun _ => (silent_readRm16 _).keeps_bind fun sel => (silent_query _).keeps_bind fun _ =>
    upholds_probe_bind sel fun _ => upholds_setZf _

theorem upholds_storeTable (t : State → TableReg) (m : EA) : Upholds Q (storeTable t m) :=
  (silent_query _).keeps_bind fun _ => (silent_checkSeg _ _ _ _).keeps_bind fun _ => keeps_bind (upholds_memWrite _ _ _ _) fun _ =>
    upholds_memWrite _ _ _ _

theorem upholds_loadLdt (rm : RM Reg) : Upholds Q (loadLdt rm) :=
  silent_checkRecognized.keeps_bind fun _ => silent_checkPrivileged.keeps_bind fun _ => (silent_readRm16 _).keeps_bind fun _ =>
    keeps_ite _ (upholds_update fun _ => rfl) ((silent_lookupGdt _ _).keeps_bind fun _ => (silent_raiseIf _ _).keeps_bind fun _ =>
      (silent_raiseIf _ _).keeps_bind fun _ => upholds_update fun _ => rfl)

theorem upholds_loadTaskRegister (rm : RM Reg) : Upholds Q (loadTaskRegister rm) :=
  silent_checkRecognized.keeps_bind fun _ => silent_checkPrivileged.keeps_bind fun _ => (silent_readRm16 _).keeps_bind fun _ =>
    (silent_raiseIf _ _).keeps_bind fun _ => (silent_lookupGdt _ _).keeps_bind fun _ => (silent_raiseIf _ _).keeps_bind fun _ =>
      (silent_raiseIf _ _).keeps_bind fun _ => keeps_bind (upholds_changeAccessRights _ _) fun _ =>
        upholds_update fun _ => rfl

theorem upholds_storeLdt (rm : RM Reg) : Upholds Q (storeLdt rm) :=
  silent_checkRecognized.keeps_bind fun _ => (silent_query _).keeps_bind fun _ => upholds_writeRm16 _ _

theorem upholds_storeTaskRegister (rm : RM Reg) : Upholds Q (storeTaskRegister rm) :=
  silent_checkRecognized.keeps_bind fun _ => (silent_query _).keeps_bind fun _ => upholds_writeRm16 _ _

theorem upholds_storeMsw (rm : RM Reg) : Upholds Q (storeMsw rm) :=
  (silent_query _).keeps_bind fun _ => upholds_writeRm16 _ _

theorem silent_readTable (m : EA) : Silent (readTable m) :=
  silent_bind silent_checkPrivileged fun _ => silent_bind (silent_query _) fun _ => silent_bind (silent_checkSeg _ _ _ _) fun _ =>
    silent_bind (silent_memRead _ _ _) fun _ => silent_bind (silent_memRead _ _ _) fun _ => silent_pure _

theorem upholds_loadGdt (m : EA) : Upholds Q (loadGdt m) :=
  (silent_readTable m).keeps_bind fun _ => upholds_update fun _ => rfl

theorem upholds_loadIdt (m : EA) : Upholds Q (loadIdt m) :=
  (silent_readTable m).keeps_bind fun _ => upholds_update fun _ => rfl

theorem upholds_halt : Upholds Q halt := silent_checkPrivileged.keeps_bind fun _ => upholds_update fun _ => rfl

theorem upholds_moveSpecial {f : State → State} (h : ∀ s, (f s).guard = s.guard) : Upholds Q (moveSpecial f) :=
  silent_checkPrivileged.keeps_bind fun _ => keeps_bind (upholds_update h) fun _ => upholds_undefFlags _

end

/-- Past the test of privilege a privileged operation runs at level 0 or in real-address mode (R450). -/
theorem upholds_checkPrivileged_bind {x : Op Unit}
    (h : ∀ s, (s.pe = false ∨ s.cpl = 0) → Meets Legal s → Meets Legal (endState (x s))) :
    Upholds Legal (checkPrivileged >>= fun _ => x) := by
  intro s hs
  by_cases hlevel : s.pe = false ∨ s.cpl = 0
  · rw [bind_of_ok (checkPrivileged_of_allowed hlevel)]
    exact h s hlevel hs
  · rw [bind_of_error ((checkPrivileged_run s).trans (if_neg hlevel))]
    exact hs

theorem upholds_loadMsw (rm : RM Reg) : Upholds Legal (loadMsw rm) :=
  upholds_checkPrivileged_bind fun _ hlevel hs => (silent_readRm16 rm).endState_bind hs fun _ => hs.legal_cr0 hlevel _

theorem upholds_clearTaskSwitched : Upholds Legal clearTaskSwitched :=
  upholds_checkPrivileged_bind fun _ hlevel hs => hs.legal_cr0 hlevel _

/-- A write of CR0 may set or clear PE (R45). -/
theorem upholds_movToCr (c : CReg) (q : Reg) : Upholds Legal (moveSpecial fun s => s.setCreg c (s.reg q)) := by
  cases c with
  | cr0 => exact upholds_checkPrivileged_bind fun _ hlevel hs => (hs.legal_cr0 hlevel _).of_guard rfl
  | cr2 | cr3 => exact upholds_moveSpecial fun _ => rfl

end Sys2Proof.Machine
end

section
/-!
PROOFS. What every instruction answers meets the invariant, its exceptions taken included (10_state.md R41, 60_exceptions.md R503, R530).
-/
namespace Sys2Proof.Machine

open Sys2Proof.Claims

/-! ### Taking an exception (R503, R520, R530) -/

theorem State.Inv.of_guard {s t : State} (h : s.Inv) (heq : t.guard = s.guard) : t.Inv :=
  (inv_iff_meets_legal t).mpr (((inv_iff_meets_legal s).mp h).of_guard heq)

/-- Each delivery of a chain starts where the one before it failed. -/
theorem inv_deliverFrom (k n : Nat) (src : Source) (err : Option Word) (ret : DWord) {s : State} (hs : s.Inv) :
    (deliverFrom k n src err ret s).Inv := by
  induction k generalizing n src err ret s with
  | zero => exact hs.of_guard rfl
  | succ k ih =>
    have hend := upholds_deliverOnce n src err ret s hs
    cases h : deliverOnce n src err ret s with
    | ok _ u =>
      rw [h] at hend
      rw [deliverFrom_of_ok h]
      exact hend
    | error e u =>
      rw [h] at hend
      have hnoted : (u.noteFault e).Inv := State.Inv.of_guard hend rfl
      rw [deliverFrom_of_error h]
      dsimp only
      split
      · exact hnoted.of_guard rfl
      · split
        · exact ih _ _ _ _ hnoted
        · exact ih _ _ _ _ hnoted

theorem State.Inv.deliver {s : State} (hs : s.Inv) (n : Nat) (src : Source) (err : Option Word) (ret : DWord) :
    (s.deliver n src err ret).Inv := inv_deliverFrom 5 n src err ret hs

theorem State.Inv.raise {s : State} (hs : s.Inv) (e : Exc) : (s.raise e).Inv :=
  State.Inv.deliver (s := { s.noteFault e with trapDue := false, eip := s.insnStart }) (hs.of_guard rfl) _ _ _ _

/-- Whatever next state an outcome answers meets the invariant. -/
def NextInv (go : Host.Outcome State Fault Refusal) : Prop := ∀ t, go = .next t → t.Inv

theorem nextInv_next {t : State} (h : t.Inv) : NextInv (.next t) := by
  rintro u ⟨⟩
  exact h

section
variable {s : State} (hs : s.Inv)
include hs

theorem nextInv_complete {x : Op Unit} (hx : Upholds Legal x) : NextInv (complete x s) := by
  have hend := hx s hs
  cases h : x s with
  | ok _ u =>
    rw [h] at hend
    exact complete_of_ok h ▸ nextInv_next hend
  | error e u =>
    rw [h] at hend
    exact complete_of_error h ▸ nextInv_next (State.Inv.raise hend e)

theorem nextInv_instr {x : Op Unit} (hx : Upholds Legal x) : NextInv (instr x s) := nextInv_complete hs (keeps_atomically hx)

/-- An ESC instruction takes an exception, or is refused (R176). -/
theorem nextInv_esc (a b : BitVec 3) (rm : RM Reg) : NextInv (exec (.esc a b rm) s) := by
  have hexec : exec (.esc a b rm) s = execEsc a b rm s := rfl
  rw [hexec, execEsc]
  split
  · exact nextInv_next (hs.raise _)
  · split
    · exact nextInv_next (hs.raise _)
    · rintro t ⟨⟩

end

/-! ### The families of forms

Each takes the one meaning of its forms from the lemma that says it.
-/

theorem upholds_unaryLoc {Q : Bool → Bool → BitVec 2 → Prop} (u : Unary) (sz : Size) (l : Loc) : Upholds Q (unaryLoc u sz l) := by
  cases u with
  | inc => exact upholds_incDecLoc .inc sz l
  | dec => exact upholds_incDecLoc .dec sz l
  | neg => exact upholds_negLoc sz l
  | not => exact upholds_notLoc sz l

theorem upholds_of_stringForm {Q : Bool → Bool → BitVec 2 → Prop} {i : Instr} {s : State} {sz z : Size} {b : Bool}
    {f : Size → Op Unit} (h : stringForm s i = some (sz, b, f)) : Upholds Q (f z) := by
  cases i
  case movsb | movsv => cases h; exact upholds_movs z
  case cmpsb | cmpsv => cases h; exact upholds_cmps z
  case scasb | scasv => cases h; exact upholds_scas z
  case lodsb | lodsv => cases h; exact upholds_lods z
  case stosb | stosv => cases h; exact upholds_stos z
  case insb | insv => cases h; exact upholds_ins z
  case outsb | outsv => cases h; exact upholds_outs z
  all_goals cases h

section
variable {s : State} {i : Instr} (hs : s.Inv)
include hs

theorem nextInv_of_instr {x : Op Unit} (h : exec i s = instr x s) (hx : Upholds Legal x) : NextInv (exec i s) :=
  h ▸ nextInv_instr hs hx

theorem nextInv_of_aluForm {f : AluForm} (h : aluForm s i = some f) : NextInv (exec i s) :=
  nextInv_of_instr hs (exec_of_aluForm h) ((silent_readSrc _ _).keeps_bind fun _ => upholds_aluLoc _ _ _ _)

theorem nextInv_of_unaryForm {u : Unary} {sz : Size} {l : Loc} (h : unaryForm s i = some (u, sz, l)) : NextInv (exec i s) :=
  nextInv_of_instr hs (exec_of_unaryForm h) (upholds_unaryLoc u sz l)

theorem nextInv_of_mulForm {signed : Bool} {sz : Size} {l : Loc} (h : mulForm s i = some (signed, sz, l)) : NextInv (exec i s) :=
  nextInv_of_instr hs (exec_of_mulForm h) <| by
    cases signed with
    | true => exact upholds_imulLoc sz l
    | false => exact upholds_mulLoc sz l

theorem nextInv_of_divForm {signed : Bool} {sz : Size} {l : Loc} (h : divForm s i = some (signed, sz, l)) : NextInv (exec i s) :=
  nextInv_of_instr hs (exec_of_divForm h) <| by
    cases signed with
    | true => exact upholds_idivLoc sz l
    | false => exact upholds_divLoc sz l

theorem nextInv_of_shiftForm {f : ShiftForm} (h : shiftForm s i = some f) : NextInv (exec i s) :=
  nextInv_of_instr hs (exec_of_shiftForm h) (upholds_shiftLoc _ _ _ _)

theorem nextInv_of_doubleForm {f : DoubleShift × Loc × Reg × Nat} (h : doubleForm s i = some f) : NextInv (exec i s) :=
  have ⟨_, _, _, _, hexec⟩ := exec_of_doubleForm h
  nextInv_of_instr hs hexec (upholds_shiftDouble _ _ _ _)

theorem nextInv_of_bitForm {f : BitOp × Loc × Nat} (h : bitForm s i = some f) : NextInv (exec i s) :=
  nextInv_of_instr hs (exec_of_bitForm h).1 (upholds_bitLoc _ _ _ _)

theorem nextInv_of_setForm {f : Cond × RM Reg8} (h : setForm i = some f) : NextInv (exec i s) :=
  nextInv_of_instr hs (exec_of_setForm h s) (upholds_setIf _ _)

theorem nextInv_of_movForm {f : Size × Loc × Src} (h : movForm s i = some f) : NextInv (exec i s) :=
  nextInv_of_instr hs (exec_of_movForm h) ((silent_readSrc _ _).keeps_bind fun _ => upholds_writeLoc _ _ _)

theorem nextInv_of_extendForm {f : Bool × Size × Reg × Loc} (h : extendForm s i = some f) : NextInv (exec i s) :=
  nextInv_of_instr hs (exec_of_extendForm h).1 (upholds_moveExtended _ _ _ _)

theorem nextInv_of_pushSegForm {sr : SReg} (h : pushSegForm i = some sr) : NextInv (exec i s) :=
  nextInv_of_instr hs (exec_of_pushSegForm h s) (upholds_pushSeg sr)

theorem nextInv_of_popSegForm {sr : SReg} (h : popSegForm i = some sr) : NextInv (exec i s) :=
  nextInv_of_instr hs (exec_of_popSegForm h s) (upholds_popSeg sr)

theorem nextInv_of_popForm {x : RM Reg} (h : popForm i = some x) : NextInv (exec i s) :=
  nextInv_of_instr hs (exec_of_popForm h s) (upholds_popRm x)

theorem nextInv_of_pointerForm {f : SReg × Reg × EA} (h : pointerForm i = some f) : NextInv (exec i s) :=
  nextInv_of_instr hs (exec_of_pointerForm h s) (upholds_loadPointer _ _ _)

theorem nextInv_of_inForm {f : Word × Size} (h : inForm s i = some f) : NextInv (exec i s) :=
  nextInv_of_instr hs (exec_of_inForm h) (upholds_inPort _ _)

theorem nextInv_of_outForm {f : Word × Size} (h : outForm s i = some f) : NextInv (exec i s) :=
  nextInv_of_instr hs (exec_of_outForm h) (upholds_outPort _ _)

theorem nextInv_of_stringForm {sz : Size} {b : Bool} {f : Size → Op Unit} (h : stringForm s i = some (sz, b, f)) : NextInv (exec i s) :=
  nextInv_of_instr hs (exec_of_stringForm h) (upholds_repeated b (upholds_of_stringForm h))

theorem nextInv_of_jumpForm {f : Cond × DWord} (h : jumpForm i = some f) : NextInv (exec i s) :=
  nextInv_of_instr hs (exec_of_jumpForm h s) (upholds_jumpIf _ _)

theorem nextInv_of_loopForm {f : LoopCond × Byte} (h : loopForm i = some f) : NextInv (exec i s) :=
  nextInv_of_instr hs (exec_of_loopForm h s) (upholds_loopWhile _ _)

theorem nextInv_of_prefixForm {f : Prefixes → Prefixes} (h : prefixForm i = some f) : NextInv (exec i s) :=
  exec_of_prefixForm h s ▸ nextInv_next (hs.of_guard rfl)

end

/-! ### Every instruction -/

/-- Each instruction is an operation that upholds the legal combinations, or changes nothing that the invariant speaks of. -/
theorem exec_nextInv (i : Instr) {s : State} (hs : s.Inv) : NextInv (exec i s) := by
  cases i with
  | addRm8R8 | addRmvRv | addR8Rm8 | addRvRmv | addAlImm8 | addEaxImmv | addRm8Imm8 | addRmvImm | orRm8R8 | orRmvRv
  | orR8Rm8 | orRvRmv | orAlImm8 | orEaxImmv | orRm8Imm8 | orRmvImm | adcRm8R8 | adcRmvRv | adcR8Rm8 | adcRvRmv
  | adcAlImm8 | adcEaxImmv | adcRm8Imm8 | adcRmvImm | sbbRm8R8 | sbbRmvRv | sbbR8Rm8 | sbbRvRmv | sbbAlImm8 | sbbEaxImmv
  | sbbRm8Imm8 | sbbRmvImm | andRm8R8 | andRmvRv | andR8Rm8 | andRvRmv | andAlImm8 | andEaxImmv | andRm8Imm8 | andRmvImm
  | subRm8R8 | subRmvRv | subR8Rm8 | subRvRmv | subAlImm8 | subEaxImmv | subRm8Imm8 | subRmvImm | xorRm8R8 | xorRmvRv
  | xorR8Rm8 | xorRvRmv | xorAlImm8 | xorEaxImmv | xorRm8Imm8 | xorRmvImm | cmpRm8R8 | cmpRmvRv | cmpR8Rm8 | cmpRvRmv
  | cmpAlImm8 | cmpEaxImmv | cmpRm8Imm8 | cmpRmvImm | testRm8R8 | testRmvRv | testAlImm8 | testEaxImmv | testRm8Imm8
  | testRmvImmv =>
    exact nextInv_of_aluForm hs rfl
  | incRv | decRv | notRm8 | notRmv | negRm8 | negRmv | incRm8 | decRm8 | incRmv | decRmv =>
    exact nextInv_of_unaryForm hs rfl
  | pushRv => exact nextInv_instr hs (upholds_pushReg _)
  | popRv | popRmv => exact nextInv_of_popForm hs rfl
  | bound => exact nextInv_instr hs ((silent_boundCheck _ _).keeps _)
  | arpl => exact nextInv_instr hs (upholds_adjustRpl _ _)
  | pushImmv | pushImm8 => exact nextInv_instr hs (upholds_pushImm _)
  | imulRvRmvImmv | imulRvRmvImm8 => exact nextInv_instr hs (upholds_imul3 _ _ _)
  | jo8 | jno8 | jb8 | jae8 | je8 | jne8 | jbe8 | ja8 | js8 | jns8 | jp8 | jnp8 | jl8 | jge8 | jle8 | jg8 | joNear
  | jnoNear | jbNear | jaeNear | jeNear | jneNear | jbeNear | jaNear | jsNear | jnsNear | jpNear | jnpNear | jlNear
  | jgeNear | jleNear | jgNear =>
    exact nextInv_of_jumpForm hs rfl
  | xchgRm8R8 => exact nextInv_instr hs (upholds_xchg8 _ _)
  | xchgRmvRv => exact nextInv_instr hs (upholds_xchgV _ _)
  | movRm8R8 | movRmvRv | movR8Rm8 | movRvRmv | movAlMoffs | movEaxMoffs | movMoffsAl | movMoffsEax | movR8Imm8
  | movRvImmv | movRm8Imm8 | movRmvImmv =>
    exact nextInv_of_movForm hs rfl
  | movRmvSreg => exact nextInv_instr hs (upholds_movFromSeg _ _)
  | lea => exact nextInv_instr hs (upholds_loadAddress _ _)
  | movSregRm16 => exact nextInv_instr hs (upholds_movToSeg _ _)
  | xchgEaxRv r => exact nextInv_instr hs (upholds_xchgV (.reg r) .eax)
  | callFarPtr | jmpFarPtr => exact nextInv_complete hs (upholds_farTransfer _ _ _)
  | rolRm8 | rolRmv | rorRm8 | rorRmv | rclRm8 | rclRmv | rcrRm8 | rcrRmv | salRm8 | salRmv | shrRm8 | shrRmv | sarRm8
  | sarRmv =>
    exact nextInv_of_shiftForm hs rfl
  | retNearImm | retNear => exact nextInv_instr hs (upholds_returnNear _)
  | les | lds | lss | lfs | lgs => exact nextInv_of_pointerForm hs rfl
  | enter => exact nextInv_instr hs (upholds_enterFrame _ _)
  | retFarImm | retFar => exact nextInv_complete hs (upholds_returnFar _)
  | int => exact nextInv_complete hs (upholds_interruptVector _)
  | esc a b rm => exact nextInv_esc hs a b rm
  | loopne | loope | loop => exact nextInv_of_loopForm hs rfl
  | jcxz => exact nextInv_instr hs (upholds_jumpIfCxZero _)
  | inAlImm8 | inEaxImm8 | inAlDx | inEaxDx => exact nextInv_of_inForm hs rfl
  | outImm8Al | outImm8Eax | outDxAl | outDxEax => exact nextInv_of_outForm hs rfl
  | callRelv => exact nextInv_instr hs (upholds_callRel _)
  | jmpRelv | jmpRel8 => exact nextInv_instr hs (upholds_jumpRel _)
  | mulRm8 | mulRmv | imulRm8 | imulRmv => exact nextInv_of_mulForm hs rfl
  | divRm8 | divRmv | idivRm8 | idivRmv => exact nextInv_of_divForm hs rfl
  | callRmv => exact nextInv_instr hs (upholds_callRm _)
  | callFarMem | jmpFarMem => exact nextInv_complete hs (upholds_farIndirect _ _)
  | jmpRmv => exact nextInv_instr hs (upholds_jumpRm _)
  | pushRmv => exact nextInv_instr hs (upholds_pushRm _)
  | sldt => exact nextInv_instr hs (upholds_storeLdt _)
  | str => exact nextInv_instr hs (upholds_storeTaskRegister _)
  | lldt => exact nextInv_instr hs (upholds_loadLdt _)
  | ltr => exact nextInv_instr hs (upholds_loadTaskRegister _)
  | verr | verw => exact nextInv_instr hs (upholds_verify _ _)
  | sgdt | sidt => exact nextInv_instr hs (upholds_storeTable _ _)
  | lgdt => exact nextInv_instr hs (upholds_loadGdt _)
  | lidt => exact nextInv_instr hs (upholds_loadIdt _)
  | lmsw => exact nextInv_instr hs (upholds_loadMsw _)
  | clts => exact nextInv_instr hs upholds_clearTaskSwitched
  | hlt => exact nextInv_instr hs upholds_halt
  | movRdCr | movRdDr | movRdTr => exact nextInv_instr hs (upholds_moveSpecial fun _ => rfl)
  | movCrRd c => exact nextInv_instr hs (upholds_movToCr c _)
  | movDrRd d => exact nextInv_instr hs (upholds_moveSpecial fun s => s.guard_setDreg d _)
  | movTrRd t => exact nextInv_instr hs (upholds_moveSpecial fun s => s.guard_setTreg t _)
  | smsw => exact nextInv_instr hs (upholds_storeMsw _)
  | lar => exact nextInv_instr hs (upholds_loadAccessRights _ _)
  | lsl => exact nextInv_instr hs (upholds_loadSegmentLimit _ _)
  | seto | setno | setb | setae | sete | setne | setbe | seta | sets | setns | setp | setnp | setl | setge | setle
  | setg =>
    exact nextInv_of_setForm hs rfl
  | btRmvRv | btsRmvRv | btrRmvRv | btRmvImm8 | btsRmvImm8 | btrRmvImm8 | btcRmvImm8 | btcRmvRv =>
    exact nextInv_of_bitForm hs rfl
  | shldImm8 | shldCl | shrdImm8 | shrdCl => exact nextInv_of_doubleForm hs rfl
  | imulRvRmv => exact nextInv_instr hs (upholds_imul2 _ _)
  | movzxRvRm8 | movzxRdRm16 | movsxRvRm8 | movsxRdRm16 => exact nextInv_of_extendForm hs rfl
  | bsf | bsr => exact nextInv_instr hs (upholds_bitScan _ _ _)
  | pushEs | pushCs | pushSs | pushDs | pushFs | pushGs => exact nextInv_of_pushSegForm hs rfl
  | popEs | popSs | popDs | popFs | popGs => exact nextInv_of_popSegForm hs rfl
  | daa => exact nextInv_of_instr hs (exec_daa s) (upholds_decimalAdjust _)
  | das => exact nextInv_of_instr hs (exec_das s) (upholds_decimalAdjust _)
  | aaa => exact nextInv_of_instr hs (exec_aaa s) (upholds_asciiAdjust _ _)
  | aas => exact nextInv_of_instr hs (exec_aas s) (upholds_asciiAdjust _ _)
  | esOverride | csOverride | ssOverride | dsOverride | fsOverride | gsOverride | operandSize | addressSize | lock | repne
  | rep =>
    exact nextInv_of_prefixForm hs rfl
  | pusha => exact nextInv_instr hs upholds_pushAll
  | popa => exact nextInv_instr hs upholds_popAll
  | insb | insv | outsb | outsv | movsb | movsv | cmpsb | cmpsv | stosb | stosv | lodsb | lodsv | scasb | scasv =>
    exact nextInv_of_stringForm hs rfl
  | nop => exact nextInv_instr hs (keeps_pure _ ())
  | cbw => exact nextInv_instr hs upholds_convertAcc
  | cwd => exact nextInv_instr hs upholds_convertDouble
  | wait => exact nextInv_instr hs upholds_waitCoprocessor
  | pushf => exact nextInv_instr hs upholds_pushFlags
  | popf => exact nextInv_instr hs upholds_popFlags
  | sahf => exact nextInv_instr hs upholds_ahToFlags
  | lahf => exact nextInv_instr hs (upholds_update fun s => s.guard_setReg8 .ah _)
  | leave => exact nextInv_instr hs upholds_leaveFrame
  | int3 => exact nextInv_complete hs (upholds_softwareInterrupt _)
  | into => exact nextInv_complete hs upholds_interruptOnOverflow
  | iret => exact nextInv_complete hs upholds_interruptReturn
  | aam => exact nextInv_instr hs upholds_aam
  | aad => exact nextInv_instr hs upholds_aad
  | xlat => exact nextInv_instr hs upholds_tableLookup
  | cmc | clc | stc | cld | std => exact nextInv_next (hs.of_guard rfl)
  | cli => exact nextInv_instr hs upholds_clearInterrupt
  | sti => exact nextInv_instr hs upholds_setInterrupt

end Sys2Proof.Machine
end

section
/-!
PROOFS. The invariant of 10_state.md R41 and 20_memory.md R83 over a step: a RESET, an event delivered, an instruction executed, or none of
these (60_exceptions.md R512).
-/
namespace Sys2Proof.Machine

open Sys2Proof.Claims

/-! ### RESET and the events (R510, R512, R560) -/

theorem State.guard_sample (s : State) : s.sample.guard = s.guard := (congrArg State.guard s.sample_frame :)

/-- RESET keeps memory and leaves real-address mode at CPL 0. -/
theorem State.Inv.resetSignal {s : State} (hs : s.Inv) : s.resetSignal.Inv := by
  obtain ⟨hmem, -⟩ := hs
  have hvm : s.resetSignal.flags.vm = false := rfl
  have hcpl : s.resetSignal.cpl = 0 := rfl
  exact ⟨hmem, State.legalMode_of_vm_clear_of_cpl_zero hvm hcpl⟩

theorem State.Inv.takeEvent {s : State} (hs : s.Inv) (e : Event) : (s.takeEvent e).Inv := by
  have hquiet : ({ s with trapDue := false, inhibit := .none } : State).Inv := hs.of_guard rfl
  cases e with
  | trap => exact hquiet.deliver _ _ _ _
  | nmi =>
    have hserved : ({ s with trapDue := false, inhibit := .none, nmiPending := false } : State).Inv := hs.of_guard rfl
    exact (hserved.deliver 2 .external none s.eip).of_guard rfl
  | intr n => exact hquiet.deliver _ _ _ _

/-! ### One instruction (R505, R512) -/

/-- Prefixes run one after the other, then the instruction under them (R141). -/
theorem nextInv_runDecoded (i : Instr) (ps : List Instr) {s : State} (hs : s.Inv) : NextInv (runDecoded i ps s) := by
  induction ps generalizing s with
  | nil =>
    cases h : prefixFault s i with
    | some e =>
      rw [runDecoded_of_prefixFault h]
      exact nextInv_next (hs.raise e)
    | none =>
      rw [runDecoded_of_no_prefixFault h]
      exact exec_nextInv i hs
  | cons p rest ih =>
    rw [runDecoded]
    cases h : exec p s with
    | next u => exact ih (exec_nextInv p hs u h)
    | fault | refused => rintro t ⟨⟩

theorem nextInv_forgetPrefixes {go : Host.Outcome State Fault Refusal} (h : NextInv go) : NextInv (forgetPrefixes go) := by
  cases go with
  | next u => exact nextInv_next ((h u rfl).of_guard rfl)
  | fault | refused => rintro t ⟨⟩

theorem nextInv_executeNext {s : State} (hs : s.Inv) : NextInv (executeNext s) := by
  have hbegin : s.begin.Inv := hs.of_guard rfl
  cases h : fetchDecode s.begin with
  | ok dn =>
    rw [executeNext_of_ok h]
    exact nextInv_forgetPrefixes (nextInv_runDecoded _ _ (hbegin.of_guard rfl))
  | error e =>
    rw [executeNext_of_error h]
    exact nextInv_next (hbegin.raise e)

/-! ### The boundary (R512) -/

theorem nextInv_proceed {s : State} (hs : s.Inv) : NextInv (proceed s) := by
  unfold proceed
  split
  · exact nextInv_executeNext hs
  · split
    · exact nextInv_next hs
    · exact nextInv_next (hs.of_guard rfl)
  · exact nextInv_next hs
  · exact nextInv_next hs

theorem nextInv_boundary {s : State} (hs : s.Inv) : NextInv (boundary s) := by
  unfold boundary
  split
  · exact nextInv_next hs.resetSignal
  · split
    · exact nextInv_next (hs.takeEvent _)
    · exact nextInv_proceed (hs.of_guard rfl)

/-- Settles O5: the pins sampled, the boundary does one of four things, and each meets the invariant. -/
theorem stepKeepsInvariant : Obligations.StepKeepsInvariant := by
  unfold Obligations.StepKeepsInvariant
  intro s t hs
  exact nextInv_boundary (hs.of_guard s.guard_sample) t

end Sys2Proof.Machine
end
